-- ==== Sys2Proof/Word.lean ====
section
/-!
DEFINITION. The byte of the link, of the reader line and of the nonvolatile array, and the two set types that
the formats of the spec number bit by bit (a vault set, a day mask).
-/

namespace Sys2Proof

/-- A byte of the serial link (R203), of the reader line (R215) or of a record image (R213). -/
abbrev Byte := BitVec 8

/-- A set of vaults, bit v for vault v (R213 byte 5). -/
abbrev VaultSet := BitVec 8

/-- A set of day types, bit 0 MON to bit 6 SUN and bit 7 HOL (R55, R213). -/
abbrev DayMask := BitVec 8

end Sys2Proof
end

