-- ==== Sys2Proof/Syntax.lean ====
section
/-!
DEFINITION. The commands of the part: one constructor of `Instr` for each row of spec/opcode_table.json, with the
fields its rule gives it, and the names those fields are drawn from.

A request field that the spec draws from a list of names is an `Option` of that list: `none` stands for a code that
names none of them, which the request's own check refuses.
-/

namespace Sys2Proof

/-- A vault, 0 to 7 (00, Identities). -/
inductive Vault where
  | v0 | v1 | v2 | v3 | v4 | v5 | v6 | v7
  deriving DecidableEq, Repr

/-- The eight vaults in number order. -/
def Vault.all : List Vault := [.v0, .v1, .v2, .v3, .v4, .v5, .v6, .v7]

/-- The number of a vault. -/
def Vault.num : Vault → Nat
  | .v0 => 0
  | .v1 => 1
  | .v2 => 2
  | .v3 => 3
  | .v4 => 4
  | .v5 => 5
  | .v6 => 6
  | .v7 => 7

/-- The vault of a number, absent above 7. -/
def Vault.ofNum : Nat → Option Vault
  | 0 => some .v0
  | 1 => some .v1
  | 2 => some .v2
  | 3 => some .v3
  | 4 => some .v4
  | 5 => some .v5
  | 6 => some .v6
  | 7 => some .v7
  | _ => none

/-- One value for each vault. -/
structure PerVault (α : Type) where
  v0 : α
  v1 : α
  v2 : α
  v3 : α
  v4 : α
  v5 : α
  v6 : α
  v7 : α
  deriving DecidableEq, Repr

/-- The value of one vault. -/
def PerVault.get {α : Type} (p : PerVault α) : Vault → α
  | .v0 => p.v0
  | .v1 => p.v1
  | .v2 => p.v2
  | .v3 => p.v3
  | .v4 => p.v4
  | .v5 => p.v5
  | .v6 => p.v6
  | .v7 => p.v7

/-- The values with that of one vault replaced. -/
def PerVault.set {α : Type} (p : PerVault α) (v : Vault) (a : α) : PerVault α :=
  match v with
  | .v0 => { p with v0 := a }
  | .v1 => { p with v1 := a }
  | .v2 => { p with v2 := a }
  | .v3 => { p with v3 := a }
  | .v4 => { p with v4 := a }
  | .v5 => { p with v5 := a }
  | .v6 => { p with v6 := a }
  | .v7 => { p with v7 := a }

/-- The same value at every vault. -/
def PerVault.replicate {α : Type} (a : α) : PerVault α :=
  ⟨a, a, a, a, a, a, a, a⟩

/-- A value made for each vault. -/
def PerVault.make {α : Type} (f : Vault → α) : PerVault α :=
  ⟨f .v0, f .v1, f .v2, f .v3, f .v4, f .v5, f .v6, f .v7⟩

/-- A vault line (the R61 table, in its order). -/
inductive Line where
  | outerContact | outerEgress | vaultContact | boltsThrown | boltsWithdrawn | vaultEgress | detectorA | detectorB
  | manualRelease | abort | isolate | discharge | duressVault | duressVestibule | checkIn
  deriving DecidableEq, Repr

/-- The fifteen lines of a vault in the order of the R61 table. -/
def Line.all : List Line :=
  [.outerContact, .outerEgress, .vaultContact, .boltsThrown, .boltsWithdrawn, .vaultEgress, .detectorA, .detectorB,
   .manualRelease, .abort, .isolate, .discharge, .duressVault, .duressVestibule, .checkIn]

/-- One value for each vault line. -/
structure PerLine (α : Type) where
  outerContact : α
  outerEgress : α
  vaultContact : α
  boltsThrown : α
  boltsWithdrawn : α
  vaultEgress : α
  detectorA : α
  detectorB : α
  manualRelease : α
  abort : α
  isolate : α
  discharge : α
  duressVault : α
  duressVestibule : α
  checkIn : α
  deriving DecidableEq, Repr

/-- The value of one line. -/
def PerLine.get {α : Type} (p : PerLine α) : Line → α
  | .outerContact => p.outerContact
  | .outerEgress => p.outerEgress
  | .vaultContact => p.vaultContact
  | .boltsThrown => p.boltsThrown
  | .boltsWithdrawn => p.boltsWithdrawn
  | .vaultEgress => p.vaultEgress
  | .detectorA => p.detectorA
  | .detectorB => p.detectorB
  | .manualRelease => p.manualRelease
  | .abort => p.abort
  | .isolate => p.isolate
  | .discharge => p.discharge
  | .duressVault => p.duressVault
  | .duressVestibule => p.duressVestibule
  | .checkIn => p.checkIn

/-- The values with that of one line replaced. -/
def PerLine.set {α : Type} (p : PerLine α) (l : Line) (a : α) : PerLine α :=
  match l with
  | .outerContact => { p with outerContact := a }
  | .outerEgress => { p with outerEgress := a }
  | .vaultContact => { p with vaultContact := a }
  | .boltsThrown => { p with boltsThrown := a }
  | .boltsWithdrawn => { p with boltsWithdrawn := a }
  | .vaultEgress => { p with vaultEgress := a }
  | .detectorA => { p with detectorA := a }
  | .detectorB => { p with detectorB := a }
  | .manualRelease => { p with manualRelease := a }
  | .abort => { p with abort := a }
  | .isolate => { p with isolate := a }
  | .discharge => { p with discharge := a }
  | .duressVault => { p with duressVault := a }
  | .duressVestibule => { p with duressVestibule := a }
  | .checkIn => { p with checkIn := a }

/-- A value made for each line. -/
def PerLine.make {α : Type} (f : Line → α) : PerLine α :=
  ⟨f .outerContact, f .outerEgress, f .vaultContact, f .boltsThrown, f .boltsWithdrawn, f .vaultEgress, f .detectorA, f .detectorB, f .manualRelease, f .abort, f .isolate, f .discharge, f .duressVault, f .duressVestibule, f .checkIn⟩

/-- A site line S0 to S3 (R61). -/
inductive SiteLine where
  | s0 | s1 | s2 | s3
  deriving DecidableEq, Repr

/-- The four site lines in number order. -/
def SiteLine.all : List SiteLine := [.s0, .s1, .s2, .s3]

/-- One value for each site line. -/
structure PerSite (α : Type) where
  s0 : α
  s1 : α
  s2 : α
  s3 : α
  deriving DecidableEq, Repr

/-- The value of one site line. -/
def PerSite.get {α : Type} (p : PerSite α) : SiteLine → α
  | .s0 => p.s0
  | .s1 => p.s1
  | .s2 => p.s2
  | .s3 => p.s3

/-- The values with that of one site line replaced. -/
def PerSite.set {α : Type} (p : PerSite α) (i : SiteLine) (a : α) : PerSite α :=
  match i with
  | .s0 => { p with s0 := a }
  | .s1 => { p with s1 := a }
  | .s2 => { p with s2 := a }
  | .s3 => { p with s3 := a }

/-- A value made for each site line. -/
def PerSite.make {α : Type} (f : SiteLine → α) : PerSite α := ⟨f .s0, f .s1, f .s2, f .s3⟩

/-- A raw reading of an input line (R61): OPEN is broken wiring and SHORT shorted wiring, read on supervised lines. -/
inductive Reading where
  | normal | active | opened | shorted
  deriving DecidableEq, Repr

/-- A raw reading of a release circuit (R68). -/
inductive Circuit where
  | intact | broken
  deriving DecidableEq, Repr

/-- The raw readings of one vault at a tick event (R62, R68). -/
structure VaultReadings where
  lines : PerLine Reading
  release : Circuit
  deriving DecidableEq, Repr

/-- The raw readings of the site at a tick event (R62). -/
structure Readings where
  vaults : PerVault VaultReadings
  site : PerSite Reading
  deriving DecidableEq, Repr

/-- A door of a vault. -/
inductive Door where
  | outer | vault
  deriving DecidableEq, Repr

/-- The position of a reader (R80). -/
inductive Position where
  | outer | inner | exit
  deriving DecidableEq, Repr

/-- A sounder cadence (R77). -/
inductive Cadence where
  | temporal | continuous | fast | slow | chirp
  deriving DecidableEq, Repr

/-- A sounder tone (R77). -/
inductive Tone where
  | high | low
  deriving DecidableEq, Repr

/-- A site mode (R96). -/
inductive Mode where
  | openHours | afterHours | lockdown | maintenance
  deriving DecidableEq, Repr

/-- The value a SET-SITE-MODE requests (R97). -/
inductive ModeValue where
  | openHours | afterHours | auto | lockdown | maintenance
  deriving DecidableEq, Repr

/-- A site input role (R70). -/
inductive Role where
  | none | holdAll | evacuateMember
  deriving DecidableEq, Repr

/-- The resume mode of a suppression parameter set (R171, R181). -/
inductive ResumeMode where
  | continueCount | restartFloor
  deriving DecidableEq, Repr

/-- The state of a credential record that holds a number (R1). -/
inductive CredState where
  | active | suspended | retired
  deriving DecidableEq, Repr

/-- A schedule window (R55). -/
structure Window where
  mask : DayMask
  start : Nat
  stop : Nat
  deriving DecidableEq, Repr

/-- The secrets field of WRITE-CREDENTIAL (R18). A digit is a number; one above 9 is a character that is no digit. -/
inductive Secrets where
  | keep
  | give (pin : Option (List Nat)) (duress : Option (List Nat))
  deriving DecidableEq, Repr

/-- The fields of WRITE-CREDENTIAL (R18). `state` is absent where the code names FREE or nothing. -/
structure CredentialWrite where
  slot : Nat
  number : Nat
  state : Option CredState
  vaults : VaultSet
  escortRequired : Bool
  mayEscort : Bool
  schedule : Option Nat
  expiry : Option Nat
  uses : Option Nat
  secrets : Secrets
  expected : Option Nat
  deriving DecidableEq, Repr

/-- The site group as WRITE-PARAMS carries it (R208). -/
structure SiteWrite where
  failureLimit : Nat
  forgiveness : Nat
  bandSize : Nat
  maxAttempts : Nat
  trim : Int
  siteSchedule : Nat
  pairWindow : Nat
  roles : PerSite (Option Role)
  tComb : Nat
  e1 : Nat
  e2 : Nat
  deriving DecidableEq, Repr

/-- A vault group as WRITE-PARAMS carries it (R208): each flag absent where it is neither yes nor no. -/
structure VaultWrite where
  enabled : Option Bool
  pairFlag : Option Bool
  allHours : Option Bool
  limit : Nat
  loneInterval : Nat
  tBolt : Nat
  tGrant : Nat
  relock : Nat
  tHeld : Nat
  tOuter : Nat
  classes : PerLine Nat
  deriving DecidableEq, Repr

/-- The group and values of WRITE-PARAMS (R208); `other` is a group that is neither SITE nor a vault. -/
inductive GroupWrite where
  | site (values : SiteWrite)
  | vault (vault : Nat) (values : VaultWrite)
  | other
  deriving DecidableEq, Repr

/-- A scope of GET-LINE-STATUS or a group of READ-PARAMS: a vault number, SITE, or neither. -/
inductive SiteScope where
  | vault (vault : Nat)
  | site
  | other
  deriving DecidableEq, Repr

/-- A scope of GET-READER-STATUS (R94). -/
inductive ReaderScope where
  | address (address : Nat)
  | all
  | other
  deriving DecidableEq, Repr

/-- The parameters of SET-SUPPRESSION-PARAMS (R181, R182). -/
structure SuppressionWrite where
  dAuto : Nat
  dMan : Nat
  floor : Nat
  hMax : Nat
  resume : Option ResumeMode
  pulse : Nat
  soak : Nat
  deriving DecidableEq, Repr

/-- The filter of LIST-ALARMS (R200). -/
inductive AlarmFilter where
  | all | audible
  deriving DecidableEq, Repr

/-- The eight attention causes as a set (R206). -/
structure Causes where
  alarms : Bool := false
  occupancy : Bool := false
  suppression : Bool := false
  doors : Bool := false
  store : Bool := false
  mode : Bool := false
  verdict : Bool := false
  clock : Bool := false
  deriving DecidableEq, Repr

/-- What a target holds after a programming attempt that did not verify, or that a reset cut off (R32, R37). -/
inductive Leftover where
  | oldContent | newImage | checkFails
  deriving DecidableEq, Repr, Inhabited

/-- How a programming attempt ends at the array (R31): the read-back matches the image, or it differs and the target
is left with the content given. -/
inductive AttemptOutcome where
  | verifyMatches
  | verifyDiffers (left : Leftover)
  deriving DecidableEq, Repr

/-- The commands of the part, in the order of spec/opcode_table.json. -/
inductive Instr where
  -- Credential Records
  | lookupCredential (number : Nat)
  | readSlot (slot : Nat)
  | writeCredential (w : CredentialWrite)
  | grantVaults (number : Nat) (vaults : VaultSet)
  | revokeVaults (number : Nat) (vaults : VaultSet)
  | suspend (number : Nat)
  | reinstate (number : Nat)
  | retire (number : Nat)
  | purge (slot : Nat)
  | findFreeSlot
  -- The Nonvolatile Array and Write Queue
  | storeStatus
  | setCommissioningLock
  | eraseAll
  -- Time Base, Calendar and Schedules
  | setTime (day minute second : Nat)
  | getTime
  | writeHolidays (days : List Nat)
  | readHolidays
  | writeSchedule (schedule : Nat) (windows : List Window)
  | readSchedule (schedule : Nat)
  -- Field Lines and Annunciation
  | testOutput (vault : Nat) (cadence : Option Cadence) (tone : Option Tone) (strobe : Option Bool) (seconds : Nat)
  | getLineStatus (scope : SiteScope)
  -- The Reader Line
  | getReaderStatus (scope : ReaderScope)
  -- Access Decisions and Site Modes
  | setSiteMode (value : Option ModeValue)
  -- Door Sequencing and Interlocks
  | releaseDoor (vault : Nat) (door : Option Door) (entering : Option (List Nat))
  | secureDoor (vault : Nat) (door : Option Door)
  | holdDoor (vault : Nat) (door : Option Door) (seconds : Nat)
  | getDoorStatus (vault : Nat)
  -- The Occupancy Register
  | listOccupants (vault : Nat)
  | addOccupant (vault number : Nat) (link : Option Nat)
  | removeOccupant (number : Nat)
  | confirmOccupancy (vault : Nat)
  -- Gas Suppression Release
  | globalHold (value : Option Bool)
  | setSuppressionParams (vault : Nat) (params : SuppressionWrite)
  | readSuppressionParams (vault : Nat)
  | resetSuppression (vault : Nat)
  | getSuppressionStatus (vault : Nat)
  -- Staff Alarms
  | ackAlarm (id : Nat)
  | clearAlarm (id : Nat)
  | listAlarms (start : Nat) (filter : Option AlarmFilter)
  | readAlarm (id : Nat)
  -- Host Link, Start-up and Formats
  | getAttention
  | setAttentionEnable (enable : Causes)
  | getSiteStatus
  | writeParams (group : GroupWrite)
  | readParams (group : SiteScope)
  | restart
  | getResetCause
  -- link transactions: the bytes after the start byte, the bytes clocked, the first byte of an ignored one
  | requestTransaction (rest : List Byte)
  | responseTransaction (clocked : Nat)
  | ignoredTransaction (first : Byte) (clocked : Nat)
  | completionOfProcessing
  -- resets and start-up
  | powerOnReset
  | supplyReset
  | resetLineReset
  | endOfReset (supplyGood : Bool)
  | configurationRead
  | scanTargetRead
  -- supply and array
  | writeLow
  | supplyGood
  | attemptCompletion (outcome : AttemptOutcome)
  -- time base
  | tickEvent (readings : Readings)
  | referenceLost
  | startUpReferenceTimeout
  | referenceReturned
  | minuteEvent
  -- qualified changes of lines
  | outerContact (v : Vault)
  | outerEgress (v : Vault)
  | vaultContactOpen (v : Vault)
  | vaultContactClose (v : Vault)
  | boltsWithdrawn (v : Vault)
  | boltsThrown (v : Vault)
  | vaultEgress (v : Vault)
  | detectorChange (v : Vault) (second : Bool)
  | manualRelease (v : Vault)
  | abortChange (v : Vault)
  | isolateChange (v : Vault)
  | dischargeChange (v : Vault)
  | duressButton (v : Vault) (vestibule : Bool)
  | checkInButton (v : Vault)
  | siteLineChange (i : SiteLine)
  | releaseCircuitChange (v : Vault)
  -- consequences of a tick event
  | evacuationCombinationCompletion
  | testClaimExpiry (v : Vault)
  -- the reader line
  | pollTransactionStart
  | replyWindowExpiry
  | readerReplyComplete (bytes : List Byte)
  -- consequences of a tick event
  | pairWindowExpiry (v : Vault)
  | outerGrantLapse (v : Vault)
  | vaultGrantLapse (v : Vault)
  | egressReleaseLapse (v : Vault)
  | travelTimerExpiry (v : Vault)
  | relockTimerExpiry (v : Vault)
  | heldTimerExpiry (v : Vault) (door : Door)
  | loneWorkerChirp (v : Vault)
  | loneWorkerExpiry (v : Vault)
  | countdownExpiry (v : Vault)
  | abortHoldLapse (v : Vault)
  | releasePulseEnd (v : Vault)
  | confirmWaitExpiry (v : Vault)
  | soakEnd (v : Vault)
  | escalationExpiry (id : Nat)
  -- the reader line
  | readerReplyBegun
  | replyWindowOpen
  deriving DecidableEq, Repr

end Sys2Proof
end

