-- ==== Sys2Proof/Decode.lean ====
section
/-!
DEFINITION. The decoder of words. spec/opcode_table.json gives no row any bits: a command is no word but an event or a
framed request, whose frame the Link Port takes apart (`Machine/LinkPort.lean`).
-/

namespace Sys2Proof

/-- The command that a word spells: none, since no row of the table has bits. -/
def decodeTableWord (_nbits _w : Nat) : Option Instr := none

end Sys2Proof
end

