-- ==== Sys2Proof/Machine/Records.lean ====
section
/-!
DEFINITION. The records the blocks of the part hold, one structure or inductive for each the spec names: what
`Machine/State.lean` puts together into the state.
-/

namespace Sys2Proof.Machine

/-! ## Time -/

/-- An instant of the calendar with its second and tick (R48). -/
structure Instant where
  day : Nat
  minute : Nat
  second : Nat
  tick : Nat
  deriving DecidableEq, Repr

/-- A day number, minute and second, as an alarm record and a last verdict carry (R80, R188). -/
structure Stamp where
  day : Nat
  minute : Nat
  second : Nat
  deriving DecidableEq, Repr

/-- The calendar state (R49). -/
inductive CalendarState where
  | unsynchronised | synchronised | drifted
  deriving DecidableEq, Repr

/-- What times the tick (R45, R46). -/
inductive TickSource where
  | reference | rc | rcReturnPending
  deriving DecidableEq, Repr

/-- The Time Base (R43 to R47). `subTick` counts tick events within the free-running second, `length` is the length in
reference cycles of the tick in progress, absent on RC, and `startUp` the tick events since the end of the reset while
the start-up path of R47 stands. -/
structure Tmb where
  accumulator : Nat
  seconds : Nat
  subTick : Nat
  source : TickSource
  length : Option Int
  startUp : Option Nat
  deriving DecidableEq, Repr

/-- The Calendar and Schedule Unit: instant, state and working copies (R48, R49, R54, R55). A schedule that is not
listed holds zero windows. -/
structure Cal where
  instant : Instant
  state : CalendarState
  schedules : List (Nat × List Window)
  holidays : List Nat
  deriving DecidableEq, Repr

/-- The day type of a day (R53). -/
inductive DayType where
  | weekday (index : Nat)
  | holiday
  deriving DecidableEq, Repr

/-- The answer to a containment question (R58). -/
inductive Containment where
  | contained | notContained | noTime
  deriving DecidableEq, Repr

/-! ## Credentials, configuration and the nonvolatile array -/

/-- A credential record that holds a number (R1). The check value belongs to its image (R213). -/
structure CredRecord where
  number : Nat
  state : CredState
  vaults : VaultSet
  escortRequired : Bool
  mayEscort : Bool
  schedule : Option Nat
  expiry : Option Nat
  uses : Option Nat
  pin : Option (List Nat)
  duress : Option (List Nat)
  revision : Nat
  deriving DecidableEq, Repr

/-- The effective content of a slot (R1, R4, R5). -/
inductive SlotContent where
  | free
  | held (record : CredRecord)
  | damaged
  deriving DecidableEq, Repr

/-- An entry of the failure table (R8). -/
structure FailureEntry where
  number : Nat
  failures : Nat
  age : Nat
  deriving DecidableEq, Repr

/-- The stored record of the site mode (R97): the requested value, with AFTER-HOURS stored for AUTO, and the auto flag. -/
structure StoredMode where
  mode : Mode
  auto : Bool
  deriving DecidableEq, Repr

/-- The site group of the configuration block (R27). -/
structure SiteGroup where
  failureLimit : Nat
  forgiveness : Nat
  bandSize : Nat
  maxAttempts : Nat
  trim : Int
  siteSchedule : Nat
  stored : StoredMode
  pairWindow : Nat
  roles : PerSite Role
  tComb : Nat
  e1 : Nat
  e2 : Nat
  deriving DecidableEq, Repr

/-- The group of one vault in the configuration block (R27). -/
structure VaultGroup where
  enabled : Bool
  pairFlag : Bool
  allHours : Bool
  limit : Nat
  loneInterval : Nat
  tBolt : Nat
  tGrant : Nat
  relock : Nat
  tHeld : Nat
  tOuter : Nat
  classes : PerLine Nat
  deriving DecidableEq, Repr

/-- A set of suppression parameters (R181). -/
structure SuppressionSet where
  dAuto : Nat
  dMan : Nat
  floor : Nat
  hMax : Nat
  resume : ResumeMode
  pulse : Nat
  soak : Nat
  deriving DecidableEq, Repr

/-- The values of the configuration block (R27). `suppression` is the staged set of each vault. -/
structure ConfigBlock where
  site : SiteGroup
  vaults : PerVault VaultGroup
  suppression : PerVault SuppressionSet
  lock : Bool
  deriving DecidableEq, Repr

/-- A target of the nonvolatile array (R26). -/
inductive Target where
  | slot (n : Nat)
  | schedule (n : Nat)
  | holidays
  | config
  deriving DecidableEq, Repr

/-- A new image for a target (R28). A FREE image of a slot carries no record. -/
inductive Image where
  | slot (n : Nat) (record : Option CredRecord)
  | schedule (n : Nat) (windows : List Window)
  | holidays (days : List Nat)
  | config (block : ConfigBlock)
  deriving DecidableEq, Repr

/-- What a target of the array holds: content, or content whose check value fails (R32, R37). -/
inductive Cell (α : Type) where
  | content (a : α)
  | checkFails
  deriving DecidableEq, Repr

/-- The nonvolatile array (R26). Slots and schedules hold their images byte by byte (R213); one that is not listed holds
its erased image (R42). The holiday list and the configuration block are held as their values, since the spec gives their
images no layout. -/
structure NvArray where
  slots : List (Nat × Cell (List Byte))
  schedules : List (Nat × Cell (List Byte))
  holidays : Cell (List Nat)
  config : Cell ConfigBlock
  deriving DecidableEq, Repr

/-- An entry of the write queue (R28): its image names its target. -/
structure QueueEntry where
  image : Image
  attempts : Nat
  deriving DecidableEq, Repr

/-- A programming attempt in flight (R31): the image it programs, whether its result is to be discarded (R32, R41), and
whether WRITE-LOW arrived during it (R35). -/
structure Attempt where
  image : Image
  discard : Bool
  spoiled : Bool
  deriving DecidableEq, Repr

/-- The erase pass (R42): the next of the 2,082 targets in its order, and the failed attempts on it. -/
structure ErasePass where
  next : Nat
  attempts : Nat
  deriving DecidableEq, Repr

/-- The volatile state of the Nonvolatile Array Controller (R28 to R33, R42). `damaged` is the damaged set of the
non-slot targets and `damagedSlots` the slots that read DAMAGED. `unsettled` lists, by slot, the number that the last settled
content of a slot holds, for the slots whose cell an attempt has overwritten and no write has settled in since: what such an
attempt left is seen by no block (R6, R32; notes/assumptions/41.md). -/
structure Nva where
  queue : List QueueEntry
  inFlight : Option Attempt
  owed : Bool
  damaged : List Target
  damagedSlots : List Nat
  unsettled : List (Nat × Option Nat)
  erase : Option ErasePass
  deriving DecidableEq, Repr

/-- The supply level state (R34). -/
inductive SupplyLevel where
  | good | writeLow
  deriving DecidableEq, Repr

/-! ## Lines -/

/-- The qualification record of an input line or release circuit (R63) with its last raw reading (R79). The qualified
state is absent while UNQUALIFIED. -/
structure Qualification (α : Type) where
  qualified : Option α
  candidate : Option α
  run : Nat
  start : Option Instant
  last : Option α
  deriving DecidableEq, Repr

/-- The lines and the release circuit of one vault. -/
structure VaultLines where
  lines : PerLine (Qualification Reading)
  release : Qualification Circuit
  deriving DecidableEq, Repr

/-- The site functions of the Line Qualifier (R71, R72) and the records of the site lines. -/
structure Lqu where
  site : PerSite (Qualification Reading)
  holdAll : Bool
  stands : Bool
  count : Nat
  completed : Bool
  deriving DecidableEq, Repr

/-! ## Output Arbiter -/

/-- A claim kind (R75), listed by its priority (R76). -/
inductive ClaimKind where
  | evacuate | discharge | preDischarge | alert | doorForced | doorHeld | chirp | test
  deriving DecidableEq, Repr

/-- A TEST claim's settings and remaining time (R78). -/
structure TestClaim where
  cadence : Cadence
  tone : Tone
  strobe : Bool
  remaining : Nat
  deriving DecidableEq, Repr

/-- The claim set of a vault (R75). `ssq` is the one claim of the SSQ; each other field is one pair of source and kind.
`position` counts the ticks of the running cadence (R77). -/
structure ClaimSet where
  ssq : Option ClaimKind
  siteEvacuate : Bool
  outerForced : Bool
  outerHeld : Bool
  vaultForced : Bool
  vaultHeld : Bool
  chirp : Bool
  test : Option TestClaim
  position : Nat
  deriving DecidableEq, Repr

/-! ## Readers -/

/-- A verdict, in the order of the verdict codes (R91, R215). -/
inductive Verdict where
  | granted | grantedPair | exitReleased | exitUnlisted | checkedIn
  | waitSecond | pinRequired | starting
  | escortNeeded | doorBusy | interlock | storeBusy | full | pairLapsed
  | notInside
  | unknown | retired | suspended | lockedOut | lockdown | expired | notPermitted | clock | outOfHours | pinWrong
  | passback | suppression
  deriving DecidableEq, Repr

/-- A lamp pattern (R83). -/
inductive Lamp where
  | green | red | amber
  deriving DecidableEq, Repr

/-- A reader tone (R83). -/
inductive ReaderTone where
  | none | short | long
  deriving DecidableEq, Repr

/-- An indication (R80): its lamp and tone are those of its verdict (R91). -/
structure Indication where
  verdict : Verdict
  number : Option Nat
  deriving DecidableEq, Repr

/-- The status of a reader (R80). -/
inductive ReaderStatus where
  | online | silent | tampered
  deriving DecidableEq, Repr

/-- A reader's last presentation (R80, R87). -/
structure LastPresentation where
  number : Nat
  age : Nat
  deriving DecidableEq, Repr

/-- A reader's last verdict (R80, R90). -/
structure LastVerdict where
  verdict : Verdict
  number : Option Nat
  time : Stamp
  deriving DecidableEq, Repr

/-- A reader record (R80). -/
structure ReaderRecord where
  status : ReaderStatus
  misses : Nat
  presentation : Option LastPresentation
  waiting : Option Indication
  inFlight : Option Indication
  lastVerdict : Option LastVerdict
  deriving DecidableEq, Repr

/-- The three readers of a vault. -/
structure VaultReaders where
  outer : ReaderRecord
  inner : ReaderRecord
  exit : ReaderRecord
  deriving DecidableEq, Repr

/-- A reader address as vault and position (R80). -/
structure ReaderAddress where
  vault : Vault
  position : Position
  deriving DecidableEq, Repr

/-- The phase of the reader line (the table of R82). `quiet` is before the first transaction and while no vault is
enabled (R81). -/
inductive LinePhase where
  | quiet | settling | partFrame | window | reply
  deriving DecidableEq, Repr

/-- The reader line (R81, R82): the phase, the reader of the transaction under way, whether its reply is to be discarded
(R93), the reader of the last transaction, and the last frame the part sent. -/
structure ReaderLine where
  phase : LinePhase
  address : Option ReaderAddress
  discard : Bool
  last : Option ReaderAddress
  frame : List Byte
  deriving DecidableEq, Repr

/-- The purpose of a PRESENT (R84). -/
inductive Purpose where
  | entry | checkIn
  deriving DecidableEq, Repr

/-- A good reply (R84). -/
inductive Reply where
  | idle
  | present (number : Nat) (purpose : Purpose) (digits : List Nat)
  | tamper
  deriving DecidableEq, Repr

/-! ## Access decisions -/

/-- The pending pair of a vault (R110). -/
structure PendingPair where
  first : Nat
  duress : Bool
  window : Nat
  deriving DecidableEq, Repr

/-! ## Doors -/

/-- The state of an outer door (R123). -/
inductive OuterState where
  | locked | unlocked | opened | emergencyUnlocked
  deriving DecidableEq, Repr

/-- The state of a vault door (R123). -/
inductive VaultState where
  | secured | retracting | released | opened | relockWait | extending | jammed | emergencyReleased
  deriving DecidableEq, Repr

/-- The origin of an outer-door grant (R123). -/
inductive OuterOrigin where
  | entry | host | egress
  deriving DecidableEq, Repr

/-- An outer-door grant (R123). -/
structure OuterGrant where
  origin : OuterOrigin
  lapse : Nat
  deriving DecidableEq, Repr

/-- The origin of a vault-door grant (R123). -/
inductive VaultOrigin where
  | entry | exit | host | emergency
  deriving DecidableEq, Repr

/-- An entry of an entering list (R115, R123). -/
structure EnteringEntry where
  number : Nat
  duress : Bool
  link : Option Nat
  deriving DecidableEq, Repr

/-- A vault-door grant (R123): the lapse is absent for EMERGENCY. -/
structure VaultGrant where
  origin : VaultOrigin
  entering : List EnteringEntry
  exiting : List Nat
  unrecorded : Bool
  lapse : Option Nat
  deriving DecidableEq, Repr

/-- The door record of a vault (R123) with the door conditions of R138 that stand. -/
structure DoorRecord where
  outer : OuterState
  outerGrant : Option OuterGrant
  vault : VaultState
  vaultGrant : Option VaultGrant
  egress : Option Nat
  travel : Option Nat
  relock : Option Nat
  outerHeld : Option Nat
  vaultHeld : Option Nat
  emergency : Bool
  outerForcedStands : Bool
  vaultForcedStands : Bool
  outerHeldStands : Bool
  vaultHeldStands : Bool
  retractFaultStands : Bool
  extendFaultStands : Bool
  deriving DecidableEq, Repr

/-! ## Occupancy -/

/-- An entry of the occupancy register (R145); `overdue` tells that its LONE-WORKER condition stands. -/
structure Occupant where
  number : Nat
  entered : Instant
  link : Option Nat
  wanted : Bool
  checkIn : Option Nat
  underDuress : Bool
  overdue : Bool
  deriving DecidableEq, Repr

/-- The occupant list of a vault, oldest first, and its certainty flag (R144, R149). -/
structure VaultOccupancy where
  entries : List Occupant
  certain : Bool
  deriving DecidableEq, Repr

/-! ## Suppression -/

/-- The state of a suppression sequencer (R161). -/
inductive SsqState where
  | quiet | alert | inhibited | countdown | held | awaitClosure | releasing | verifying | discharged | isolated
  deriving DecidableEq, Repr

/-- The path of a countdown (R161). -/
inductive Path where
  | automatic | manual
  deriving DecidableEq, Repr

/-- The egress condition (R169). -/
inductive EgressCondition where
  | none | pressed | opened
  deriving DecidableEq, Repr

/-- The detail of a discharge (R161). -/
inductive DischargeDetail where
  | confirmed | unconfirmed | uncommanded
  deriving DecidableEq, Repr

/-- The sequencer record of a vault (R161). The hold set holds ABORT where `abortElapsed` is present, and EGRESS and
HOLD-ALL where their marks are set. The release circuit field is `State.releaseCircuit`, and the staged set the
configuration block's. `abortCut` is the model's own mark for the last sentences of R168. -/
structure SsqRecord where
  state : SsqState
  path : Option Path
  remaining : Option Nat
  holdEgress : Bool
  holdHoldAll : Bool
  abortElapsed : Option Nat
  abortSpent : Bool
  abortCut : Bool
  egress : EgressCondition
  clear : Bool
  pulse : Option Nat
  dischargeSeen : Option Bool
  confirmWait : Option Nat
  detail : Option DischargeDetail
  soak : Option Nat
  committed : SuppressionSet
  deriving DecidableEq, Repr

/-! ## Alarms -/

/-- A line identity as an alarm detail (R61, R68). -/
inductive LineIdentity where
  | vaultLine (v : Vault) (l : Line)
  | release (v : Vault)
  | siteLine (i : SiteLine)
  deriving DecidableEq, Repr

/-- The direction of a bolt drive (R130). -/
inductive Drive where
  | retract | extend
  deriving DecidableEq, Repr

/-- A reset kind (R210), in the order of R210. -/
inductive ResetKind where
  | powerOn | supply | resetLine | restart
  deriving DecidableEq, Repr

/-- A sub-code of an alarm kind (R214). -/
inductive SubCode where
  | detection | manual | isolated | manualInIsolation
  | confirmed | unconfirmed | uncommanded
  | reference
  deriving DecidableEq, Repr

/-- The sub-code of READER-FAULT (R85, R86). -/
inductive ReaderFault where
  | silent | tamper
  deriving DecidableEq, Repr

/-- The detail of an alarm record (R188, R214). -/
inductive Detail where
  | line (id : LineIdentity)
  | reader (address : ReaderAddress) (fault : ReaderFault)
  | store (target : Target)
  | door (door : Door)
  | drive (direction : Drive)
  | resetKind (kind : ResetKind)
  | sub (code : SubCode)
  deriving DecidableEq, Repr

/-- An alarm kind (R189), in the order of its code (R214). -/
inductive AlarmKind where
  | duressButton | duressCode | evacuation | discharge | suppressionAlert | loneWorker | doorForced | escortLeft
  | unbadgedEgress | doorHeld | doorFault | lineFault | readerFault | storeFault | clockFault | restart
  deriving DecidableEq, Repr

/-- The key of an alarm record (R188). -/
structure AlarmKey where
  kind : AlarmKind
  vault : Option Vault
  credential : Option Nat
  detail : Option Detail
  deriving DecidableEq, Repr

/-- The state of an alarm record (R188). -/
inductive AlarmState where
  | raised | acknowledged | clearedUnack
  deriving DecidableEq, Repr

/-- An alarm record (R188). Its silence is that of its kind (R197) and its position its place in the table. -/
structure AlarmRecord where
  id : Nat
  key : AlarmKey
  raisedAt : Stamp
  state : AlarmState
  level : Nat
  occurrences : Nat
  escalation : Option Nat
  deriving DecidableEq, Repr

/-- The Alarm Table Unit (R188, R190, R192, R199): the table, oldest first. -/
structure Atu where
  table : List AlarmRecord
  counter : Nat
  overflow : Nat
  latch : Bool
  owed : Bool
  deriving DecidableEq, Repr

/-- The answer of the ATU to a raise (R191). -/
inductive RaiseAnswer where
  | stands (state : AlarmState)
  | notStored
  deriving DecidableEq, Repr

/-! ## Responses -/

/-- A response status, in the order of the status codes (R212). -/
inductive Status where
  | ok | badFrame | unknownRequest | badLength | badField | notFound | duplicate | inUse | revision | storeBusy
  | protectedSlot | wrongMode | locked | notIsolated | soakActive | state | notReady
  deriving DecidableEq, Repr

/-- The phase of the part (R211). -/
inductive Phase where
  | reset | scanning | running
  deriving DecidableEq, Repr

/-- A time reported in ticks and in whole seconds rounded up (00, Time and units). -/
structure Timed where
  ticks : Nat
  seconds : Nat
  deriving DecidableEq, Repr

/-- A record as a request reports it (R15, R16, R17): state and bytes 0 to 22 of R213, revision and failure count. -/
structure SlotReport where
  slot : Nat
  inBand : Bool
  queued : Bool
  image : List Byte
  revision : Nat
  failures : Nat
  atLimit : Bool
  deriving DecidableEq, Repr

/-- One line of GET-LINE-STATUS (R79). The qualified state is absent while UNQUALIFIED. -/
structure LineReport (α : Type) where
  qualified : Option α
  last : Option α
  candidate : Option α
  run : Nat
  lineClass : Nat
  deriving DecidableEq, Repr

/-- The seven outputs of a vault (R74). -/
structure VaultOutputs where
  outerLock : Bool
  boltRetract : Bool
  boltExtend : Bool
  release : Bool
  zoneLamp : Bool
  sounder : Option Tone
  strobe : Bool
  deriving DecidableEq, Repr

/-- A verdict in a report: its verdict code (R215) and its number. -/
structure VerdictReport where
  code : Byte
  number : Option Nat
  deriving DecidableEq, Repr

/-- One reader of GET-READER-STATUS (R94): every verdict stands as its verdict code (R215), the last one beside its time. -/
structure ReaderReport where
  inRound : Bool
  status : ReaderStatus
  misses : Nat
  presentation : Option LastPresentation
  waiting : Option VerdictReport
  inFlight : Option VerdictReport
  lastVerdict : Option (VerdictReport × Stamp)
  deriving DecidableEq, Repr

/-- One entry of LIST-OCCUPANTS (R156). -/
structure OccupantReport where
  entry : Occupant
  checkIn : Option Timed
  escortLeft : Bool
  loneWorker : Bool
  deriving DecidableEq, Repr

/-- One vault of GET-SITE-STATUS (R207). -/
structure VaultSummary where
  enabled : Bool
  ssq : SsqState
  outer : OuterState
  vault : VaultState
  count : Nat
  certain : Bool
  pairStands : Bool
  deriving DecidableEq, Repr

/-- The body of a response: one constructor for each request whose rule gives its response a content. -/
inductive Body where
  /-- no content, or a refusal with no reason (R204) -/
  | empty
  /-- the reason of a STATE refusal (R204, R139, R158) -/
  | reason (verdict : Verdict)
  /-- LOOKUP-CREDENTIAL and READ-SLOT (R16, R17) -/
  | slot (report : SlotReport)
  /-- an accepted change of a credential: slot, revision and queue position (R15) -/
  | change (slot revision position : Nat)
  /-- GRANT-VAULTS and REVOKE-VAULTS (R19) -/
  | vaultsChanged (slot : Nat) (previous next : VaultSet) (revision position : Nat)
  /-- FIND-FREE-SLOT (R24) -/
  | freeSlot (slot : Nat)
  /-- STORE-STATUS (R36): each entry's target, attempts and whether its attempt is in flight -/
  | store (entries : List (Target × Nat × Bool)) (places : Nat) (supply : SupplyLevel) (maxAttempts : Nat) (owed : Bool)
      (damaged : List Target) (lock : Bool) (eraseLeft : Option Nat)
  /-- a queue position alone (R40, R54, R56) -/
  | position (position : Nat)
  /-- SET-TIME (R51) -/
  | calendarState (state : CalendarState)
  /-- GET-TIME (R52) -/
  | time (instant : Instant) (weekday : Nat) (dayType : DayType) (state : CalendarState) (source : TickSource) (trim : Int)
  /-- READ-HOLIDAYS (R54) -/
  | holidays (days : List Nat) (queued damaged : Bool)
  /-- READ-SCHEDULE (R56) -/
  | schedule (windows : List Window) (queued damaged : Bool)
  /-- TEST-OUTPUT (R78) -/
  | test (seconds : Nat) (winning : Bool)
  /-- GET-LINE-STATUS of a vault (R79) -/
  | vaultLines (enabled : Bool) (lines : PerLine (LineReport Reading)) (release : LineReport Circuit)
      (outputs : VaultOutputs) (claims : ClaimSet) (winning : Option ClaimKind)
  /-- GET-LINE-STATUS of SITE (R79, R199) -/
  | siteLines (lines : PerSite (LineReport Reading × Role)) (stands : Bool) (count : Nat) (completed : Bool) (tComb : Nat)
      (holdAll guardOut monitorOut fireOut latch owed : Bool)
  /-- GET-READER-STATUS (R94) -/
  | readers (reports : List ReaderReport) (transaction : Option (Option ReaderAddress))
  /-- SET-SITE-MODE (R97) -/
  | siteMode (mode : Mode) (auto : Bool) (position : Nat)
  /-- RELEASE-DOOR of the outer door (R139) -/
  | outerGrant (grant : Option OuterGrant)
  /-- RELEASE-DOOR of the vault door (R139) -/
  | vaultGrant (grant : VaultGrant)
  /-- SECURE-DOOR (R140) -/
  | doorStates (outer : OuterState) (vault : VaultState)
  /-- HOLD-DOOR (R141) -/
  | extension (seconds : Nat)
  /-- GET-DOOR-STATUS (R142): the record, its times in both forms, the causes of the emergency condition, and the
  qualified states of OUTER-CONTACT, VAULT-CONTACT, BOLTS-THROWN and BOLTS-WITHDRAWN -/
  | doors (record : DoorRecord) (times : List (Option Timed)) (latchCause inhibitedCause unbadged : Bool)
      (lines : List (Option Reading))
  /-- LIST-OCCUPANTS (R156) -/
  | occupants (entries : List OccupantReport) (count load limit : Nat) (certain timing chirp : Bool)
      (underDuress siteCount siteLoad : Nat)
  /-- ADD-OCCUPANT (R158) -/
  | occupantAdded (entry : Option Occupant) (count : Nat)
  /-- REMOVE-OCCUPANT (R159) -/
  | occupantRemoved (vault : Vault) (count : Nat)
  /-- CONFIRM-OCCUPANCY (R153) -/
  | occupancy (count : Nat) (certain : Bool)
  /-- GLOBAL-HOLD (R170) -/
  | hold (setting input : Bool)
  /-- SET-SUPPRESSION-PARAMS (R182) -/
  | staged (set : SuppressionSet) (differs : Bool) (position : Nat)
  /-- READ-SUPPRESSION-PARAMS (R183) -/
  | suppressionSets (committed staged : SuppressionSet) (differs queued : Bool)
  /-- RESET-SUPPRESSION (R184) -/
  | sequencerState (state : SsqState)
  /-- GET-SUPPRESSION-STATUS (R185) -/
  | sequencer (record : SsqRecord) (manual : Bool) (remaining : Option Timed) (abortLeft : Option Nat)
      (times : List (Option Timed)) (circuit : Circuit) (lines : List (Option Reading))
      (globalHold holdAll fireOut differs : Bool)
  /-- ACK-ALARM and CLEAR-ALARM: the record's state after the request, absent for RETIRED (R198) -/
  | alarmState (state : Option AlarmState)
  /-- LIST-ALARMS (R200): each record in its 21-byte image (R214) -/
  | alarms (count overflow : Nat) (guardOut monitorOut latch : Bool) (counter : Nat) (records : List (List Byte)) (next : Nat)
  /-- READ-ALARM (R201) -/
  | alarm (image : List Byte) (priority maxLevel : Nat) (escalation : Option Timed)
  /-- GET-ATTENTION and SET-ATTENTION-ENABLE (R206) -/
  | attention (waiting enabled : Causes)
  /-- GET-SITE-STATUS (R207) -/
  | siteStatus (phase : Phase) (kind : ResetKind) (mode : Mode) (auto : Bool) (calState : CalendarState)
      (instant : Instant) (source : TickSource) (waiting enabled : Causes) (supply : SupplyLevel) (queued : Nat)
      (owed damaged lock erasing : Bool) (alarms overflow : Nat) (latch siteOwed guardOut monitorOut fireOut
      globalHold holdAll : Bool) (vaults : PerVault VaultSummary)
  /-- WRITE-PARAMS of the site group (R208) -/
  | siteWritten (group : SiteGroup) (position : Nat)
  /-- WRITE-PARAMS of a vault group (R208) -/
  | vaultWritten (group : VaultGroup) (position : Nat)
  /-- READ-PARAMS of the site group (R209) -/
  | siteParams (group : SiteGroup) (queued damaged lock : Bool)
  /-- READ-PARAMS of a vault group (R209) -/
  | vaultParams (group : VaultGroup) (queued damaged lock : Bool)
  /-- GET-RESET-CAUSE (R210) -/
  | resetCause (kind : ResetKind) (phase : Phase)
  deriving DecidableEq, Repr

/-- What the owner of a request answers (R204). -/
structure Answer where
  status : Status
  body : Body
  deriving DecidableEq, Repr

/-- A response held by the LKP (R203, R212). -/
structure Response where
  code : Nat
  tag : Byte
  status : Status
  overrun : Bool
  body : Body
  deriving DecidableEq, Repr

/-- The link record (R203) with the RESTART that R210 arranges and the bytes the last transaction returned. -/
structure Link where
  request : Option (List Byte)
  processing : Bool
  response : Option Response
  read : Bool
  overrun : Bool
  waiting : Causes
  enabled : Causes
  restartArranged : Bool
  dataOut : List Byte
  deriving DecidableEq, Repr

/-! ## Events of a tick -/

/-- An event that a tick event has brought about and that no block has taken yet. -/
inductive Due where
  | startUpTimeout
  | minute
  | evacuation
  | testClaim (v : Vault)
  | pairWindow (v : Vault)
  | outerGrant (v : Vault)
  | vaultGrant (v : Vault)
  | egressRelease (v : Vault)
  | travel (v : Vault)
  | relock (v : Vault)
  | held (v : Vault) (door : Door)
  | chirp (v : Vault)
  | loneWorker (v : Vault)
  | countdown (v : Vault)
  | abortHold (v : Vault)
  | pulse (v : Vault)
  | confirmWait (v : Vault)
  | soak (v : Vault)
  | escalation (id : Nat)
  | line (v : Vault) (l : Line)
  | release (v : Vault)
  | siteLine (i : SiteLine)
  deriving DecidableEq, Repr

end Sys2Proof.Machine
end

