-- ==== Sys2Proof/Config.lean ====
section
/-!
DEFINITION. What the part fixes (its sizes) and what the spec leaves open (constants without a body, of which no proof
can know the value).
-/

namespace Sys2Proof.Config

/-- Credential slots (00, Numbers and limits). -/
abbrev slotCount : Nat := 2048
/-- Schedule records. -/
abbrev scheduleCount : Nat := 32
/-- Targets of the array, in the order of the scan and of the erase pass (R38, R42). -/
abbrev targetCount : Nat := 2082
/-- Entries of the write queue (R28). -/
abbrev queueSize : Nat := 8
/-- Entries at which a host write is refused STORE-BUSY (R29). -/
abbrev hostPlaces : Nat := 6
/-- Entries of the failure table (R8). -/
abbrev failureSize : Nat := 32
/-- Records of the alarm table (R188). -/
abbrev alarmSize : Nat := 48
/-- Entries of the occupancy register (R144). -/
abbrev registerSize : Nat := 64
/-- Samples that qualify a release circuit or a site line (R64, R68). -/
abbrev siteRun : Nat := 16
/-- The confirm wait in ticks (R176). -/
abbrev confirmWait : Nat := 1000
/-- The greatest credential number (00, Identities); 0 and the number above it are refused BAD-FIELD. -/
abbrev numberMax : Nat := 4294967294
/-- The last day number the calendar counts (R48). -/
abbrev lastDay : Nat := 65535

/-- What the array holds in a target whose programming attempt was in flight at a reset: the old image, the new image
or content whose check value fails (R25, R37 leave it open). A free value, applied to `State.freeCount`
(notes/assumptions/6.md). UNVERIFIED; safe. -/
opaque tornAttempt : Nat → Leftover

/-- The request that a body of bytes carries for a request code. The spec gives request bodies no layout: it names
their fields, and R204 check 6 only says that a body not of the length its fields take is BAD-LENGTH (absent here).
Uninterpreted (notes/assumptions/5.md). UNVERIFIED; safe. -/
opaque requestOf : Nat → List Byte → Option Instr

/-- The bytes of the body of an accepted request's response: the spec names its contents and gives it no layout.
Uninterpreted (notes/assumptions/5.md). UNVERIFIED; safe. -/
opaque bodyBytes : Machine.Body → List Byte

end Sys2Proof.Config
end

