-- ==== Sys2Proof/Machine/Defaults.lean ====
section
/-!
DEFINITION. The default configuration (R27) and the reset value of each block's record, as the chapters give them.
-/

namespace Sys2Proof.Machine

/-- The default line class of each line (the R61 table). -/
def defaultClass : Line → Nat
  | .outerContact | .vaultContact | .boltsThrown | .boltsWithdrawn => 4
  | .outerEgress | .vaultEgress | .duressVault | .duressVestibule | .checkIn => 8
  | .manualRelease | .abort | .isolate => 16
  | .detectorA | .detectorB | .discharge => 32

/-- The defaults of the site group (R8, R27, R31, R44, R59, R70, R110, R195). -/
def defaultSite : SiteGroup where
  failureLimit := 5
  forgiveness := 30
  bandSize := 0
  maxAttempts := 8
  trim := 0
  siteSchedule := 0
  stored := { mode := .afterHours, auto := true }
  pairWindow := 20
  roles := ⟨.none, .none, .none, .none⟩
  tComb := 3
  e1 := 60
  e2 := 180

/-- The defaults of a vault group (R27, R61, R96, R124, R157). -/
def defaultVault : VaultGroup where
  enabled := true
  pairFlag := false
  allHours := false
  limit := 8
  loneInterval := 30
  tBolt := 6
  tGrant := 10
  relock := 2
  tHeld := 60
  tOuter := 8
  classes := PerLine.make defaultClass

/-- The defaults of a set of suppression parameters (R181). -/
def defaultSuppression : SuppressionSet where
  dAuto := 300
  dMan := 100
  floor := 100
  hMax := 600
  resume := .restartFloor
  pulse := 20
  soak := 30

/-- The default configuration with the lock given (R27, R38, R41). -/
def defaultConfig (lock : Bool) : ConfigBlock where
  site := defaultSite
  vaults := PerVault.replicate defaultVault
  suppression := PerVault.replicate defaultSuppression
  lock := lock

/-- The configuration that ERASE-ALL gives and the erase pass writes: the defaults with the lock clear and MAINTENANCE
stored with auto no (R41, R42). -/
def erasedConfig : ConfigBlock :=
  { defaultConfig false with site := { defaultSite with stored := { mode := .maintenance, auto := false } } }

/-- The array as a new part is delivered: every target holds its erased image (R42). -/
def deliveredArray : NvArray where
  slots := []
  schedules := []
  holidays := .content []
  config := .content erasedConfig

/-- The NVA after a reset (R28, R37). -/
def resetNva : Nva where
  queue := []
  inFlight := none
  owed := false
  damaged := []
  damagedSlots := []
  unsettled := []
  erase := none

/-- The TMB at the end of a reset (R47). -/
def resetTmb : Tmb where
  accumulator := 0
  seconds := 0
  subTick := 0
  source := .rc
  length := none
  startUp := some 0

/-- The calendar instant after a POWER-ON or SUPPLY reset (R50). -/
def zeroInstant : Instant := { day := 0, minute := 0, second := 0, tick := 0 }

/-- The CAL after a POWER-ON or SUPPLY reset (R50, R60). -/
def resetCal : Cal where
  instant := zeroInstant
  state := .unsynchronised
  schedules := []
  holidays := []

/-- A line or release circuit that is UNQUALIFIED with its run cleared (R62, R69). Its last raw reading (R79) is absent until
one is taken (DESIGN CHOICE, notes/assumptions/36.md). -/
def unqualified {α : Type} : Qualification α where
  qualified := none
  candidate := none
  run := 0
  start := none
  last := none

/-- The lines of a vault after a reset or a disable (R62, R69). -/
def resetLines : VaultLines where
  lines := PerLine.make fun _ => unqualified
  release := unqualified

/-- The site functions of the LQU after a reset (R69). -/
def resetLqu : Lqu where
  site := PerSite.make fun _ => unqualified
  holdAll := false
  stands := false
  count := 0
  completed := false

/-- An empty claim set (R75). -/
def noClaims : ClaimSet where
  ssq := none
  siteEvacuate := false
  outerForced := false
  outerHeld := false
  vaultForced := false
  vaultHeld := false
  chirp := false
  test := none
  position := 0

/-- A reader record after a reset (R95). -/
def resetReader : ReaderRecord where
  status := .online
  misses := 0
  presentation := none
  waiting := none
  inFlight := none
  lastVerdict := none

/-- The readers of a vault after a reset (R95). -/
def resetReaders : VaultReaders := ⟨resetReader, resetReader, resetReader⟩

/-- The reader line after a reset (R95). -/
def resetReaderLine : ReaderLine where
  phase := .quiet
  address := none
  discard := false
  last := none
  frame := []

/-- A door record after a reset or a disable (R143). -/
def resetDoor : DoorRecord where
  outer := .locked
  outerGrant := none
  vault := .secured
  vaultGrant := none
  egress := none
  travel := none
  relock := none
  outerHeld := none
  vaultHeld := none
  emergency := false
  outerForcedStands := false
  vaultForcedStands := false
  outerHeldStands := false
  vaultHeldStands := false
  retractFaultStands := false
  extendFaultStands := false

/-- A vault's occupancy after a reset (R160). -/
def resetOccupancy : VaultOccupancy where
  entries := []
  certain := false

/-- A sequencer record after a reset or a disable (R186), with the committed set given. -/
def resetSsq (committed : SuppressionSet) : SsqRecord where
  state := .quiet
  path := none
  remaining := none
  holdEgress := false
  holdHoldAll := false
  abortElapsed := none
  abortSpent := false
  abortCut := false
  egress := .none
  clear := false
  pulse := none
  dischargeSeen := none
  confirmWait := none
  detail := none
  soak := none
  committed := committed

/-- The RESTART record that the ATU adds at the end of a reset (R202). -/
def restartRecord (kind : ResetKind) (at' : Stamp) : AlarmRecord where
  id := 1
  key := { kind := .restart, vault := none, credential := none, detail := some (.resetKind kind) }
  raisedAt := at'
  state := .raised
  level := 1
  occurrences := 1
  escalation := none

/-- The ATU during a reset: the table empty, the id counter 1, the overflow count 0 and the latch clear (R202). -/
def resetAtu : Atu where
  table := []
  counter := 1
  overflow := 0
  latch := false
  owed := false

/-- The link record after a reset (R203, R206). -/
def resetLink : Link where
  request := none
  processing := false
  response := none
  read := false
  overrun := false
  waiting := { mode := true }
  enabled := {}
  restartArranged := false
  dataOut := []

end Sys2Proof.Machine
end

