-- ==== Sys2Proof/Machine/State.lean ====
section
/-!
DEFINITION. The state of the part as plain data, the reasons a step could stop, and the machine right after reset.
-/

namespace Sys2Proof.Machine

/-- Everything the spec gives the part, with the queue of waiting commands and two fields of the model's own (`due`,
notes/assumptions/2.md; `freeCount`, notes/assumptions/6.md). INVENTORY.md names the rule of each field. -/
structure State where
  phase : Phase
  scanPos : Nat
  resetKind : ResetKind
  supply : SupplyLevel
  link : Link
  array : NvArray
  nva : Nva
  index : List (Nat × Nat)
  failures : List FailureEntry
  cfg : ConfigBlock
  tmb : Tmb
  cal : Cal
  lqu : Lqu
  lines : PerVault VaultLines
  claims : PerVault ClaimSet
  readers : PerVault VaultReaders
  rline : ReaderLine
  mode : Mode
  auto : Bool
  pairs : PerVault (Option PendingPair)
  doors : PerVault DoorRecord
  occ : PerVault VaultOccupancy
  ssq : PerVault SsqRecord
  globalHold : Bool
  atu : Atu
  due : List Due
  freeCount : Nat
  pending : List Instr
  deriving DecidableEq, Repr

/-- The reasons a command could fault. There is none: the spec names no behaviour that stops the part
(INVENTORY.md, Faults), so the type is empty and no command ever faults. -/
inductive Fault where
  deriving DecidableEq, Repr

/-- The reasons a command could be refused. -/
inductive Refusal where
  /-- A command whose meaning is not written: raised by an arm of `exec` only, and no arm raises it. Safe: the model
  stops where the part would go on. -/
  | notModelled (mnemonic : String)
  deriving DecidableEq, Repr

/-- The part right after a POWER-ON reset of a newly delivered part with the supply at 3.0 V or more: SCANNING, before
the first read of the scan, with the RESTART record alone in the alarm table (R34, R42, R47, R202, R211).
DESIGN CHOICE (notes/assumptions/9.md and 10.md): the kind of the first reset, the supply level, and the values the
owners hold before the configuration read. -/
def State.reset : State where
  phase := .scanning
  scanPos := 0
  resetKind := .powerOn
  supply := .good
  link := resetLink
  array := deliveredArray
  nva := resetNva
  index := []
  failures := []
  cfg := defaultConfig false
  tmb := resetTmb
  cal := resetCal
  lqu := resetLqu
  lines := PerVault.replicate resetLines
  claims := PerVault.replicate noClaims
  readers := PerVault.replicate resetReaders
  rline := resetReaderLine
  mode := .afterHours
  auto := true
  pairs := PerVault.replicate none
  doors := PerVault.replicate resetDoor
  occ := PerVault.replicate resetOccupancy
  ssq := PerVault.replicate (resetSsq defaultSuppression)
  globalHold := false
  atu := { resetAtu with
    table := [restartRecord .powerOn { day := 0, minute := 0, second := 0 }]
    counter := 2 }
  due := []
  freeCount := 0
  pending := []

end Sys2Proof.Machine
end

