-- ==== Sys2Proof/Machine/Ops.lean ====
section
/-!
DEFINITION. The named operations over the state: replacing one record of one vault, and the lists with rising addresses
that hold the array, the number index and the schedules.
-/

namespace Sys2Proof.Machine

/-! ## Lists of (address, value) with strictly rising addresses -/

/-- The value listed at an address. -/
def lookupAt {α : Type} (k : Nat) : List (Nat × α) → Option α
  | [] => none
  | (j, a) :: rest => if k = j then some a else if k < j then none else lookupAt k rest

/-- The list with the value at an address put in its place. -/
def insertAt {α : Type} (k : Nat) (a : α) : List (Nat × α) → List (Nat × α)
  | [] => [(k, a)]
  | (j, b) :: rest =>
    if k < j then (k, a) :: (j, b) :: rest
    else if k = j then (k, a) :: rest
    else (j, b) :: insertAt k a rest

/-- The list with nothing at an address. -/
def removeAt {α : Type} (k : Nat) : List (Nat × α) → List (Nat × α)
  | [] => []
  | (j, b) :: rest => if k = j then rest else (j, b) :: removeAt k rest

/-- The list with a value at an address, or nothing there where the value is the one that an unlisted address reads as. -/
def storeAt {α : Type} [DecidableEq α] (dflt : α) (k : Nat) (a : α) (m : List (Nat × α)) : List (Nat × α) :=
  if a = dflt then removeAt k m else insertAt k a m

/-- Every address of the list lies above a bound, and they rise strictly. -/
def risingFrom {α : Type} : Option Nat → List (Nat × α) → Bool
  | _, [] => true
  | none, (j, _) :: rest => risingFrom (some j) rest
  | some b, (j, _) :: rest => decide (b < j) && risingFrom (some j) rest

/-- The canonical form of a list of (address, value): strictly rising addresses, and no entry equal to what an unlisted
address reads as. -/
def canonical {α : Type} [DecidableEq α] (dflt : α) (m : List (Nat × α)) : Bool :=
  risingFrom none m && m.all fun e => decide (e.2 ≠ dflt)

/-- A set of numbers held as a rising list: the number put in. -/
def insertNat (k : Nat) : List Nat → List Nat
  | [] => [k]
  | j :: rest => if k < j then k :: j :: rest else if k = j then j :: rest else j :: insertNat k rest

/-! ## Replacing one record of the state -/

/-- The door record of a vault. -/
def State.door (s : State) (v : Vault) : DoorRecord := s.doors.get v
/-- The sequencer record of a vault. -/
def State.sequencer (s : State) (v : Vault) : SsqRecord := s.ssq.get v
/-- The occupancy of a vault. -/
def State.occupancy (s : State) (v : Vault) : VaultOccupancy := s.occ.get v
/-- The claim set of a vault. -/
def State.claimSet (s : State) (v : Vault) : ClaimSet := s.claims.get v
/-- The pending pair of a vault. -/
def State.pair (s : State) (v : Vault) : Option PendingPair := s.pairs.get v
/-- The vault group of the values in force. -/
def State.group (s : State) (v : Vault) : VaultGroup := s.cfg.vaults.get v
/-- The staged suppression set of a vault (R161, R181). -/
def State.stagedSet (s : State) (v : Vault) : SuppressionSet := s.cfg.suppression.get v
/-- The qualification record of a vault line. -/
def State.lineRecord (s : State) (v : Vault) (l : Line) : Qualification Reading := (s.lines.get v).lines.get l

/-- The state with the door record of a vault replaced. -/
def State.withDoor (s : State) (v : Vault) (d : DoorRecord) : State := { s with doors := s.doors.set v d }
/-- The state with the sequencer record of a vault replaced. -/
def State.withSequencer (s : State) (v : Vault) (q : SsqRecord) : State := { s with ssq := s.ssq.set v q }
/-- The state with the occupancy of a vault replaced. -/
def State.withOccupancy (s : State) (v : Vault) (o : VaultOccupancy) : State := { s with occ := s.occ.set v o }
/-- The state with the claim set of a vault replaced. -/
def State.withClaimSet (s : State) (v : Vault) (c : ClaimSet) : State := { s with claims := s.claims.set v c }
/-- The state with the pending pair of a vault replaced. -/
def State.withPair (s : State) (v : Vault) (p : Option PendingPair) : State := { s with pairs := s.pairs.set v p }
/-- The state with the vault group of the values in force replaced. -/
def State.withGroup (s : State) (v : Vault) (g : VaultGroup) : State :=
  { s with cfg := { s.cfg with vaults := s.cfg.vaults.set v g } }
/-- The state with the site group of the values in force replaced. -/
def State.withSite (s : State) (g : SiteGroup) : State := { s with cfg := { s.cfg with site := g } }
/-- The state with the staged suppression set of a vault replaced. -/
def State.withStaged (s : State) (v : Vault) (p : SuppressionSet) : State :=
  { s with cfg := { s.cfg with suppression := s.cfg.suppression.set v p } }
/-- The state with the lines of a vault replaced. -/
def State.withLines (s : State) (v : Vault) (l : VaultLines) : State := { s with lines := s.lines.set v l }
/-- The state with the qualification record of a vault line replaced. -/
def State.withLineRecord (s : State) (v : Vault) (l : Line) (q : Qualification Reading) : State :=
  s.withLines v { s.lines.get v with lines := (s.lines.get v).lines.set l q }
/-- The state with the qualification record of a release circuit replaced. -/
def State.withRelease (s : State) (v : Vault) (q : Qualification Circuit) : State :=
  s.withLines v { s.lines.get v with release := q }
/-- The state with the alarm table unit replaced. -/
def State.withAtu (s : State) (a : Atu) : State := { s with atu := a }
/-- The state with the link record replaced. -/
def State.withLink (s : State) (l : Link) : State := { s with link := l }
/-- The state with the NVA's volatile state replaced. -/
def State.withNva (s : State) (n : Nva) : State := { s with nva := n }
/-- The state with the readers of a vault replaced. -/
def State.withReaders (s : State) (v : Vault) (r : VaultReaders) : State := { s with readers := s.readers.set v r }
/-- The state with the site functions of the LQU replaced. -/
def State.withLqu (s : State) (l : Lqu) : State := { s with lqu := l }
/-- The state with the calendar replaced. -/
def State.withCal (s : State) (c : Cal) : State := { s with cal := c }
/-- The state with the number index replaced. -/
def State.withIndex (s : State) (i : List (Nat × Nat)) : State := { s with index := i }
/-- The state with the failure table replaced. -/
def State.withFailures (s : State) (f : List FailureEntry) : State := { s with failures := f }
/-- The state with the reader line replaced. -/
def State.withReaderLine (s : State) (r : ReaderLine) : State := { s with rline := r }

/-! ## Readers of a vault -/

/-- The reader record at a position. -/
def VaultReaders.at (r : VaultReaders) : Position → ReaderRecord
  | .outer => r.outer
  | .inner => r.inner
  | .exit => r.exit

/-- The readers with the record at a position replaced. -/
def VaultReaders.put (r : VaultReaders) (p : Position) (a : ReaderRecord) : VaultReaders :=
  match p with
  | .outer => { r with outer := a }
  | .inner => { r with inner := a }
  | .exit => { r with exit := a }

/-- The record of a reader (R80). -/
def State.reader (s : State) (a : ReaderAddress) : ReaderRecord := (s.readers.get a.vault).at a.position

/-- The state with the record of a reader replaced. -/
def State.withReader (s : State) (a : ReaderAddress) (r : ReaderRecord) : State :=
  s.withReaders a.vault ((s.readers.get a.vault).put a.position r)

/-- The number of a position in a reader address (R80). -/
def positionNumber : Position → Nat
  | .outer => 0
  | .inner => 1
  | .exit => 2

/-- The address number of a reader, 3 × vault + position (R80). -/
def ReaderAddress.number (a : ReaderAddress) : Nat := 3 * a.vault.num + positionNumber a.position

/-- The twenty-four readers in address order (R80). -/
def allReaders : List ReaderAddress :=
  Vault.all.flatMap fun v => [⟨v, .outer⟩, ⟨v, .inner⟩, ⟨v, .exit⟩]

/-! ## What a rule asks of the part as a whole -/

/-- The configuration read of the scan has been made, so the owners hold their values and act (R38, R211). -/
def State.configured (s : State) : Bool :=
  match s.phase with
  | .reset => false
  | .scanning => decide (0 < s.scanPos)
  | .running => true

/-- The vault is enabled, as the values in force say (R62). -/
def State.enabled (s : State) (v : Vault) : Bool := (s.group v).enabled

/-- The blocks of the vault act: the vault is enabled and the configuration read has been made. -/
def State.acts (s : State) (v : Vault) : Bool := s.configured && s.enabled v

/-- The calendar's day number, minute and second (R90, R191). -/
def State.stamp (s : State) : Stamp :=
  { day := s.cal.instant.day, minute := s.cal.instant.minute, second := s.cal.instant.second }

/-- A line of a vault counts ACTIVE (R66). -/
def State.countsActive (s : State) (v : Vault) (l : Line) : Bool :=
  decide ((s.lineRecord v l).qualified = some .active)

/-- A line of a vault counts NORMAL (R66): NORMAL, or UNQUALIFIED. -/
def State.countsNormal (s : State) (v : Vault) (l : Line) : Bool :=
  match (s.lineRecord v l).qualified with
  | none => true
  | some .normal => true
  | _ => false

/-- The release circuit field of a vault's SSQ (R161): UNQUALIFIED counts as INTACT (R68). -/
def State.releaseCircuit (s : State) (v : Vault) : Circuit := (s.lines.get v).release.qualified.getD .intact

/-- A programmed value brought to the nearest end of its range (00, Quantities and ranges). -/
def clamp (low high x : Nat) : Nat := max low (min high x)

/-- A trim brought into −127 to +127 (R44). -/
def clampTrim (t : Int) : Int := max (-127) (min 127 t)

/-- A site group with every timing and range value clamped (R8, R31, R44, R70, R110, R195, R208). -/
def clampSite (g : SiteGroup) : SiteGroup :=
  { g with
    failureLimit := clamp 3 9 g.failureLimit
    forgiveness := clamp 1 255 g.forgiveness
    maxAttempts := clamp 1 20 g.maxAttempts
    trim := clampTrim g.trim
    pairWindow := clamp 5 60 g.pairWindow
    tComb := clamp 1 10 g.tComb
    e1 := clamp 10 600 g.e1
    e2 := clamp 10 1800 g.e2 }

/-- A vault group with L_v, the lone interval and the door timings clamped (R124, R157, R208). -/
def clampVault (g : VaultGroup) : VaultGroup :=
  { g with
    limit := clamp 1 16 g.limit
    loneInterval := clamp 5 120 g.loneInterval
    tBolt := clamp 2 20 g.tBolt
    tGrant := clamp 3 30 g.tGrant
    relock := clamp 0 10 g.relock
    tHeld := clamp 10 600 g.tHeld
    tOuter := clamp 3 30 g.tOuter }

/-- A set of suppression parameters clamped (R181): D_auto first, then F into 0 to it. -/
def clampSet (p : SuppressionSet) : SuppressionSet :=
  let d := clamp 100 600 p.dAuto
  { p with
    dAuto := d
    dMan := clamp 100 600 p.dMan
    floor := clamp 0 d p.floor
    hMax := clamp 0 3000 p.hMax
    pulse := clamp 5 50 p.pulse
    soak := clamp 1 240 p.soak }

/-- A band size of R7. -/
def goodBand (n : Nat) : Bool := decide (n % 64 = 0) && decide (n ≤ 512)

/-- A line class of R64. -/
def goodClass (n : Nat) : Bool :=
  decide (n = 4) || decide (n = 8) || decide (n = 16) || decide (n = 32) || decide (n = 64)

/-- Ticks in whole seconds, rounded up (00, Time and units). -/
def secondsUp (ticks : Nat) : Nat := (ticks + 99) / 100

/-- A time in both of its reported forms. -/
def timed (ticks : Nat) : Timed := { ticks := ticks, seconds := secondsUp ticks }

/-- Whether a credential number lies outside 1 to 4,294,967,294 (00, Identities): a request that carries it is refused
BAD-FIELD. -/
def badNumber (n : Nat) : Bool := decide (n = 0) || decide (Config.numberMax < n)

/-- A state changed at every vault in turn, vault 0 first. -/
def eachVault (f : Vault → State → State) (s : State) : State := Vault.all.foldl (fun s v => f v s) s

end Sys2Proof.Machine
end

