-- ==== Sys2Proof/Machine/Claims.lean ====
section
/-!
DEFINITION. The Output Arbiter: claim sets, the winning kind and the cadences (R75 to R78).
-/

namespace Sys2Proof.Machine

/-- The claim set holds a claim of the kind, from whichever source (R75). -/
def ClaimSet.holds (c : ClaimSet) : ClaimKind → Bool
  | .evacuate => decide (c.ssq = some .evacuate) || c.siteEvacuate
  | .discharge => decide (c.ssq = some .discharge)
  | .preDischarge => decide (c.ssq = some .preDischarge)
  | .alert => decide (c.ssq = some .alert)
  | .doorForced => c.outerForced || c.vaultForced
  | .doorHeld => c.outerHeld || c.vaultHeld
  | .chirp => c.chirp
  | .test => c.test.isSome

/-- The claim kinds in the order of their priority (R76). -/
def claimOrder : List ClaimKind :=
  [.evacuate, .discharge, .preDischarge, .alert, .doorForced, .doorHeld, .chirp, .test]

/-- The winning kind of a claim set (R76). -/
def ClaimSet.winning (c : ClaimSet) : Option ClaimKind := claimOrder.find? c.holds

/-- The cadence, tone and strobe of the winning kind (R76). -/
def ClaimSet.drive (c : ClaimSet) : Option (Cadence × Tone × Bool) :=
  match c.winning with
  | none => none
  | some .evacuate => some (.temporal, .high, true)
  | some .discharge => some (.continuous, .high, true)
  | some .preDischarge => some (.fast, .high, true)
  | some .alert => some (.slow, .low, true)
  | some .doorForced => some (.continuous, .low, false)
  | some .doorHeld => some (.slow, .low, false)
  | some .chirp => some (.chirp, .low, false)
  | some .test => c.test.map fun t => (t.cadence, t.tone, t.strobe)

/-- The period of a cadence in ticks, 0 for the one that has none (R77). -/
def cadencePeriod : Cadence → Nat
  | .temporal => 400
  | .continuous => 0
  | .fast => 50
  | .slow => 200
  | .chirp => 1000

/-- The sounder is on at a position of a cadence (R77). -/
def cadenceOn (c : Cadence) (position : Nat) : Bool :=
  match c with
  | .temporal =>
    decide (position < 50) || (decide (100 ≤ position) && decide (position < 150))
      || (decide (200 ≤ position) && decide (position < 250))
  | .continuous => true
  | .fast => decide (position < 25)
  | .slow => decide (position < 100)
  | .chirp => decide (position < 10)

/-- The position of a cadence one tick later. A CONTINUOUS cadence, which has no period, counts on
(DESIGN CHOICE, notes/assumptions/15.md). -/
def cadenceNext (c : Cadence) (position : Nat) : Nat :=
  if cadencePeriod c = 0 then position + 1 else (position + 1) % cadencePeriod c

/-- The cadence of a claim set one tick later (R77). -/
def ClaimSet.tick (c : ClaimSet) : ClaimSet :=
  match c.drive with
  | none => c
  | some (k, _, _) => { c with position := cadenceNext k c.position }

/-- A changed claim set: the cadence restarts where the winning kind changes (R76). -/
def ClaimSet.changed (old new : ClaimSet) : ClaimSet :=
  if new.winning = old.winning then { new with position := old.position } else { new with position := 0 }

/-- A source changes its claims at a vault: nothing is held for a vault that is not enabled (R75). -/
def claim (v : Vault) (f : ClaimSet → ClaimSet) (s : State) : State :=
  if s.enabled v then s.withClaimSet v ((s.claimSet v).changed (f (s.claimSet v))) else s

/-- The DOOR-FORCED claim of a door placed or withdrawn (R75, R138). -/
def claimForced (v : Vault) (d : Door) (b : Bool) : State → State :=
  claim v fun c => match d with
    | .outer => { c with outerForced := b }
    | .vault => { c with vaultForced := b }

/-- The DOOR-HELD claim of a door placed or withdrawn (R75, R138). -/
def claimHeld (v : Vault) (d : Door) (b : Bool) : State → State :=
  claim v fun c => match d with
    | .outer => { c with outerHeld := b }
    | .vault => { c with vaultHeld := b }

/-- The CHIRP claim of the OCC placed or withdrawn (R75, R157). -/
def claimChirp (v : Vault) (b : Bool) : State → State := claim v fun c => { c with chirp := b }

/-- The {EVACUATE, SITE} claim placed or withdrawn (R199). -/
def claimSiteEvacuate (v : Vault) (b : Bool) : State → State := claim v fun c => { c with siteEvacuate := b }

/-- The one claim of the SSQ (R75, R162). -/
def claimSsq (v : Vault) (k : Option ClaimKind) : State → State := claim v fun c => { c with ssq := k }

/-- The TEST claim placed, which replaces one already held: a winning TEST that is replaced restarts the cadence
(R76, R78). -/
def claimTest (v : Vault) (t : TestClaim) (s : State) : State :=
  let s' := claim v (fun c => { c with test := some t }) s
  if (s'.claimSet v).winning = some .test then s'.withClaimSet v { s'.claimSet v with position := 0 } else s'

/-- The TEST claim withdrawn (R78). -/
def endTest (v : Vault) : State → State := claim v fun c => { c with test := none }

end Sys2Proof.Machine
end

