-- ==== Sys2Proof/Machine/Flags.lean ====
section
/-!
DEFINITION. The attention causes (R206): a block sets a cause at the event its chapter names, and a cause already
pending stays pending.
-/

namespace Sys2Proof.Machine

/-- The state with the attention pending set replaced. -/
def State.withWaiting (s : State) (c : Causes) : State := s.withLink { s.link with waiting := c }

/-- The ALARMS cause set (R191, R193, R194). -/
def causeAlarms (s : State) : State := s.withWaiting { s.link.waiting with alarms := true }
/-- The OCCUPANCY cause set (R148). -/
def causeOccupancy (s : State) : State := s.withWaiting { s.link.waiting with occupancy := true }
/-- The SUPPRESSION cause set (R162). -/
def causeSuppression (s : State) : State := s.withWaiting { s.link.waiting with suppression := true }
/-- The DOORS cause set (R123). -/
def causeDoors (s : State) : State := s.withWaiting { s.link.waiting with doors := true }
/-- The STORE cause set (R36). -/
def causeStore (s : State) : State := s.withWaiting { s.link.waiting with store := true }
/-- The MODE cause set (R98). -/
def causeMode (s : State) : State := s.withWaiting { s.link.waiting with mode := true }
/-- The VERDICT cause set (R90). -/
def causeVerdict (s : State) : State := s.withWaiting { s.link.waiting with verdict := true }
/-- The CLOCK cause set (R45, R46, R49, R51). -/
def causeClock (s : State) : State := s.withWaiting { s.link.waiting with clock := true }

/-- Some cause is both pending and enabled: ATTN is driven low (R206). -/
def attention (c e : Causes) : Bool :=
  (c.alarms && e.alarms) || (c.occupancy && e.occupancy) || (c.suppression && e.suppression) || (c.doors && e.doors)
    || (c.store && e.store) || (c.mode && e.mode) || (c.verdict && e.verdict) || (c.clock && e.clock)

end Sys2Proof.Machine
end

