-- ==== Sys2Proof/Machine/Formats.lean ====
section
/-!
DEFINITION. The formats that software and bus partners see (R212 to R215): check values, the credential record image,
the schedule record image, the alarm record image, and the codes of statuses, verdicts and requests.
-/

namespace Sys2Proof.Machine

/-! ## Check values -/

/-- One bit of a CRC-8 with the polynomial x^8 + x^2 + x + 1 (R3). -/
def crc8Bit (c : Byte) : Byte := if c.msb then (c <<< 1) ^^^ 0x07#8 else c <<< 1

/-- One byte of a CRC-8. PRESUMED: the bits of a byte enter most significant first (notes/assumptions/24.md). -/
def crc8Byte (c b : Byte) : Byte := crc8Bit (crc8Bit (crc8Bit (crc8Bit (crc8Bit (crc8Bit (crc8Bit (crc8Bit (c ^^^ b))))))))

/-- The CRC-8 of R3: initial value 0, no final inversion. -/
def crc8 (bytes : List Byte) : Byte := bytes.foldl crc8Byte 0#8

/-- One bit of a CRC-16 with the polynomial x^16 + x^12 + x^5 + 1 (11, Formats). -/
def crc16Bit (c : BitVec 16) : BitVec 16 := if c.msb then (c <<< 1) ^^^ 0x1021#16 else c <<< 1

/-- One byte of a CRC-16, no reflection. -/
def crc16Byte (c : BitVec 16) (b : Byte) : BitVec 16 :=
  crc16Bit (crc16Bit (crc16Bit (crc16Bit (crc16Bit (crc16Bit (crc16Bit (crc16Bit (c ^^^ (b.zeroExtend 16 <<< 8)))))))))

/-- The CRC-16 of the link frames (11, Formats): initial value 0xFFFF, no reflection, no final inversion. -/
def crc16 (bytes : List Byte) : BitVec 16 := bytes.foldl crc16Byte 0xFFFF#16

/-! ## Bytes, most significant first -/

/-- The low byte of a number. -/
def byteOf (n : Nat) : Byte := BitVec.ofNat 8 n

/-- A number in two bytes. -/
def bytes2 (n : Nat) : List Byte := [byteOf (n / 256), byteOf n]

/-- A number in four bytes. -/
def bytes4 (n : Nat) : List Byte := [byteOf (n / 16777216), byteOf (n / 65536), byteOf (n / 256), byteOf n]

/-- The number two bytes hold. -/
def num2 (a b : Byte) : Nat := 256 * a.toNat + b.toNat

/-- The number four bytes hold. -/
def num4 (a b c d : Byte) : Nat := 16777216 * a.toNat + 65536 * b.toNat + 256 * c.toNat + d.toNat

/-! ## The credential record image (R213) -/

/-- The state byte of a record (R213 byte 4). -/
def stateCode : CredState → Nat
  | .active => 1
  | .suspended => 2
  | .retired => 3

/-- The state of a state byte above FREE, absent for any other value. -/
def stateOfCode (c : Nat) : Option CredState :=
  if c = 1 then some .active else if c = 2 then some .suspended else if c = 3 then some .retired else none

/-- A flag as a number. -/
def bit (b : Bool) : Nat := if b then 1 else 0

/-- The digit at a place of a PIN or duress code, or the unused nibble 0xF. -/
def nibble (digits : List Nat) (i : Nat) : Nat := digits.getD i 15

/-- The four digit bytes of a PIN or duress code (R213 bytes 13 to 20): two digits a byte, the first in the high nibble. -/
def digitBytes (digits : List Nat) : List Byte :=
  [byteOf (16 * nibble digits 0 + nibble digits 1), byteOf (16 * nibble digits 2 + nibble digits 3),
   byteOf (16 * nibble digits 4 + nibble digits 5), byteOf (16 * nibble digits 6 + nibble digits 7)]

/-- The digits of an optional code, none where it is absent. -/
def digitsOf (code : Option (List Nat)) : List Nat := code.getD []

/-- Bytes 0 to 22 of the image of a record (R213). -/
def recordBytes (r : CredRecord) : List Byte :=
  bytes4 r.number ++
  [byteOf (stateCode r.state), r.vaults,
   byteOf (bit r.escortRequired + 2 * bit r.mayEscort + 4 * bit r.schedule.isSome + 8 * bit r.expiry.isSome
     + 16 * bit r.uses.isSome),
   byteOf (r.schedule.getD 0)] ++
  bytes2 (r.expiry.getD 0) ++ bytes2 (r.uses.getD 0) ++
  [byteOf (16 * (digitsOf r.pin).length + (digitsOf r.duress).length)] ++
  digitBytes (digitsOf r.pin) ++ digitBytes (digitsOf r.duress) ++
  [byteOf r.revision, 0x5C#8]

/-- Bytes 0 to 22 of the FREE image (R42, R213). -/
def freeBytes : List Byte :=
  [0, 0, 0, 0, 0, 0, 0, 0, 0, 0, 0, 0, 0, 0xFF, 0xFF, 0xFF, 0xFF, 0xFF, 0xFF, 0xFF, 0xFF, 0, 0x5C]

/-- Bytes 0 to 22 of the image of a slot: a record's, or the FREE image. -/
def slotBytes : Option CredRecord → List Byte
  | none => freeBytes
  | some r => recordBytes r

/-- The credential record image, 24 bytes with its check value (R3, R213). -/
def encodeSlot (r : Option CredRecord) : List Byte := slotBytes r ++ [crc8 (slotBytes r)]

/-- The digits that a length nibble and four digit bytes hold: no code for length 0, and nothing where the length
disagrees with the digit nibbles or is not 4 to 8 (R2, R213). -/
def digitsOfBytes (length : Nat) (a b c d : Byte) : Option (Option (List Nat)) :=
  let nibbles := [a.toNat / 16, a.toNat % 16, b.toNat / 16, b.toNat % 16, c.toNat / 16, c.toNat % 16, d.toNat / 16, d.toNat % 16]
  let digits := nibbles.take length
  if digits.all (fun x => decide (x ≤ 9)) && (nibbles.drop length).all (fun x => decide (x = 15)) then
    if length = 0 then some none
    else if 4 ≤ length ∧ length ≤ 8 then some (some digits)
    else none
  else none

/-- A PIN or duress code of R2: 4 to 8 decimal digits. -/
def goodCode (digits : List Nat) : Bool :=
  decide (4 ≤ digits.length) && decide (digits.length ≤ 8) && digits.all fun x => decide (x ≤ 9)

/-- Every field of a record lies in the ranges of R1. -/
def recordInRange (r : CredRecord) : Bool :=
  !badNumber r.number
    && !(r.escortRequired && r.mayEscort)
    && (match r.schedule with | none => true | some n => decide (n < Config.scheduleCount))
    && (match r.expiry with | none => true | some d => decide (d ≤ 65534))
    && (match r.uses with
        | none => true
        | some u => decide (u ≤ 65535) && (decide (0 < u) || decide (r.state = .retired)))
    && (match r.pin with | none => decide (r.duress = none) | some p => goodCode p)
    && (match r.duress with | none => true | some d => goodCode d && decide (r.pin ≠ some d))
    && decide (1 ≤ r.revision) && decide (r.revision ≤ 255)

/-- The slot content a 24-byte image holds (R38, R213): absent where the check value or the structure test fails, `some none`
for a FREE image. -/
def parseSlot (bytes : List Byte) : Option (Option CredRecord) :=
  match bytes with
  | [n0, n1, n2, n3, st, vs, fl, sc, x0, x1, u0, u1, ln, p0, p1, p2, p3, d0, d1, d2, d3, rv, mk, ck] =>
    if crc8 [n0, n1, n2, n3, st, vs, fl, sc, x0, x1, u0, u1, ln, p0, p1, p2, p3, d0, d1, d2, d3, rv, mk] ≠ ck then none
    else if mk ≠ 0x5C#8 then none
    else if 32 ≤ fl.toNat then none
    else
      match digitsOfBytes (ln.toNat / 16) p0 p1 p2 p3, digitsOfBytes (ln.toNat % 16) d0 d1 d2 d3 with
      | some pin, some duress =>
        if st.toNat = 0 then
          if num4 n0 n1 n2 n3 = 0 ∧ rv.toNat = 0 then some none else none
        else
          match stateOfCode st.toNat with
          | none => none
          | some state =>
            let r : CredRecord :=
              { number := num4 n0 n1 n2 n3, state := state, vaults := vs
                escortRequired := fl.getLsbD 0, mayEscort := fl.getLsbD 1
                schedule := if fl.getLsbD 2 then some sc.toNat else none
                expiry := if fl.getLsbD 3 then some (num2 x0 x1) else none
                uses := if fl.getLsbD 4 then some (num2 u0 u1) else none
                pin := pin, duress := duress, revision := rv.toNat }
            if recordInRange r then some (some r) else none
      | _, _ => none
  | _ => none

/-- Bytes 0 to 22 as a read reports a slot (R2, R17, R213): the digit bytes each 0xFF, and state byte 4 for DAMAGED. -/
def reportBytes : SlotContent → List Byte
  | .free => freeBytes
  | .damaged => freeBytes.set 4 4#8
  | .held r => (recordBytes r).take 13 ++ List.replicate 8 0xFF#8 ++ (recordBytes r).drop 21

/-! ## The schedule record image (R213) -/

/-- The five bytes of a window. -/
def windowBytes (w : Window) : List Byte := w.mask :: (bytes2 w.start ++ bytes2 w.stop)

/-- The schedule record image, 22 bytes with its check value: windows beyond the count hold 0. -/
def encodeSchedule (windows : List Window) : List Byte :=
  let body := byteOf windows.length :: (windows.flatMap windowBytes ++ List.replicate (20 - 5 * windows.length) 0#8)
  body ++ [crc8 body]

/-- The window five bytes hold. -/
def windowOfBytes : List Byte → Window
  | [m, a, b, c, d] => { mask := m, start := num2 a b, stop := num2 c d }
  | _ => { mask := 0, start := 0, stop := 0 }

/-- A window of R55: a nonempty mask and both minutes of the day. -/
def goodWindow (w : Window) : Bool := decide (w.mask ≠ 0) && decide (w.start ≤ 1439) && decide (w.stop ≤ 1439)

/-- The windows a 22-byte image holds (R38, R213): absent where the check value or the structure test fails. -/
def parseSchedule (bytes : List Byte) : Option (List Window) :=
  let body := bytes.take 21
  let count := (bytes.getD 0 0).toNat
  let windows := (List.range count).map fun k => windowOfBytes ((bytes.drop (1 + 5 * k)).take 5)
  if bytes.length ≠ 22 then none
  else if crc8 body ≠ bytes.getD 21 0 then none
  else if 4 < count then none
  else if windows.all goodWindow then some windows else none

/-! ## Codes -/

/-- The status code (R212). -/
def statusCode : Status → Nat
  | .ok => 0
  | .badFrame => 1
  | .unknownRequest => 2
  | .badLength => 3
  | .badField => 4
  | .notFound => 5
  | .duplicate => 6
  | .inUse => 7
  | .revision => 8
  | .storeBusy => 9
  | .protectedSlot => 10
  | .wrongMode => 11
  | .locked => 12
  | .notIsolated => 13
  | .soakActive => 14
  | .state => 15
  | .notReady => 16

/-- The verdict code: the verdict's place in the R91 table from 1 (R215). -/
def verdictCode : Verdict → Nat
  | .granted => 1
  | .grantedPair => 2
  | .exitReleased => 3
  | .exitUnlisted => 4
  | .checkedIn => 5
  | .waitSecond => 6
  | .pinRequired => 7
  | .starting => 8
  | .escortNeeded => 9
  | .doorBusy => 10
  | .interlock => 11
  | .storeBusy => 12
  | .full => 13
  | .pairLapsed => 14
  | .notInside => 15
  | .unknown => 16
  | .retired => 17
  | .suspended => 18
  | .lockedOut => 19
  | .lockdown => 20
  | .expired => 21
  | .notPermitted => 22
  | .clock => 23
  | .outOfHours => 24
  | .pinWrong => 25
  | .passback => 26
  | .suppression => 27

/-- The lamp code (R215). -/
def lampCode : Lamp → Nat
  | .green => 0
  | .red => 1
  | .amber => 2

/-- The tone code (R215). -/
def toneCode : ReaderTone → Nat
  | .none => 0
  | .short => 1
  | .long => 2

/-- The code of a request, its position in the request list counted from 1 (11, The requests); absent for a command that
is no host request. -/
def requestCode : Instr → Option Nat
  | .lookupCredential _ => some 1
  | .readSlot _ => some 2
  | .writeCredential _ => some 3
  | .grantVaults _ _ => some 4
  | .revokeVaults _ _ => some 5
  | .suspend _ => some 6
  | .reinstate _ => some 7
  | .retire _ => some 8
  | .purge _ => some 9
  | .findFreeSlot => some 10
  | .storeStatus => some 11
  | .setCommissioningLock => some 12
  | .eraseAll => some 13
  | .setTime _ _ _ => some 14
  | .getTime => some 15
  | .writeHolidays _ => some 16
  | .readHolidays => some 17
  | .writeSchedule _ _ => some 18
  | .readSchedule _ => some 19
  | .testOutput _ _ _ _ _ => some 20
  | .getLineStatus _ => some 21
  | .getReaderStatus _ => some 22
  | .setSiteMode _ => some 23
  | .releaseDoor _ _ _ => some 24
  | .secureDoor _ _ => some 25
  | .holdDoor _ _ _ => some 26
  | .getDoorStatus _ => some 27
  | .listOccupants _ => some 28
  | .addOccupant _ _ _ => some 29
  | .removeOccupant _ => some 30
  | .confirmOccupancy _ => some 31
  | .globalHold _ => some 32
  | .setSuppressionParams _ _ => some 33
  | .readSuppressionParams _ => some 34
  | .resetSuppression _ => some 35
  | .getSuppressionStatus _ => some 36
  | .ackAlarm _ => some 37
  | .clearAlarm _ => some 38
  | .listAlarms _ _ => some 39
  | .readAlarm _ => some 40
  | .getAttention => some 41
  | .setAttentionEnable _ => some 42
  | .getSiteStatus => some 43
  | .writeParams _ => some 44
  | .readParams _ => some 45
  | .restart => some 46
  | .getResetCause => some 47
  | .requestTransaction _ => none
  | .responseTransaction _ => none
  | .ignoredTransaction _ _ => none
  | .completionOfProcessing => none
  | .powerOnReset => none
  | .supplyReset => none
  | .resetLineReset => none
  | .endOfReset _ => none
  | .configurationRead => none
  | .scanTargetRead => none
  | .writeLow => none
  | .supplyGood => none
  | .attemptCompletion _ => none
  | .tickEvent _ => none
  | .referenceLost => none
  | .startUpReferenceTimeout => none
  | .referenceReturned => none
  | .minuteEvent => none
  | .outerContact _ => none
  | .outerEgress _ => none
  | .vaultContactOpen _ => none
  | .vaultContactClose _ => none
  | .boltsWithdrawn _ => none
  | .boltsThrown _ => none
  | .vaultEgress _ => none
  | .detectorChange _ _ => none
  | .manualRelease _ => none
  | .abortChange _ => none
  | .isolateChange _ => none
  | .dischargeChange _ => none
  | .duressButton _ _ => none
  | .checkInButton _ => none
  | .siteLineChange _ => none
  | .releaseCircuitChange _ => none
  | .evacuationCombinationCompletion => none
  | .testClaimExpiry _ => none
  | .pollTransactionStart => none
  | .replyWindowExpiry => none
  | .readerReplyComplete _ => none
  | .pairWindowExpiry _ => none
  | .outerGrantLapse _ => none
  | .vaultGrantLapse _ => none
  | .egressReleaseLapse _ => none
  | .travelTimerExpiry _ => none
  | .relockTimerExpiry _ => none
  | .heldTimerExpiry _ _ => none
  | .loneWorkerChirp _ => none
  | .loneWorkerExpiry _ => none
  | .countdownExpiry _ => none
  | .abortHoldLapse _ => none
  | .releasePulseEnd _ => none
  | .confirmWaitExpiry _ => none
  | .soakEnd _ => none
  | .escalationExpiry _ => none
  | .readerReplyBegun => none
  | .replyWindowOpen => none

/-- The request of a code whose request carries no fields (R204 check 6: its body is empty). -/
def fieldlessRequest (code : Nat) : Option Instr :=
  if code = 10 then some .findFreeSlot
  else if code = 11 then some .storeStatus
  else if code = 12 then some .setCommissioningLock
  else if code = 13 then some .eraseAll
  else if code = 15 then some .getTime
  else if code = 17 then some .readHolidays
  else if code = 41 then some .getAttention
  else if code = 43 then some .getSiteStatus
  else if code = 46 then some .restart
  else if code = 47 then some .getResetCause
  else none

/-! ## The alarm record image (R214) -/

/-- The row of a line in the R61 table, from 0. -/
def lineRow : Line → Nat
  | .outerContact => 0
  | .outerEgress => 1
  | .vaultContact => 2
  | .boltsThrown => 3
  | .boltsWithdrawn => 4
  | .vaultEgress => 5
  | .detectorA => 6
  | .detectorB => 7
  | .manualRelease => 8
  | .abort => 9
  | .isolate => 10
  | .discharge => 11
  | .duressVault => 12
  | .duressVestibule => 13
  | .checkIn => 14

/-- The number of a site line. -/
def siteLineNumber : SiteLine → Nat
  | .s0 => 0
  | .s1 => 1
  | .s2 => 2
  | .s3 => 3

/-- The kind byte of an alarm record (R214). -/
def kindCode : AlarmKind → Nat
  | .duressButton => 1
  | .duressCode => 2
  | .evacuation => 3
  | .discharge => 4
  | .suppressionAlert => 5
  | .loneWorker => 6
  | .doorForced => 7
  | .escortLeft => 8
  | .unbadgedEgress => 9
  | .doorHeld => 10
  | .doorFault => 11
  | .lineFault => 12
  | .readerFault => 13
  | .storeFault => 14
  | .clockFault => 15
  | .restart => 16

/-- A door as a number (R214). -/
def doorCode : Door → Nat
  | .outer => 0
  | .vault => 1

/-- A reset kind as a number (R214), which is its place in the order of R210. -/
def resetKindCode : ResetKind → Nat
  | .powerOn => 0
  | .supply => 1
  | .resetLine => 2
  | .restart => 3

/-- A sub-code as a number (R214). -/
def subCodeNumber : SubCode → Nat
  | .detection => 0
  | .manual => 1
  | .isolated => 2
  | .manualInIsolation => 3
  | .confirmed => 0
  | .unconfirmed => 1
  | .uncommanded => 2
  | .reference => 0

/-- A store target as a number (R214). -/
def targetCode : Target → Nat
  | .slot n => n
  | .schedule n => 0x1000 + n
  | .holidays => 0x2000
  | .config => 0x3000

/-- The detail type byte and the two detail value bytes of an alarm record (R214). The value bytes of detail type 0, which
R214 does not give, are 0 (DESIGN CHOICE, notes/assumptions/40.md). -/
def detailBytes : Option Detail → List Byte
  | none => [0, 0, 0]
  | some (.line (.vaultLine v l)) => [1, byteOf v.num, byteOf (lineRow l)]
  | some (.line (.release v)) => [1, byteOf v.num, 15]
  | some (.line (.siteLine i)) => [1, 0xFF, byteOf (siteLineNumber i)]
  | some (.reader a .silent) => [2, byteOf a.number, 0]
  | some (.reader a .tamper) => [2, byteOf a.number, 1]
  | some (.store t) => 3 :: bytes2 (targetCode t)
  | some (.door d) => 4 :: bytes2 (doorCode d)
  | some (.drive .retract) => [5, 0, 0]
  | some (.drive .extend) => [5, 0, 1]
  | some (.resetKind k) => 6 :: bytes2 (resetKindCode k)
  | some (.sub c) => 7 :: bytes2 (subCodeNumber c)

/-- The state byte of an alarm record (R214). -/
def alarmStateCode : AlarmState → Nat
  | .raised => 0
  | .acknowledged => 1
  | .clearedUnack => 2

/-- A kind is silent: held and escalated, but left out of an AUDIBLE list (R189, R197). -/
def silentKind : AlarmKind → Bool
  | .duressButton | .duressCode => true
  | _ => false

/-- The 21-byte alarm record image (R214) of a record at a position. -/
def alarmImage (position : Nat) (a : AlarmRecord) : List Byte :=
  bytes2 a.id ++ [byteOf (kindCode a.key.kind),
    match a.key.vault with | none => 0xFF | some v => byteOf v.num] ++
  bytes4 (a.key.credential.getD 0) ++ detailBytes a.key.detail ++
  bytes2 a.raisedAt.day ++ bytes2 a.raisedAt.minute ++
  [byteOf a.raisedAt.second, byteOf (alarmStateCode a.state), byteOf a.level, byteOf (bit (silentKind a.key.kind)),
   byteOf a.occurrences, byteOf position]

/-! ## Reader-line frames (R215) -/

/-- A reader-line frame of an address, a type and a payload, with its check. -/
def readerFrame (address type : Nat) (payload : List Byte) : List Byte :=
  let body := [byteOf address, byteOf type, byteOf payload.length] ++ payload
  body ++ [crc8 body]

/-- The lamp of a verdict (R91). -/
def verdictLamp : Verdict → Lamp
  | .granted | .grantedPair | .exitReleased | .exitUnlisted | .checkedIn => .green
  | .waitSecond | .pinRequired | .starting => .amber
  | .escortNeeded | .doorBusy | .interlock | .storeBusy | .full | .pairLapsed => .amber
  | .notInside => .red
  | .unknown | .retired | .suspended | .lockedOut | .lockdown | .expired | .notPermitted | .clock | .outOfHours
  | .pinWrong | .passback | .suppression => .red

/-- The tone of a verdict (R91). -/
def verdictTone : Verdict → ReaderTone
  | .granted | .grantedPair | .exitReleased | .exitUnlisted | .checkedIn => .short
  | .waitSecond | .pinRequired | .starting => .short
  | .escortNeeded | .doorBusy | .interlock | .storeBusy | .full | .pairLapsed => .long
  | .notInside => .short
  | .unknown | .retired | .suspended | .lockedOut | .lockdown | .expired | .notPermitted | .clock | .outOfHours
  | .pinWrong | .passback | .suppression => .long

/-- The POLL frame of a reader (R83, R215). -/
def pollFrame (a : ReaderAddress) : List Byte := readerFrame a.number 0x01 []

/-- The INDICATE frame that carries a verdict to a reader (R83, R215). -/
def indicateFrame (a : ReaderAddress) (v : Verdict) : List Byte :=
  readerFrame a.number 0x02 [byteOf (verdictCode v), byteOf (lampCode (verdictLamp v)), byteOf (toneCode (verdictTone v))]

/-- What a completed reply of the addressed reader says, absent where it is no good reply (R84). Bytes after the last
that the length field gives are no part of the reply (R82). -/
def parseReply (a : ReaderAddress) (bytes : List Byte) : Option Reply :=
  match bytes with
  | adr :: typ :: len :: rest =>
    let payload := rest.take len.toNat
    if rest.length < len.toNat + 1 then none
    else if crc8 (adr :: typ :: len :: payload) ≠ rest.getD len.toNat 0 then none
    else if adr ≠ byteOf a.number then none
    else if typ = 0x81#8 then (if len.toNat = 0 then some .idle else none)
    else if typ = 0x83#8 then (if len.toNat = 0 then some .tamper else none)
    else if typ = 0x82#8 then
      match payload with
      | n0 :: n1 :: n2 :: n3 :: p :: k :: digits =>
        if 8 < k.toNat ∨ digits.length ≠ k.toNat then none
        else if digits.any (fun d => decide (9 < d.toNat)) then none
        else if p = 0#8 then some (.present (num4 n0 n1 n2 n3) .entry (digits.map BitVec.toNat))
        else if p = 1#8 then some (.present (num4 n0 n1 n2 n3) .checkIn (digits.map BitVec.toNat))
        else none
      | _ => none
    else none
  | _ => none

end Sys2Proof.Machine
end

