-- ==== Sys2Proof/Machine/Alarms.lean ====
section
/-!
DEFINITION. The Alarm Table Unit (R188 to R199): raising, ending, acknowledging and clearing an alarm, escalation, and
the site outputs it drives.
-/

namespace Sys2Proof.Machine

/-- The priority of a kind, 1 highest (R189). -/
def kindPriority : AlarmKind → Nat
  | .duressButton | .duressCode => 1
  | .evacuation | .discharge => 2
  | .suppressionAlert | .loneWorker | .doorForced => 3
  | .escortLeft | .unbadgedEgress | .doorHeld | .doorFault => 4
  | .lineFault | .readerFault | .storeFault | .clockFault | .restart => 5

/-- The initial level of a kind (R189). -/
def initialLevel : AlarmKind → Nat
  | .duressButton | .duressCode => 3
  | .evacuation | .discharge | .suppressionAlert | .loneWorker => 2
  | .doorForced | .escortLeft | .unbadgedEgress | .doorHeld | .doorFault => 1
  | .lineFault | .readerFault | .storeFault | .clockFault | .restart => 1

/-- The maximum level of a kind (R189). -/
def maxLevel : AlarmKind → Nat
  | .duressButton | .duressCode | .evacuation | .discharge | .suppressionAlert | .loneWorker | .doorForced => 3
  | .escortLeft | .unbadgedEgress | .doorHeld | .doorFault | .lineFault | .readerFault | .storeFault | .clockFault => 2
  | .restart => 1

/-- The record of a key ends by CLEAR-ALARM (R189): EVACUATION does so where it names no vault. -/
def hostClear (k : AlarmKey) : Bool :=
  match k.kind with
  | .duressButton | .duressCode | .unbadgedEgress | .storeFault | .restart => true
  | .evacuation => k.vault.isNone
  | .discharge | .suppressionAlert | .loneWorker | .doorForced | .escortLeft | .doorHeld | .doorFault | .lineFault
  | .readerFault | .clockFault => false

/-- The key of a condition that names its vault and detail alone. -/
def keyOf (kind : AlarmKind) (vault : Option Vault) (detail : Option Detail) : AlarmKey :=
  { kind := kind, vault := vault, credential := none, detail := detail }

/-- The key of the site EVACUATION record (R73, R189). -/
def siteEvacuationKey : AlarmKey := keyOf .evacuation none none

/-- The escalation remaining set with a level (R194). -/
def escalationFor (g : SiteGroup) (kind : AlarmKind) (level : Nat) : Option Nat :=
  if level < maxLevel kind then some (100 * (if level = 1 then g.e1 else g.e2)) else none

/-- The id after an id (R190). -/
def nextId (i : Nat) : Nat := if i = 65535 then 1 else i + 1

/-- The first id from a counter value on that no record of the table holds (R190); 49 values are enough. -/
def freeId (table : List AlarmRecord) : Nat → Nat → Nat
  | 0, i => i
  | fuel + 1, i => if table.any (fun r => r.id = i) then freeId table fuel (nextId i) else i

/-- A record added at the end of the table, RAISED, at the calendar instant of the event (R190, R191). -/
def Atu.add (a : Atu) (g : SiteGroup) (now : Stamp) (key : AlarmKey) : Atu :=
  let id := freeId a.table 49 a.counter
  { a with
    table := a.table ++
      [{ id := id, key := key, raisedAt := now, state := .raised, level := initialLevel key.kind, occurrences := 1
         escalation := escalationFor g key.kind (initialLevel key.kind) }]
    counter := nextId id
    owed := if key = siteEvacuationKey then false else a.owed }

/-- The table with the first record of an id taken out. -/
def dropId (id : Nat) (table : List AlarmRecord) : List AlarmRecord := table.eraseP fun r => r.id = id

/-- The table with the record of a key changed. -/
def updateKey (key : AlarmKey) (f : AlarmRecord → AlarmRecord) (table : List AlarmRecord) : List AlarmRecord :=
  table.map fun r => if r.key = key then f r else r

/-- The record of a key. -/
def Atu.find (a : Atu) (key : AlarmKey) : Option AlarmRecord := a.table.find? fun r => r.key = key

/-- The record of an id. -/
def Atu.byId (a : Atu) (id : Nat) : Option AlarmRecord := a.table.find? fun r => r.id = id

/-- Another occurrence of a record (R191): from CLEARED-UNACK it returns to RAISED as a new record stands. -/
def AlarmRecord.again (g : SiteGroup) (r : AlarmRecord) : AlarmRecord :=
  let r' := { r with occurrences := min 255 (r.occurrences + 1) }
  match r.state with
  | .raised | .acknowledged => r'
  | .clearedUnack =>
    { r' with
      state := .raised
      level := initialLevel r.key.kind
      escalation := escalationFor g r.key.kind (initialLevel r.key.kind) }

/-- The record that leaves a full table for a raise of a kind, if any may (R192). -/
def Atu.victim (a : Atu) (kind : AlarmKind) : Option AlarmRecord :=
  match a.table.find? fun r => r.state = .clearedUnack with
  | some r => some r
  | none =>
    if kindPriority kind = 1 then
      let choosable := a.table.filter fun r =>
        decide (2 ≤ kindPriority r.key.kind) && !(a.latch && decide (r.key = siteEvacuationKey))
      let lowest := choosable.foldl (fun p r => max p (kindPriority r.key.kind)) 0
      choosable.find? fun r => kindPriority r.key.kind = lowest
    else none

/-- A block raises an alarm (R191, R192): the state with the outcome, and what the ATU answers. -/
def raise (key : AlarmKey) (s : State) : State × RaiseAnswer :=
  match s.atu.find key with
  | some r =>
    let r' := r.again s.cfg.site
    let s' := s.withAtu { s.atu with table := updateKey key (fun _ => r') s.atu.table }
    (if r' = r then s' else causeAlarms s', .stands r'.state)
  | none =>
    if s.atu.table.length < Config.alarmSize then
      (causeAlarms (s.withAtu (s.atu.add s.cfg.site s.stamp key)), .stands .raised)
    else
      match s.atu.victim key.kind with
      | some r =>
        (causeAlarms (s.withAtu ({ s.atu with table := dropId r.id s.atu.table }.add s.cfg.site s.stamp key)),
          .stands .raised)
      | none => (causeAlarms (s.withAtu { s.atu with overflow := min 255 (s.atu.overflow + 1) }), .notStored)

/-- A raise whose answer the raising block does not use. -/
def raised (key : AlarmKey) (s : State) : State := (raise key s).1

/-- A record retires (R193): it leaves the table, and the site EVACUATION record that is owed takes its place at the
end (R199). -/
def retireRecord (id : Nat) (s : State) : State :=
  let a := { s.atu with table := dropId id s.atu.table }
  causeAlarms (s.withAtu (if a.owed then a.add s.cfg.site s.stamp siteEvacuationKey else a))

/-- A record whose condition has ended and that nobody has acknowledged (R193). -/
def AlarmRecord.cleared (r : AlarmRecord) : AlarmRecord :=
  { r with state := .clearedUnack, level := 0, escalation := none }

/-- The condition of a key ends (R193). -/
def endCondition (key : AlarmKey) (s : State) : State :=
  match s.atu.find key with
  | none => s
  | some r =>
    match r.state with
    | .raised => causeAlarms (s.withAtu { s.atu with table := updateKey key AlarmRecord.cleared s.atu.table })
    | .acknowledged => retireRecord r.id s
    | .clearedUnack => s

/-- The acknowledgment of a DOOR-FORCED or DOOR-HELD record reaches the DSQ, which withdraws its claim for that door
(R138, R198). -/
def doorAcknowledged (key : AlarmKey) (s : State) : State :=
  match key.kind, key.vault, key.detail with
  | .doorForced, some v, some (.door d) => claimForced v d false s
  | .doorHeld, some v, some (.door d) => claimHeld v d false s
  | _, _, _ => s

/-- A record is acknowledged (the ACK-ALARM table of R198). -/
def acknowledgeRecord (r : AlarmRecord) (s : State) : State :=
  match r.state with
  | .raised =>
    causeAlarms (doorAcknowledged r.key
      (s.withAtu { s.atu with
        table := updateKey r.key (fun r => { r with state := .acknowledged, escalation := none }) s.atu.table }))
  | .acknowledged => s
  | .clearedUnack => retireRecord r.id s

/-- The escalation remaining of a record reaches 0 (R194). -/
def AlarmRecord.escalate (g : SiteGroup) (r : AlarmRecord) : AlarmRecord :=
  { r with level := r.level + 1, escalation := if r.level + 1 < maxLevel r.key.kind then some (100 * g.e2) else none }

/-- GUARD is active (R196). -/
def Atu.guardActive (a : Atu) : Bool := a.table.any fun r => decide (r.state = .raised) && decide (2 ≤ r.level)

/-- MONITOR is active (R196). -/
def Atu.monitorActive (a : Atu) : Bool := a.table.any fun r => decide (r.level = 3)

end Sys2Proof.Machine
end

