-- ==== Sys2Proof/Machine/Calendar.lean ====
section
/-!
DEFINITION. The Time Base (R43 to R47) and the Calendar and Schedule Unit (R48 to R58).
-/

namespace Sys2Proof.Machine

/-! ## The tick -/

/-- The accumulator gains 68 and loses 100 where it stands at 100 or more (R43). -/
def nextAccumulator (a : Nat) : Nat := if 100 ≤ a + 68 then a + 68 - 100 else a + 68

/-- The length in cycles of a tick that starts at an accumulator value (R43), with the trim on the last tick of a
64-second period (R44). -/
def tickLength (a : Nat) (lastOfPeriod : Bool) (trim : Int) : Int :=
  (if 100 ≤ a + 68 then 328 else 327) + (if lastOfPeriod then trim else 0)

/-- The TMB at the end of a tick (R43, R44, R46): the counts advance, a pending return takes effect, and on the reference
the next tick takes its length. The hundredth tick of the start-up path is left to its own event (R47). -/
def Tmb.tick (t : Tmb) (trim : Int) : Tmb :=
  let sub := if t.subTick + 1 = 100 then 0 else t.subTick + 1
  let sec := if t.subTick + 1 = 100 then (t.seconds + 1) % 64 else t.seconds
  let up := t.startUp.map fun n => if 99 ≤ n then n else n + 1
  match t.source with
  | .rc => { t with subTick := sub, seconds := sec, startUp := up }
  | .reference | .rcReturnPending =>
    { accumulator := nextAccumulator t.accumulator
      seconds := sec
      subTick := sub
      source := .reference
      length := some (tickLength t.accumulator (decide (sub = 99) && decide (sec = 63)) trim)
      startUp := up }

/-! ## The calendar -/

/-- The calendar one tick later (R48): the calendar, and whether the minute event occurs. -/
def Cal.tick (c : Cal) : Cal × Bool :=
  let i := c.instant
  if i.tick + 1 < 100 then ({ c with instant := { i with tick := i.tick + 1 } }, false)
  else if i.second + 1 < 60 then ({ c with instant := { i with second := i.second + 1, tick := 0 } }, false)
  else if i.minute + 1 < 1440 then
    ({ c with instant := { i with minute := i.minute + 1, second := 0, tick := 0 } }, true)
  else if i.day < Config.lastDay then
    ({ c with instant := { day := i.day + 1, minute := 0, second := 0, tick := 0 } }, true)
  else ({ c with instant := zeroInstant, state := .unsynchronised }, true)

/-- The next tick ends day 65,535, which sets the CLOCK cause (R48, R49). -/
def Cal.endsLastDay (c : Cal) : Bool :=
  decide (c.instant = { day := Config.lastDay, minute := 1439, second := 59, tick := 99 })

/-- The TMB times its ticks from the reference (R49, R52). -/
def Tmb.onReference (t : Tmb) : Bool := decide (t.source = .reference)

/-- The calendar state that SET-TIME gives (R49): a pending return counts as RC. -/
def setTimeState (t : Tmb) : CalendarState := if t.onReference then .synchronised else .drifted

/-- The calendar state after REFERENCE-LOST (R49). -/
def lostState : CalendarState → CalendarState
  | .unsynchronised => .unsynchronised
  | .synchronised => .drifted
  | .drifted => .drifted

/-- The key of CLOCK-FAULT (R45). -/
def clockFaultKey : AlarmKey := keyOf .clockFault none (some (.sub .reference))

/-- REFERENCE-LOST with every effect of R45: the TMB runs on RC, CLOCK-FAULT is raised, the CLOCK cause is set and the
calendar changes state. -/
def referenceLost (s : State) : State :=
  causeClock (raised clockFaultKey
    { s with
      tmb := { s.tmb with source := .rc, length := none, startUp := none }
      cal := { s.cal with state := lostState s.cal.state } })

/-- REFERENCE-RETURNED (R46). On the start-up path of R47 no CLOCK-FAULT condition is ended. -/
def referenceReturned (s : State) : State :=
  let s' := { s with tmb := { s.tmb with source := .rcReturnPending, startUp := none } }
  causeClock (if s.tmb.startUp.isSome then s' else endCondition clockFaultKey s')

/-! ## Day types, windows and schedules -/

/-- The weekday index of a day number, Monday 0 (R53). -/
def weekdayIndex (day : Nat) : Nat := (day + 5) % 7

/-- The day type of a day (R53). -/
def dayType (holidays : List Nat) (day : Nat) : DayType :=
  if day ∈ holidays then .holiday else .weekday (weekdayIndex day)

/-- The bit of a day type in a day mask (R55). -/
def dayTypeBit : DayType → Nat
  | .weekday i => i
  | .holiday => 7

/-- A day's type is in a mask. -/
def dayInMask (holidays : List Nat) (mask : DayMask) (day : Nat) : Bool :=
  mask.getLsbD (dayTypeBit (dayType holidays day))

/-- A list of day numbers is strictly ascending (R38, R54). -/
def ascending : List Nat → Bool
  | [] => true
  | [_] => true
  | a :: b :: rest => decide (a < b) && ascending (b :: rest)

/-- A window contains an instant (R57). -/
def windowContains (holidays : List Nat) (w : Window) (day minute : Nat) : Bool :=
  if w.start < w.stop then
    dayInMask holidays w.mask day && decide (w.start ≤ minute) && decide (minute < w.stop)
  else
    (dayInMask holidays w.mask day && decide (w.start ≤ minute))
      || (decide (0 < day) && dayInMask holidays w.mask (day - 1) && decide (minute < w.stop))

/-- The working copy of a schedule: zero windows where none is listed (R55). -/
def Cal.windows (c : Cal) (n : Nat) : List Window := (lookupAt n c.schedules).getD []

/-- The calendar with the working copy of a schedule replaced. -/
def Cal.setSchedule (c : Cal) (n : Nat) (w : List Window) : Cal := { c with schedules := storeAt [] n w c.schedules }

/-- The answer to a containment question about a schedule and the present instant (R58). -/
def Cal.containment (c : Cal) (n : Nat) : Containment :=
  match c.state with
  | .unsynchronised => .noTime
  | .synchronised | .drifted =>
    if (c.windows n).any fun w => windowContains c.holidays w c.instant.day c.instant.minute then .contained
    else .notContained

/-- The site mode that the site schedule gives (R59). -/
def State.scheduledMode (s : State) : Mode :=
  match s.cal.containment s.cfg.site.siteSchedule with
  | .contained => .openHours
  | .notContained | .noTime => .afterHours

end Sys2Proof.Machine
end

