-- ==== Sys2Proof/Machine/Store.lean ====
section
/-!
DEFINITION. The store: the nonvolatile array, the write queue, programming attempts and the erase pass (R26 to R42), the
effective content of a slot, the number index and the failure table (R1 to R14).
-/

namespace Sys2Proof.Machine

/-! ## Targets, images and the array -/

/-- The target of an image (R28). -/
def Image.target : Image → Target
  | .slot n _ => .slot n
  | .schedule n _ => .schedule n
  | .holidays _ => .holidays
  | .config _ => .config

/-- What a slot holds that the array does not list: the FREE image (R42). -/
def erasedSlot : Cell (List Byte) := .content (encodeSlot none)

/-- What a schedule record holds that the array does not list: zero windows (R42). -/
def erasedSchedule : Cell (List Byte) := .content (encodeSchedule [])

/-- The stored cell of a slot. -/
def NvArray.slotCell (a : NvArray) (n : Nat) : Cell (List Byte) := (lookupAt n a.slots).getD erasedSlot

/-- The stored cell of a schedule record. -/
def NvArray.scheduleCell (a : NvArray) (n : Nat) : Cell (List Byte) := (lookupAt n a.schedules).getD erasedSchedule

/-- The array with the cell of a slot stored. -/
def NvArray.storeSlot (a : NvArray) (n : Nat) (c : Cell (List Byte)) : NvArray :=
  { a with slots := storeAt erasedSlot n c a.slots }

/-- The array with the cell of a schedule record stored. -/
def NvArray.storeSchedule (a : NvArray) (n : Nat) (c : Cell (List Byte)) : NvArray :=
  { a with schedules := storeAt erasedSchedule n c a.schedules }

/-- The array with an image programmed whole into its target (R26). -/
def NvArray.program (a : NvArray) : Image → NvArray
  | .slot n r => a.storeSlot n (.content (encodeSlot r))
  | .schedule n w => a.storeSchedule n (.content (encodeSchedule w))
  | .holidays d => { a with holidays := .content d }
  | .config b => { a with config := .content b }

/-- The array with a target left holding content whose check value fails (R32, R37). -/
def NvArray.spoil (a : NvArray) : Target → NvArray
  | .slot n => a.storeSlot n .checkFails
  | .schedule n => a.storeSchedule n .checkFails
  | .holidays => { a with holidays := .checkFails }
  | .config => { a with config := .checkFails }

/-- What an attempt that did not settle leaves in its target (R32, R37). -/
def NvArray.leave (a : NvArray) (i : Image) : Leftover → NvArray
  | .oldContent => a
  | .newImage => a.program i
  | .checkFails => a.spoil i.target

/-- The record a slot cell holds: absent for a failed check, `some none` for FREE (R38). -/
def cellRecord : Cell (List Byte) → Option (Option CredRecord)
  | .checkFails => none
  | .content bytes => parseSlot bytes

/-- The windows a schedule cell holds: absent for a failed check (R38). -/
def cellWindows : Cell (List Byte) → Option (List Window)
  | .checkFails => none
  | .content bytes => parseSchedule bytes

/-! ## Effective content -/

/-- The queued image of a target (R5). -/
def Nva.queued (n : Nva) (t : Target) : Option QueueEntry := n.queue.find? fun e => e.image.target = t

/-- The queue position of a target, 1 for the oldest entry and 0 where no entry is queued for it (R15, R28). -/
def Nva.position (n : Nva) (t : Target) : Nat :=
  match n.queue.findIdx? fun e => e.image.target = t with
  | none => 0
  | some i => i + 1

/-- The content of a slot by the array alone: FREE while the erase pass runs (R41), DAMAGED where it reads so (R4). -/
def State.storedContent (s : State) (n : Nat) : SlotContent :=
  if n ∈ s.nva.damagedSlots then .damaged
  else if s.nva.erase.isSome then .free
  else
    match cellRecord (s.array.slotCell n) with
    | none => .damaged
    | some none => .free
    | some (some r) => .held r

/-- The effective content of a slot (R5). -/
def State.slotContent (s : State) (n : Nat) : SlotContent :=
  match s.nva.queued (.slot n) with
  | some ⟨.slot _ (some r), _⟩ => .held r
  | some ⟨.slot _ none, _⟩ => .free
  | _ => s.storedContent n

/-- The number a slot content holds. -/
def SlotContent.number : SlotContent → Option Nat
  | .held r => some r.number
  | _ => none

/-- The revision of a slot content, 0 for FREE and DAMAGED (R3). -/
def SlotContent.revision : SlotContent → Nat
  | .held r => r.revision
  | _ => 0

/-- The revision of a new image over a content (R3). -/
def SlotContent.nextRevision (c : SlotContent) : Nat := if c.revision = 255 then 1 else c.revision + 1

/-- The slot the number index holds for a number (R5). -/
def State.slotOf (s : State) (number : Nat) : Option Nat := lookupAt number s.index

/-- The credential of a number: its slot and its effective record, absent where the index does not hold it (R5). -/
def State.credential (s : State) (number : Nat) : Option (Nat × CredRecord) :=
  match s.slotOf number with
  | none => none
  | some n =>
    match s.slotContent n with
    | .held r => some (n, r)
    | _ => none

/-- A slot belongs to the responder band (R7). -/
def State.inBand (s : State) (n : Nat) : Bool := decide (Config.slotCount - s.cfg.site.bandSize ≤ n)

/-- The number that the content of a cell holds. -/
def cellNumber (c : Cell (List Byte)) : Option Nat :=
  match cellRecord c with
  | some (some r) => some r.number
  | _ => none

/-- The number that the array content of a slot holds for the DUPLICATE check (R6): that of the content that settled last,
whatever an attempt has left in the cell since (R23, R32; notes/assumptions/41.md). A slot that reads DAMAGED holds none
(R4). -/
def State.settledNumber (s : State) (n : Nat) : Option Nat :=
  if n ∈ s.nva.damagedSlots then none else (lookupAt n s.nva.unsettled).getD (cellNumber (s.array.slotCell n))

/-- A number stands in the array content of a slot other than the one given, or in the queued image of one (R6). The slots
asked are those the array lists and those an attempt has overwritten; any other holds the FREE image (R42). While the erase
pass runs the array content is what it has settled so far (DESIGN CHOICE, notes/assumptions/20.md). -/
def State.numberTaken (s : State) (number slot : Nat) : Bool :=
  ((s.array.slots.map Prod.fst ++ s.nva.unsettled.map Prod.fst).any fun n =>
    decide (n ≠ slot) && decide (s.settledNumber n = some number))
  || s.nva.queue.any fun e =>
    match e.image with
    | .slot n (some r) => decide (n ≠ slot) && decide (r.number = number)
    | _ => false

/-- The numbers kept for the overwritten cells once an attempt has overwritten its target: a slot keeps the number it held
until a write settles in it (R6, R23, R32). -/
def State.keptNumbers (s : State) : Target → List (Nat × Option Nat)
  | .slot n => insertAt n (s.settledNumber n) s.nva.unsettled
  | _ => s.nva.unsettled

/-! ## The failure table -/

/-- The failure entry of a number (R8). -/
def State.failureEntry (s : State) (number : Nat) : Option FailureEntry := s.failures.find? fun e => e.number = number

/-- The failure entry of a number stands at the limit in force (R8). -/
def State.atLimit (s : State) (number : Nat) : Bool :=
  match s.failureEntry number with
  | none => false
  | some e => decide (s.cfg.site.failureLimit ≤ e.failures)

/-- The failure entry of a number removed (R11). -/
def forget (number : Nat) (s : State) : State := s.withFailures (s.failures.filter fun e => e.number ≠ number)

/-- The oldest entry below a limit taken out of the table, absent where all stand at it (R9). -/
def evictFailure (limit : Nat) (t : List FailureEntry) : Option (List FailureEntry) :=
  if t.any fun e => e.failures < limit then some (t.reverse.eraseP fun e => e.failures < limit).reverse else none

/-- A PIN-WRONG verdict records a failure (R9). -/
def recordFailure (number : Nat) (s : State) : State :=
  match s.failureEntry number with
  | some e =>
    s.withFailures ({ e with failures := min 9 (e.failures + 1), age := 0 } :: s.failures.filter fun e => e.number ≠ number)
  | none =>
    let entry : FailureEntry := { number := number, failures := 1, age := 0 }
    if s.failures.length < Config.failureSize then s.withFailures (entry :: s.failures)
    else
      match evictFailure s.cfg.site.failureLimit s.failures with
      | none => s
      | some t => s.withFailures (entry :: t)

/-- The failure table at a minute event (R10). -/
def ageFailures (s : State) : State :=
  s.withFailures ((s.failures.map fun e => { e with age := min 255 (e.age + 1) }).filter fun e =>
    decide (s.cfg.site.failureLimit ≤ e.failures) || decide (e.age < s.cfg.site.forgiveness))

/-! ## Programming attempts -/

/-- The target of the erase pass by its number: slots, schedule records, the holiday list, the configuration block
(R42). -/
def eraseTarget (k : Nat) : Target :=
  if k < Config.slotCount then .slot k
  else if k < Config.slotCount + Config.scheduleCount then .schedule (k - Config.slotCount)
  else if k = Config.slotCount + Config.scheduleCount then .holidays
  else .config

/-- The erased image of a target (R42). -/
def erasedImage : Target → Image
  | .slot n => .slot n none
  | .schedule n => .schedule n []
  | .holidays => .holidays []
  | .config => .config erasedConfig

/-- A new programming attempt on an image. -/
def attemptOn (i : Image) : Attempt := { image := i, discard := false, spoiled := false }

/-- An attempt starts where every condition of R31 and R42 holds. -/
def startAttempt (s : State) : State :=
  if s.phase = .running ∧ s.nva.inFlight = none ∧ s.supply = .good then
    match s.nva.erase with
    | some e => s.withNva { s.nva with inFlight := some (attemptOn (erasedImage (eraseTarget e.next))) }
    | none =>
      match s.nva.queue with
      | [] => s
      | e :: _ => s.withNva { s.nva with inFlight := some (attemptOn e.image) }
  else s

/-- The queue with an image placed: it coalesces with the entry of its target, or is added at the end (R29); an attempt
in flight on that entry has its result discarded (R32). -/
def Nva.place (n : Nva) (i : Image) : Nva :=
  if (n.queued i.target).isSome then
    { n with
      queue := n.queue.map fun e => if e.image.target = i.target then { image := i, attempts := 0 } else e
      inFlight := n.inFlight.map fun a => if a.image.target = i.target then { a with discard := true } else a
      owed := n.owed && decide (i.target ≠ .config) }
  else
    { n with
      queue := n.queue ++ [{ image := i, attempts := 0 }]
      owed := n.owed && decide (i.target ≠ .config) }

/-- The number index after a slot's content changes (R5). -/
def reindex (slot : Nat) (old new : Option Nat) (index : List (Nat × Nat)) : List (Nat × Nat) :=
  let without := match old with
    | none => index
    | some k => removeAt k index
  match new with
  | none => without
  | some k => insertAt k slot without

/-- An image placed in the write queue (R5, R29). -/
def place (i : Image) (s : State) : State :=
  let s := match i with
    | .slot n r => s.withIndex (reindex n (s.slotContent n).number (r.map CredRecord.number) s.index)
    | _ => s
  startAttempt (s.withNva (s.nva.place i))

/-- The configuration block placed from the values in force (R27). -/
def placeConfig (s : State) : State := place (.config s.cfg) s

/-- A host write is refused STORE-BUSY (R29). -/
def State.storeBusy (s : State) : Bool := decide (Config.hostPlaces ≤ s.nva.queue.length) || s.nva.erase.isSome

/-- A device-made write has a place: it coalesces or the queue is short of 8, and no erase pass runs (R29). -/
def State.devicePlace (s : State) (t : Target) : Bool :=
  s.nva.erase.isNone && ((s.nva.queued t).isSome || decide (s.nva.queue.length < Config.queueSize))

/-- The configuration write of SET-SITE-MODE: placed where it can be, and otherwise owed (R30). -/
def placeOrOweConfig (s : State) : State :=
  if s.devicePlace .config then placeConfig s else s.withNva { s.nva with owed := true }

/-- The owed configuration write is placed where a place is free (R30). -/
def placeOwed (s : State) : State :=
  if s.nva.owed ∧ s.devicePlace .config then placeConfig s else s

/-- A target joins a set held as a list. -/
def joinTarget (t : Target) (l : List Target) : List Target := if t ∈ l then l else l ++ [t]

/-- The key of a STORE-FAULT (R33). -/
def storeFaultKey (t : Target) : AlarmKey := keyOf .storeFault none (some (.store t))

/-- A target is damaged (R4, R33): `number` is what a slot held before. -/
def damage (t : Target) (number : Option Nat) (s : State) : State :=
  match t with
  | .slot n =>
    let s := s.withNva { s.nva with
      damagedSlots := insertNat n s.nva.damagedSlots
      unsettled := removeAt n s.nva.unsettled }
    let s := match number with
      | none => s
      | some k => forget k (s.withIndex (removeAt k s.index))
    raised (storeFaultKey t) s
  | _ => raised (storeFaultKey t) (s.withNva { s.nva with damaged := joinTarget t s.nva.damaged })

/-- A write to a target has settled: the target is damaged no longer (R4, R33), and a slot's cell holds what settled. -/
def Nva.repaired (n : Nva) : Target → Nva
  | .slot k => { n with damagedSlots := n.damagedSlots.erase k, unsettled := removeAt k n.unsettled }
  | t => { n with damaged := n.damaged.erase t }

/-- The number in the image of a slot. -/
def Image.number : Image → Option Nat
  | .slot _ (some r) => some r.number
  | _ => none

/-- The oldest entry has left the queue: the owed configuration write takes the place, and STORE is set where the queue
is empty (R30, R36). -/
def entryLeft (s : State) : State :=
  let s := placeOwed s
  if s.nva.queue = [] then causeStore s else s

/-- The erase pass goes on to its next target, or ends after the configuration block (R42). -/
def eraseNext (e : ErasePass) (s : State) : State :=
  if e.next + 1 < Config.targetCount then s.withNva { s.nva with erase := some { next := e.next + 1, attempts := 0 } }
  else placeOwed (causeStore (s.withNva { s.nva with erase := none }))

/-- An attempt of the erase pass has completed (R42); `good` tells that its verify matched. -/
def eraseCompleted (e : ErasePass) (good : Bool) (s : State) : State :=
  let t := eraseTarget e.next
  if good then eraseNext e (s.withNva (s.nva.repaired t))
  else if e.attempts + 1 < 8 then s.withNva { s.nva with erase := some { e with attempts := e.attempts + 1 } }
  else eraseNext e (damage t none s)

/-- An attempt on the oldest entry has completed (R31, R33). -/
def queueCompleted (good : Bool) (s : State) : State :=
  match s.nva.queue with
  | [] => s
  | e :: rest =>
    if good then entryLeft (s.withNva ({ s.nva with queue := rest }.repaired e.image.target))
    else if e.attempts + 1 < s.cfg.site.maxAttempts then
      s.withNva { s.nva with queue := { e with attempts := e.attempts + 1 } :: rest }
    else entryLeft (damage e.image.target e.image.number (s.withNva { s.nva with queue := rest }))

/-- The verify of an attempt matches, and no WRITE-LOW arrived while it ran (R31, R35). -/
def Attempt.settles (a : Attempt) (outcome : AttemptOutcome) : Bool := decide (outcome = .verifyMatches) && !a.spoiled

/-- The content an attempt leaves in the array (R31, R32, R35). A discarded attempt that failed, by its verify or by
WRITE-LOW, leaves content whose check fails (R32). -/
def attemptArray (a : Attempt) (outcome : AttemptOutcome) (array : NvArray) : NvArray :=
  if a.discard && !a.settles outcome then array.leave a.image .checkFails
  else
    match outcome with
    | .verifyMatches => array.program a.image
    | .verifyDiffers left => array.leave a.image left

/-- A programming attempt completes (R31, R32, R35, R42) and the next one starts. A slot keeps the
number it held until a write settles in it (R6). -/
def attemptCompleted (outcome : AttemptOutcome) (s : State) : State :=
  match s.nva.inFlight with
  | none => s
  | some a =>
    let good := a.settles outcome
    let s := { s with
      array := attemptArray a outcome s.array
      nva := { s.nva with inFlight := none, unsettled := s.keptNumbers a.image.target } }
    let s :=
      if a.discard then s
      else
        match s.nva.erase with
        | some e => eraseCompleted e good s
        | none => queueCompleted good s
    startAttempt s

/-- An attempt in flight at a reset leaves its target holding the old image, the new image or content whose check fails,
which the spec does not say (R37): a free value (notes/assumptions/6.md). -/
def tearAttempt (s : State) : State :=
  match s.nva.inFlight with
  | none => s
  | some a =>
    { s with
      array := s.array.leave a.image (Config.tornAttempt s.freeCount)
      freeCount := s.freeCount + 1 }

/-! ## Device-made changes -/

/-- A device-made change of a slot's record (R12): the state, and whether it was made. -/
def deviceChange (slot : Nat) (f : CredRecord → CredRecord) (s : State) : State × Bool :=
  match s.slotContent slot with
  | .held r =>
    if s.devicePlace (.slot slot) then
      (place (.slot slot (some { f r with revision := (s.slotContent slot).nextRevision })) s, true)
    else (s, false)
  | _ => (s, false)

/-- The record after a uses decrement (R13). -/
def CredRecord.used (r : CredRecord) : CredRecord :=
  match r.uses with
  | none => r
  | some u => { r with uses := some (u - 1), state := if u - 1 = 0 then .retired else r.state }

/-- The uses decrement of a number (R13): a record without uses remaining needs no write. -/
def decrementUses (number : Nat) (s : State) : State :=
  match s.credential number with
  | none => s
  | some (slot, r) => if r.uses.isNone then s else (deviceChange slot CredRecord.used s).1

/-- The lockout suspension of a number (R14): MADE and NOT-NEEDED remove the failure entry, NO-PLACE changes nothing. -/
def suspendLockedOut (number : Nat) (s : State) : State :=
  match s.credential number with
  | none => forget number s
  | some (slot, r) =>
    if r.state = .active then
      let (s', made) := deviceChange slot (fun r => { r with state := .suspended }) s
      if made then forget number s' else s
    else forget number s

/-! ## IN-USE -/

/-- A number stands IN-USE (R15). -/
def State.inUse (s : State) (number : Nat) : Bool :=
  Vault.all.any fun v =>
    ((s.occupancy v).entries.any fun e => e.number = number)
    || (match (s.door v).vaultGrant with
        | none => false
        | some g => (g.entering.any fun e => e.number = number) || g.exiting.any fun k => k = number)
    || (match s.pair v with
        | none => false
        | some p => decide (p.first = number))

/-- Some number stands IN-USE (R41 check 4). -/
def State.anyInUse (s : State) : Bool :=
  Vault.all.any fun v =>
    !(s.occupancy v).entries.isEmpty
    || (match (s.door v).vaultGrant with
        | none => false
        | some g => !g.entering.isEmpty || !g.exiting.isEmpty)
    || (s.pair v).isSome

end Sys2Proof.Machine
end

