-- ==== Sys2Proof/Machine/Register.lean ====
section
/-!
DEFINITION. The Occupancy Register (R144 to R160): lists, certainty, lone-worker timing and escort links. The report of a
changed occupancy state to the SSQ (R148) stands in `Machine/Passage.lean`.
-/

namespace Sys2Proof.Machine

/-- The vault whose list holds a number (R146). -/
def State.vaultOf (s : State) (number : Nat) : Option Vault :=
  Vault.all.find? fun v => (s.occupancy v).entries.any fun e => e.number = number

/-- The count of a vault (R146). -/
def State.count (s : State) (v : Vault) : Nat := (s.occupancy v).entries.length

/-- The numbers in the entering list of a vault's outstanding grant (R146). -/
def State.entering (s : State) (v : Vault) : List Nat :=
  match (s.door v).vaultGrant with
  | none => []
  | some g => g.entering.map EnteringEntry.number

/-- The load of a vault (R105, R146). -/
def State.load (s : State) (v : Vault) : Nat := s.count v + (s.entering v).length

/-- The count of the whole register. -/
def State.siteCount (s : State) : Nat := (Vault.all.map s.count).sum

/-- The site load (R105). -/
def State.siteLoad (s : State) : Nat := (Vault.all.map s.load).sum

/-- The vault is clear (R148). -/
def State.clearVault (s : State) (v : Vault) : Bool := decide (s.count v = 0) && (s.occupancy v).certain

/-- The key of a LONE-WORKER condition (R151). -/
def loneWorkerKey (v : Vault) (number : Nat) : AlarmKey :=
  { kind := .loneWorker, vault := some v, credential := some number, detail := none }

/-- The key of an ESCORT-LEFT condition (R155). -/
def escortLeftKey (v : Vault) (number : Nat) : AlarmKey :=
  { kind := .escortLeft, vault := some v, credential := some number, detail := none }

/-- The credential of a number is may-escort in its effective content (R108, R154). -/
def State.mayEscort (s : State) (number : Nat) : Bool :=
  match s.credential number with
  | none => false
  | some (_, r) => r.mayEscort

/-- The credential of a number is escort-required in its effective content (R154). -/
def State.escortRequired (s : State) (number : Nat) : Bool :=
  match s.credential number with
  | none => false
  | some (_, r) => r.escortRequired

/-- A new entry (R145, R154). -/
def State.newOccupant (s : State) (e : EnteringEntry) (time : Instant) : Occupant :=
  { number := e.number, entered := time, link := e.link
    wanted := e.link.isSome || s.escortRequired e.number
    checkIn := none, underDuress := e.duress, overdue := false }

/-- Entries added at the end of a vault's list (R147 step 1). -/
def addOccupants (v : Vault) (adds : List EnteringEntry) (time : Instant) (s : State) : State :=
  let o := s.occupancy v
  s.withOccupancy v { o with entries := o.entries ++ adds.map fun e => s.newOccupant e time }

/-- The conditions of an entry end with it (R147 step 2), and the CHIRP claim of a lone worker with its timer (R151). -/
def endOccupant (v : Vault) (e : Occupant) (s : State) : State :=
  let s := if e.overdue then endCondition (loneWorkerKey v e.number) s else s
  let s := if e.wanted ∧ e.link = none then endCondition (escortLeftKey v e.number) s else s
  if e.checkIn.isSome then claimChirp v false s else s

/-- A number removed from a vault's list, where the list holds it (R147 step 2). -/
def removeOccupant (v : Vault) (s : State) (number : Nat) : State :=
  match (s.occupancy v).entries.find? fun e => e.number = number with
  | none => s
  | some e =>
    let o := s.occupancy v
    endOccupant v e (s.withOccupancy v { o with entries := o.entries.filter fun e => e.number ≠ number })

/-- The certainty of a vault set (R149). -/
def setCertain (v : Vault) (b : Bool) (s : State) : State := s.withOccupancy v { s.occupancy v with certain := b }

/-- A link that names an occupant the list holds (R155). -/
def heldLink (entries : List Occupant) (link : Option Nat) : Bool :=
  match link with
  | none => false
  | some k => entries.any fun e => e.number = k

/-- The escort link of one entry settled (R155); `fresh` tells that the entry was added since the last settling. -/
def settleLink (v : Vault) (fresh : List Nat) (s : State) (e : Occupant) : State :=
  let entries := (s.occupancy v).entries
  if e.wanted = false ∨ heldLink entries e.link then s
  else
    let link := (entries.find? fun h => decide (h.number ≠ e.number) && s.mayEscort h.number).map Occupant.number
    let s' := s.withOccupancy v { s.occupancy v with
      entries := entries.map fun x => if x.number = e.number then { x with link := link } else x }
    match link with
    | some _ => if e.link = none then endCondition (escortLeftKey v e.number) s' else s'
    | none => if e.link.isSome ∨ e.number ∈ fresh then raised (escortLeftKey v e.number) s' else s'

/-- The escort links of a vault settled (R155), with the numbers added since the last settling. -/
def settleLinks (v : Vault) (fresh : List Nat) (s : State) : State :=
  (s.occupancy v).entries.foldl (settleLink v fresh) s

/-- Lone-worker timing applies at a vault (R150). -/
def State.loneApplies (s : State) (v : Vault) : Bool :=
  s.enabled v && decide (s.count v = 1) && (decide (s.mode ≠ .openHours) || (s.group v).allHours)

/-- A full interval of a vault's lone worker (R150). -/
def State.loneTicks (s : State) (v : Vault) : Nat := (s.group v).loneInterval * 6000

/-- Lone-worker timing settled for a vault (R150). -/
def settleLone (v : Vault) (s : State) : State :=
  let o := s.occupancy v
  if s.loneApplies v then
    s.withOccupancy v { o with entries := o.entries.map fun e =>
      if e.checkIn = none then { e with checkIn := some (s.loneTicks v) } else e }
  else
    let s' := o.entries.foldl (fun s e => if e.overdue then endCondition (loneWorkerKey v e.number) s else s) s
    claimChirp v false
      (s'.withOccupancy v { o with entries := o.entries.map fun e => { e with checkIn := none, overdue := false } })

/-- A check-in at a vault (R152); a button press names no number. -/
def checkIn (v : Vault) (number : Option Nat) (s : State) : State :=
  let o := s.occupancy v
  match o.entries.find? fun e => e.checkIn.isSome with
  | none => s
  | some e =>
    if number = none ∨ number = some e.number then
      let s' := if e.overdue then endCondition (loneWorkerKey v e.number) s else s
      claimChirp v false
        (s'.withOccupancy v { o with entries := o.entries.map fun x =>
          if x.number = e.number then { x with checkIn := some (s.loneTicks v), overdue := false } else x })
    else s

/-- The lone worker's interval expires (R151). -/
def loneExpired (v : Vault) (s : State) : State :=
  let o := s.occupancy v
  match o.entries.find? fun e => e.checkIn.isSome with
  | none => s
  | some e =>
    raised (loneWorkerKey v e.number)
      (s.withOccupancy v { o with entries := o.entries.map fun x =>
        if x.number = e.number then { x with checkIn := some (s.loneTicks v), overdue := true } else x })

/-- Every entry of a vault removed with its conditions (R159). -/
def clearOccupants (v : Vault) (s : State) : State :=
  let o := s.occupancy v
  claimChirp v false (o.entries.foldl (fun s e => endOccupant v e s) (s.withOccupancy v { o with entries := [] }))

/-- What the OCCUPANCY cause watches of a vault: numbers and links in order, and the certainty (R148). -/
def VaultOccupancy.watched (o : VaultOccupancy) : List (Nat × Option Nat) × Bool :=
  (o.entries.map fun e => (e.number, e.link), o.certain)

/-- What a report to the SSQ tells of a vault (R148). -/
def VaultOccupancy.state (o : VaultOccupancy) : Nat × Bool := (o.entries.length, o.certain)

end Sys2Proof.Machine
end

