-- ==== Sys2Proof/Machine/Doors.lean ====
section
/-!
DEFINITION. The Door Sequencer (R123 to R138): door states, grants, bolt drives, emergency release, door alarms. What an
opening of the vault door hands to the OCC and reports to the SSQ stands in `Machine/Passage.lean`.
-/

namespace Sys2Proof.Machine

/-! ## The record and its attention cause -/

/-- What the DOORS cause watches: both states, and which grants and release are outstanding (R123). -/
def DoorRecord.watched (d : DoorRecord) : OuterState × VaultState × Bool × Bool × Bool :=
  (d.outer, d.vault, d.outerGrant.isSome, d.vaultGrant.isSome, d.egress.isSome)

/-- A door record replaced: DOORS is set at a change of a state and where a grant or egress release begins or ends
(R123). -/
def putDoor (v : Vault) (d : DoorRecord) (s : State) : State :=
  let s' := s.withDoor v d
  if (s.door v).watched = d.watched then s' else causeDoors s'

/-- A grant or egress release is outstanding at the vault door (R127). -/
def DoorRecord.out (d : DoorRecord) : Bool := d.vaultGrant.isSome || d.egress.isSome

/-! ## Door alarms (R138) -/

/-- The key of a DOOR-FORCED, DOOR-HELD or DOOR-FAULT condition. -/
def doorKey (kind : AlarmKind) (v : Vault) (detail : Detail) : AlarmKey := keyOf kind (some v) (some detail)

/-- The mark of a DOOR-FORCED condition. -/
def DoorRecord.setForced (d : DoorRecord) (which : Door) (b : Bool) : DoorRecord :=
  match which with
  | .outer => { d with outerForcedStands := b }
  | .vault => { d with vaultForcedStands := b }

/-- The mark of a DOOR-HELD condition. -/
def DoorRecord.setHeld (d : DoorRecord) (which : Door) (b : Bool) : DoorRecord :=
  match which with
  | .outer => { d with outerHeldStands := b }
  | .vault => { d with vaultHeldStands := b }

/-- A DOOR-FORCED condition stands. -/
def DoorRecord.forced (d : DoorRecord) : Door → Bool
  | .outer => d.outerForcedStands
  | .vault => d.vaultForcedStands

/-- A DOOR-HELD condition stands. -/
def DoorRecord.held (d : DoorRecord) : Door → Bool
  | .outer => d.outerHeldStands
  | .vault => d.vaultHeldStands

/-- DOOR-FORCED raised: its claim is placed where the ATU answers RAISED. -/
def raiseForced (v : Vault) (which : Door) (s : State) : State :=
  let (s', a) := raise (doorKey .doorForced v (.door which)) (s.withDoor v ((s.door v).setForced which true))
  if a = .stands .raised then claimForced v which true s' else s'

/-- DOOR-HELD raised: its claim is placed where the ATU answers RAISED. -/
def raiseHeld (v : Vault) (which : Door) (s : State) : State :=
  let (s', a) := raise (doorKey .doorHeld v (.door which)) (s.withDoor v ((s.door v).setHeld which true))
  if a = .stands .raised then claimHeld v which true s' else s'

/-- DOOR-FAULT raised for a drive (R130). -/
def raiseFault (v : Vault) (drive : Drive) (s : State) : State :=
  let d := s.door v
  raised (doorKey .doorFault v (.drive drive))
    (s.withDoor v (match drive with
      | .retract => { d with retractFaultStands := true }
      | .extend => { d with extendFaultStands := true }))

/-- A DOOR-FORCED condition ends, with its claim. -/
def endForced (v : Vault) (which : Door) (s : State) : State :=
  if (s.door v).forced which then
    endCondition (doorKey .doorForced v (.door which))
      (claimForced v which false (s.withDoor v ((s.door v).setForced which false)))
  else s

/-- A DOOR-HELD condition ends, with its claim. -/
def endHeld (v : Vault) (which : Door) (s : State) : State :=
  if (s.door v).held which then
    endCondition (doorKey .doorHeld v (.door which))
      (claimHeld v which false (s.withDoor v ((s.door v).setHeld which false)))
  else s

/-- Every DOOR-FAULT condition of the vault ends (R130). -/
def endFaults (v : Vault) (s : State) : State :=
  let s := if (s.door v).retractFaultStands then
      endCondition (doorKey .doorFault v (.drive .retract))
        (s.withDoor v { s.door v with retractFaultStands := false })
    else s
  if (s.door v).extendFaultStands then
    endCondition (doorKey .doorFault v (.drive .extend)) (s.withDoor v { s.door v with extendFaultStands := false })
  else s

/-! ## Changing a state -/

/-- The outer door takes a state: DOOR-FORCED (OUTER) ends at LOCKED (R138). -/
def setOuter (v : Vault) (o : OuterState) (s : State) : State :=
  let s := putDoor v { s.door v with outer := o } s
  if o = .locked then endForced v .outer s else s

/-- An outer-door grant of origin ENTRY or HOST is withdrawn, and the outer door returns from UNLOCKED to LOCKED
(R134, R135, R140). -/
def withdrawOuter (v : Vault) (s : State) : State :=
  match (s.door v).outerGrant with
  | none => s
  | some g =>
    if g.origin = .egress then s
    else
      let s := putDoor v { s.door v with outerGrant := none } s
      if (s.door v).outer = .unlocked then setOuter v .locked s else s

/-- The vault door takes a state: at SECURED the DOOR-FORCED (VAULT) and DOOR-FAULT conditions end, at RELEASED the
DOOR-FAULT conditions, and where it leaves SECURED the interlock withdraws an entry grant (R127, R130, R134). -/
def setVaultState (v : Vault) (st : VaultState) (s : State) : State :=
  let old := (s.door v).vault
  let s := putDoor v { s.door v with vault := st } s
  let s := if st = .secured then endFaults v (endForced v .vault s) else if st = .released then endFaults v s else s
  if old = .secured ∧ st ≠ .secured then withdrawOuter v s else s

/-- The travel timer of a drive that starts (R124). -/
def State.travelTicks (s : State) (v : Vault) : Nat := (s.group v).tBolt * 100

/-- The held timer of a door that opens (R133). -/
def State.heldTicks (s : State) (v : Vault) : Nat := (s.group v).tHeld * 100

/-- The lapse of a vault-door grant or egress release (R126, R129). -/
def State.grantTicks (s : State) (v : Vault) : Nat := (s.group v).tGrant * 100

/-- The lapse of an outer-door grant (R124, R125). -/
def State.outerTicks (s : State) (v : Vault) : Nat := (s.group v).tOuter * 100

/-- Every drive stopped and the relock timer cleared. -/
def DoorRecord.still (d : DoorRecord) : DoorRecord := { d with travel := none, relock := none }

/-- Entry into RETRACTING (R127): the drive stops at once where the bolts already count withdrawn. -/
def startRetract (v : Vault) (s : State) : State :=
  let s := setVaultState v .retracting
    (s.withDoor v { s.door v with travel := some (s.travelTicks v), relock := none })
  if s.countsActive v .boltsWithdrawn then setVaultState v .released (s.withDoor v (s.door v).still) else s

/-- Entry into EXTENDING (R127): the drive stops at once where the bolts already count thrown. -/
def startExtend (v : Vault) (s : State) : State :=
  let s := setVaultState v .extending
    (s.withDoor v { s.door v with travel := some (s.travelTicks v), relock := none })
  if s.countsActive v .boltsThrown then setVaultState v .secured (s.withDoor v (s.door v).still) else s

/-- The retraction drive of EMERGENCY-RELEASED starts (R137): it stops at once where the bolts already count withdrawn. -/
def startEmergencyDrive (v : Vault) (s : State) : State :=
  s.withDoor v { s.door v with
    relock := none
    travel := if s.countsActive v .boltsWithdrawn then none else some (s.travelTicks v) }

/-- A stopped retraction drive of EMERGENCY-RELEASED restarts (R129, R137). -/
def restartEmergencyDrive (v : Vault) (s : State) : State :=
  if (s.door v).travel.isSome then s else startEmergencyDrive v s

/-! ## Grants and lapses -/

/-- The travel of a vault door that a grant or an egress press frees (R126, R129). -/
def freeVaultDoor (v : Vault) (s : State) : State :=
  match (s.door v).vault with
  | .secured | .extending | .jammed => startRetract v s
  | .relockWait => setVaultState v .released (s.withDoor v (s.door v).still)
  | .retracting | .released | .opened | .emergencyReleased => s

/-- A vault-door grant is recorded (R126); a grant handed in OPEN is consumed by `Machine/Passage.lean`. -/
def recordGrant (v : Vault) (g : VaultGrant) (s : State) : State :=
  freeVaultDoor v (putDoor v { s.door v with vaultGrant := some g } s)

/-- An outer-door grant is recorded and the outer door goes to UNLOCKED (R125). -/
def recordOuterGrant (v : Vault) (o : OuterOrigin) (s : State) : State :=
  setOuter v .unlocked (putDoor v { s.door v with outerGrant := some { origin := o, lapse := s.outerTicks v } } s)

/-- A press of OUTER-EGRESS at the DSQ (R125). -/
def outerEgressPress (v : Vault) (s : State) : State :=
  match (s.door v).outer with
  | .locked | .unlocked => recordOuterGrant v .egress s
  | .opened | .emergencyUnlocked => s

/-- A press of VAULT-EGRESS at the DSQ (R129). -/
def vaultEgressPress (v : Vault) (s : State) : State :=
  if (s.door v).vault = .opened then s
  else
    let s := freeVaultDoor v (putDoor v { s.door v with egress := some (s.grantTicks v) } s)
    if (s.door v).vault = .emergencyReleased then restartEmergencyDrive v s else s

/-- After a lapse or a discard a door in RETRACTING or RELEASED with nothing outstanding goes to EXTENDING (R127,
R128). -/
def secureWhereFree (v : Vault) (s : State) : State :=
  let d := s.door v
  if d.out then s
  else
    match d.vault with
    | .retracting | .released => startExtend v s
    | .secured | .opened | .relockWait | .extending | .jammed | .emergencyReleased => s

/-- The vault-door grant lapses or is discarded (R128). -/
def discardGrant (v : Vault) (s : State) : State :=
  secureWhereFree v (putDoor v { s.door v with vaultGrant := none } s)

/-- The vault egress release lapses at the DSQ (R128). -/
def discardEgress (v : Vault) (s : State) : State :=
  secureWhereFree v (putDoor v { s.door v with egress := none } s)

/-- The outer-door grant lapses (R125). -/
def outerLapsed (v : Vault) (s : State) : State :=
  let s := putDoor v { s.door v with outerGrant := none } s
  if (s.door v).outer = .unlocked then setOuter v .locked s else s

/-- A grant has an empty exiting list and no unrecorded exit (R135). -/
def VaultGrant.noExits (g : VaultGrant) : Bool := g.exiting.isEmpty && !g.unrecorded

/-- The vault-door grant with some entering entries removed: an ENTRY grant left with nothing is discarded, as at a
lapse (R99, R135). -/
def trimEntering (v : Vault) (keep : EnteringEntry → Bool) (s : State) : State :=
  match (s.door v).vaultGrant with
  | none => s
  | some g =>
    let g' := { g with entering := g.entering.filter keep }
    if g.origin = .entry ∧ g'.entering = [] ∧ g'.noExits then discardGrant v s
    else s.withDoor v { s.door v with vaultGrant := some g' }

/-- The cancellation that the SSQ causes (R135). -/
def cancelEntry (v : Vault) (s : State) : State := withdrawOuter v (trimEntering v (fun _ => false) s)

/-! ## Contacts, bolts and timers -/

/-- The outer door opens (R125); `first` tells that the contact was UNQUALIFIED before (R143). The change of state comes
before the raise of DOOR-FORCED (notes/assumptions/48.md). -/
def outerOpened (v : Vault) (first : Bool) (s : State) : State :=
  match (s.door v).outer with
  | .locked =>
    let s := setOuter v .opened (s.withDoor v { s.door v with outerHeld := some (s.heldTicks v) })
    if first then s else raiseForced v .outer s
  | .unlocked =>
    setOuter v .opened (putDoor v { s.door v with outerGrant := none, outerHeld := some (s.heldTicks v) } s)
  | .opened | .emergencyUnlocked => s

/-- The outer door closes (R125). -/
def outerClosed (v : Vault) (s : State) : State :=
  match (s.door v).outer with
  | .opened => setOuter v .locked (endHeld v .outer (s.withDoor v { s.door v with outerHeld := none }))
  | .locked | .unlocked | .emergencyUnlocked => s

/-- The vault door closes (R128). -/
def vaultClosed (v : Vault) (s : State) : State :=
  match (s.door v).vault with
  | .opened =>
    let s := endHeld v .vault (s.withDoor v { s.door v with vaultHeld := none })
    if (s.group v).relock = 0 then startExtend v s
    else setVaultState v .relockWait (s.withDoor v { s.door v with relock := some ((s.group v).relock * 100) })
  | .secured | .retracting | .released | .relockWait | .extending | .jammed | .emergencyReleased => s

/-- The vault door goes to OPEN (R131, R132): every drive stops, and the held timer starts. -/
def enterOpen (v : Vault) (s : State) : State :=
  setVaultState v .opened (s.withDoor v { (s.door v).still with vaultHeld := some (s.heldTicks v) })

/-- BOLTS-WITHDRAWN becomes ACTIVE (R127, R130, R137). -/
def boltsWithdrawnActive (v : Vault) (s : State) : State :=
  match (s.door v).vault with
  | .retracting => setVaultState v .released (s.withDoor v (s.door v).still)
  | .jammed => if (s.door v).out then setVaultState v .released s else startExtend v s
  | .emergencyReleased => s.withDoor v { s.door v with travel := none }
  | .secured | .released | .opened | .relockWait | .extending => s

/-- BOLTS-THROWN becomes ACTIVE (R127, R130). -/
def boltsThrownActive (v : Vault) (s : State) : State :=
  match (s.door v).vault with
  | .extending => setVaultState v .secured (s.withDoor v (s.door v).still)
  | .jammed => if (s.door v).out then startRetract v s else setVaultState v .secured s
  | .secured | .retracting | .released | .opened | .relockWait | .emergencyReleased => s

/-- BOLTS-THROWN leaves ACTIVE: in SECURED the bolts are driven home (R127). -/
def boltsThrownLost (v : Vault) (s : State) : State :=
  if (s.door v).vault = .secured then startExtend v s else s

/-- The travel timer reaches 0 (R130, R137). -/
def travelExpired (v : Vault) (s : State) : State :=
  let s := s.withDoor v { s.door v with travel := none }
  match (s.door v).vault with
  | .retracting => raiseFault v .retract (setVaultState v .jammed s)
  | .extending => raiseFault v .extend (setVaultState v .jammed s)
  | .emergencyReleased => raiseFault v .retract s
  | .secured | .released | .opened | .relockWait | .jammed => s

/-- The relock timer reaches 0 (R128). -/
def relockExpired (v : Vault) (s : State) : State :=
  let s := s.withDoor v { s.door v with relock := none }
  if (s.door v).vault = .relockWait then startExtend v s else s

/-- A held timer with its door. -/
def DoorRecord.heldTimer (d : DoorRecord) : Door → Option Nat
  | .outer => d.outerHeld
  | .vault => d.vaultHeld

/-- The held timer of a door set. -/
def DoorRecord.setHeldTimer (d : DoorRecord) (which : Door) (t : Option Nat) : DoorRecord :=
  match which with
  | .outer => { d with outerHeld := t }
  | .vault => { d with vaultHeld := t }

/-- A held timer reaches 0 (R133). -/
def heldExpired (v : Vault) (which : Door) (s : State) : State :=
  raiseHeld v which (s.withDoor v ((s.door v).setHeldTimer which none))

/-! ## Emergency release -/

/-- The grant that stands through an emergency (R136 step 3). -/
def emergencyGrant : Option VaultGrant → VaultGrant
  | none => { origin := .emergency, entering := [], exiting := [], unrecorded := false, lapse := none }
  | some g => { g with origin := .emergency, entering := [], lapse := none }

/-- The emergency condition comes to stand (R136). -/
def emergencyStart (v : Vault) (s : State) : State :=
  let s := setOuter v .emergencyUnlocked (putDoor v { s.door v with outerGrant := none, emergency := true } s)
  let s := startEmergencyDrive v (setVaultState v .emergencyReleased (s.withDoor v (s.door v).still))
  let s := putDoor v { s.door v with vaultGrant := some (emergencyGrant (s.door v).vaultGrant) } s
  endHeld v .vault (endHeld v .outer (s.withDoor v { s.door v with outerHeld := none, vaultHeld := none }))

/-- The emergency condition ceases to stand (R137): the state, and whether an egress release was discarded, which the DSQ
reports to the SSQ as a lapse unopened. -/
def emergencyEnd (v : Vault) (s : State) : State × Bool :=
  let s := putDoor v { (s.door v).still with vaultGrant := none, emergency := false } s
  let s := if s.countsActive v .outerContact then
      setOuter v .opened (s.withDoor v { s.door v with outerHeld := some (s.heldTicks v) })
    else setOuter v .locked s
  if s.countsActive v .vaultContact then
    let s' := enterOpen v s
    (putDoor v { s'.door v with egress := none } s', (s.door v).egress.isSome)
  else if (s.door v).egress.isSome then (setVaultState v .released s, false)
  else (startExtend v s, false)

/-- The vault's emergency condition should stand (R136). -/
def State.emergencyCause (s : State) (v : Vault) : Bool := s.atu.latch || decide ((s.sequencer v).state = .inhibited)

/-- The doors of a vault begin: at the configuration read, and where the vault becomes enabled (R143). -/
def beginDoors (v : Vault) (s : State) : State := if s.emergencyCause v then emergencyStart v s else startExtend v s

/-- The doors of a vault that ceases to be enabled (R143): every door condition that a block reports ends. The condition of
UNBADGED-EGRESS, which ends by CLEAR-ALARM alone (R138, R193), stands (DEDUCED, notes/assumptions/38.md). -/
def disableDoors (v : Vault) (s : State) : State :=
  putDoor v resetDoor
    (endFaults v (endHeld v .vault (endHeld v .outer (endForced v .vault (endForced v .outer s)))))

/-! ## The timers at a tick event -/

/-- A timer one tick later: a timer at its last tick is left to its own event (notes/assumptions/12.md). -/
def countDown (t : Option Nat) : Option Nat := t.map fun n => if n ≤ 1 then n else n - 1

/-- A timer reaches 0 at this tick event. -/
def lastTick (t : Option Nat) : Bool := decide (t = some 1)

/-- The timers of a door record one tick later (R123, R124, R133). -/
def DoorRecord.tick (d : DoorRecord) : DoorRecord :=
  { d with
    outerGrant := d.outerGrant.map fun g => { g with lapse := if g.lapse ≤ 1 then g.lapse else g.lapse - 1 }
    vaultGrant := d.vaultGrant.map fun g => { g with lapse := countDown g.lapse }
    egress := countDown d.egress
    travel := countDown d.travel
    relock := countDown d.relock
    outerHeld := countDown d.outerHeld
    vaultHeld := countDown d.vaultHeld }

/-- The events of a door record that this tick event brings about. -/
def DoorRecord.due (v : Vault) (d : DoorRecord) : List Due :=
  (if lastTick (d.outerGrant.map OuterGrant.lapse) then [.outerGrant v] else [])
  ++ (if lastTick (d.vaultGrant.bind VaultGrant.lapse) then [.vaultGrant v] else [])
  ++ (if lastTick d.egress then [.egressRelease v] else [])
  ++ (if lastTick d.travel then [.travel v] else [])
  ++ (if lastTick d.relock then [.relock v] else [])
  ++ (if lastTick d.outerHeld then [.held v .outer] else [])
  ++ (if lastTick d.vaultHeld then [.held v .vault] else [])

end Sys2Proof.Machine
end

