-- ==== Sys2Proof/Machine/Indications.lean ====
section
/-!
DEFINITION. Reader records (R80): verdicts handed to a reader, misses, good replies and the indication in flight
(R85 to R92).
-/

namespace Sys2Proof.Machine

/-- A verdict handed to a reader (R90): a reader of a vault that is not enabled holds none. -/
def handVerdict (a : ReaderAddress) (verdict : Verdict) (number : Option Nat) (s : State) : State :=
  if s.enabled a.vault then
    let r := s.reader a
    causeVerdict (s.withReader a { r with
      lastVerdict := some { verdict := verdict, number := number, time := s.stamp }
      waiting := if r.status = .silent then r.waiting else some { verdict := verdict, number := number } })
  else s

/-- The key of a READER-FAULT (R85, R86). -/
def readerFaultKey (a : ReaderAddress) (f : ReaderFault) : AlarmKey :=
  keyOf .readerFault (some a.vault) (some (.reader a f))

/-- A miss at the addressed reader (R85, R86, R92). The third one raises SILENT, and then ends the TAMPER condition of a
TAMPERED reader, in the order in which the table of R86 lists them (DEDUCED, notes/assumptions/48.md). -/
def readerMiss (a : ReaderAddress) (s : State) : State :=
  let r := s.reader a
  if r.status = .silent then s.withReader a { r with waiting := none, inFlight := none }
  else if 3 ≤ r.misses + 1 then
    let s := raised (readerFaultKey a .silent)
      (s.withReader a { r with status := .silent, misses := 3, waiting := none, inFlight := none })
    if r.status = .tampered then endCondition (readerFaultKey a .tamper) s else s
  else
    s.withReader a { r with
      misses := r.misses + 1
      waiting := match r.waiting with
        | some w => some w
        | none => r.inFlight
      inFlight := none }

/-- What a good reply does to the record before any presentation is taken (R85, R86, R92): the indication in flight is
delivered, the misses become 0 and the status follows the reply. SILENT ends before TAMPER is raised, as the table of R86
lists them, and both before a presentation is decided (DEDUCED, notes/assumptions/48.md). -/
def goodReply (a : ReaderAddress) (tamper : Bool) (s : State) : State :=
  let r := s.reader a
  let r' := { r with misses := 0, inFlight := none, status := if tamper then .tampered else .online }
  let s' := s.withReader a r'
  match r.status with
  | .online => if tamper then raised (readerFaultKey a .tamper) s' else s'
  | .tampered => if tamper then s' else endCondition (readerFaultKey a .tamper) s'
  | .silent =>
    let s'' := endCondition (readerFaultKey a .silent) s'
    if tamper then raised (readerFaultKey a .tamper) s'' else s''

/-- A PRESENT of a number is a repeat (R88). -/
def ReaderRecord.repeats (r : ReaderRecord) (number : Nat) : Bool :=
  match r.presentation with
  | none => false
  | some p => decide (p.number = number) && decide (p.age < 200)

/-- A PRESENT of a number stored as the reader's last presentation with age 0 (R88). -/
def ReaderRecord.presented (r : ReaderRecord) (number : Nat) : ReaderRecord :=
  { r with presentation := some { number := number, age := 0 } }

/-- A presentation one tick older (R87). -/
def ReaderRecord.older (r : ReaderRecord) : ReaderRecord :=
  { r with presentation := r.presentation.map fun p => { p with age := min 200 (p.age + 1) } }

/-- A reader record where its vault ceases to be enabled (R93): the last verdict is kept. -/
def ReaderRecord.disabled (r : ReaderRecord) : ReaderRecord := { resetReader with lastVerdict := r.lastVerdict }

/-- The readers of a vault that ceases to be enabled (R93). -/
def disableReaders (v : Vault) (s : State) : State :=
  let one (p : Position) (s : State) : State :=
    let a : ReaderAddress := ⟨v, p⟩
    endCondition (readerFaultKey a .tamper)
      (endCondition (readerFaultKey a .silent) (s.withReader a (s.reader a).disabled))
  one .exit (one .inner (one .outer s))

end Sys2Proof.Machine
end

