-- ==== Sys2Proof/Machine/Suppression.lean ====
section
/-!
DEFINITION. The Suppression Sequencer (R161 to R187): states, holds, countdown, release, discharge and isolation, with
what each change of state does at the OAR, the ADU, the DSQ and the ATU.
-/

namespace Sys2Proof.Machine

/-! ## A change of state -/

/-- The claim of a state (R162). -/
def stateClaim : SsqState → Option ClaimKind
  | .quiet | .isolated => none
  | .alert => some .alert
  | .inhibited => some .evacuate
  | .countdown | .held | .awaitClosure => some .preDischarge
  | .releasing | .verifying | .discharged => some .discharge

/-- ZONE-LAMP is lit in a state (R162). -/
def stateLamp : SsqState → Bool
  | .quiet | .alert | .inhibited | .isolated => false
  | .countdown | .held | .awaitClosure | .releasing | .verifying | .discharged => true

/-- A state in which R is present (R161). -/
def countingState : SsqState → Bool
  | .countdown | .held | .awaitClosure => true
  | .quiet | .alert | .inhibited | .releasing | .verifying | .discharged | .isolated => false

/-- The record with every field absent that its state does not hold (R161). -/
def SsqRecord.settled (q : SsqRecord) : SsqRecord :=
  { q with
    path := if q.state = .quiet ∨ q.state = .isolated then none else q.path
    remaining := if countingState q.state then q.remaining else none
    holdEgress := decide (q.state = .held) && q.holdEgress
    holdHoldAll := decide (q.state = .held) && q.holdHoldAll
    abortElapsed := if countingState q.state then q.abortElapsed else none
    pulse := if q.state = .releasing then q.pulse else none
    dischargeSeen := if q.state = .releasing then q.dischargeSeen else none
    confirmWait := if q.state = .verifying then q.confirmWait else none
    detail := if q.state = .discharged then q.detail else none
    soak := if q.state = .discharged then q.soak else none }

/-- The key of SUPPRESSION-ALERT with a detail (R163, R174, R179). -/
def alertKey (v : Vault) (c : SubCode) : AlarmKey := keyOf .suppressionAlert (some v) (some (.sub c))

/-- The key of EVACUATION with a vault (R165). -/
def vaultEvacuationKey (v : Vault) : AlarmKey := keyOf .evacuation (some v) none

/-- The sub-code of a discharge detail (R178). -/
def detailCode : DischargeDetail → SubCode
  | .confirmed => .confirmed
  | .unconfirmed => .unconfirmed
  | .uncommanded => .uncommanded

/-- The key of DISCHARGE with its detail (R178). -/
def dischargeKey (v : Vault) (d : DischargeDetail) : AlarmKey := keyOf .discharge (some v) (some (.sub (detailCode d)))

/-- A vault's pending pair is dropped and PAIR-LAPSED handed to its inner reader (R99, R100, R110, R121). -/
def lapsePair (v : Vault) (s : State) : State :=
  match s.pair v with
  | none => s
  | some p => handVerdict ⟨v, .inner⟩ .pairLapsed (some p.first) (s.withPair v none)

/-- Some detector of the vault counts ACTIVE. -/
def State.detecting (s : State) (v : Vault) : Bool := s.countsActive v .detectorA || s.countsActive v .detectorB

/-- Both detectors of the vault count ACTIVE (R164). -/
def State.confirmedFire (s : State) (v : Vault) : Bool := s.countsActive v .detectorA && s.countsActive v .detectorB

/-- The conditions that end and arise at a change of state (R163, R174, R179). DETECTION and MANUAL end before ISOLATED is
raised, an order the rules do not give (DESIGN CHOICE, unsafe; notes/assumptions/46.md). -/
def alertsAtChange (v : Vault) (old new : SsqState) (s : State) : State :=
  let s := if new = .quiet ∨ new = .isolated then
      endCondition (alertKey v .manual) (endCondition (alertKey v .detection) s)
    else s
  if old = .isolated then endCondition (alertKey v .isolated) s
  else if new = .isolated ∧ s.detecting v then raised (alertKey v .isolated) s
  else s

/-- The ADU and the DSQ at a change of state: where QUIET is left, or ISOLATED for another state than QUIET, the pair is
dropped and the entry grants are cancelled (R121, R135). -/
def neighboursAtChange (v : Vault) (old new : SsqState) (s : State) : State :=
  if old = .quiet ∨ (old = .isolated ∧ new ≠ .quiet) then cancelEntry v (lapsePair v s) else s

/-- INHIBITED entered or left: the EVACUATION condition and the emergency condition of the doors (R136, R165). The Bool
tells that the DSQ discarded an egress release, which it reports as a lapse unopened (R137). EVACUATION is raised or ended
before the DSQ acts (DESIGN CHOICE, notes/assumptions/46.md). -/
def inhibitedAtChange (v : Vault) (old new : SsqState) (s : State) : State × Bool :=
  if new = .inhibited then
    let s := raised (vaultEvacuationKey v) s
    (if (s.door v).emergency then s else emergencyStart v s, false)
  else if old = .inhibited then
    let s := endCondition (vaultEvacuationKey v) s
    if s.atu.latch then (s, false) else emergencyEnd v s
  else (s, false)

/-- A change of state with everything R162 asks of it: the record given carries the new state and its fields. R162 gives no
order among these effects at one event. The model takes the ADU and the DSQ's cancellation, then the ends of DETECTION and
MANUAL and the end or the raise of ISOLATED, then EVACUATION and the DSQ's emergency condition, which decides what a full alarm
table keeps (R192). DESIGN CHOICE, unsafe (notes/assumptions/46.md). -/
def changeState (v : Vault) (q : SsqRecord) (s : State) : State × Bool :=
  let old := (s.sequencer v).state
  let s := causeSuppression (claimSsq v (stateClaim q.state) (s.withSequencer v q.settled))
  inhibitedAtChange v old q.state (alertsAtChange v old q.state (neighboursAtChange v old q.state s))

/-- A change of state that does not leave INHIBITED. -/
def enter (v : Vault) (q : SsqRecord) (s : State) : State := (changeState v q s).1

/-! ## Holds -/

/-- The EGRESS source stands (R169). -/
def SsqRecord.egressStands (q : SsqRecord) : Bool := decide (q.egress ≠ .none)

/-- The HOLD-ALL source stands (R170). -/
def State.holdAllStands (s : State) : Bool := s.globalHold || s.lqu.holdAll

/-- The ABORT source may begin to stand on the automatic path (R168): the switch counts ACTIVE and is neither spent nor
cut since it last held (DEDUCED, notes/assumptions/13.md). -/
def State.abortReady (s : State) (v : Vault) : Bool :=
  s.countsActive v .abort && !(s.sequencer v).abortSpent && !(s.sequencer v).abortCut

/-- A hold source stands (R167). -/
def SsqRecord.holding (q : SsqRecord) (holdAll : Bool) : Bool :=
  q.egressStands || holdAll || q.abortElapsed.isSome

/-- The record in HELD with the sources that stand in its hold set. -/
def SsqRecord.hold (q : SsqRecord) (holdAll : Bool) : SsqRecord :=
  { q with state := .held, holdEgress := q.egressStands, holdHoldAll := holdAll }

/-- Entry into RELEASING (R175). -/
def enterReleasing (v : Vault) (s : State) : State :=
  let q := s.sequencer v
  enter v { q with state := .releasing, pulse := some (q.committed.pulse * 10), dischargeSeen := some false } s

/-- A countdown expires (R172). -/
def expireCountdown (v : Vault) (s : State) : State :=
  if s.countsNormal v .vaultContact then enterReleasing v s
  else enter v { s.sequencer v with state := .awaitClosure, remaining := some 0 } s

/-- R where a countdown resumes (R171). -/
def SsqRecord.resumeTicks (q : SsqRecord) : Nat :=
  let r := q.remaining.getD 0
  if q.path = some .automatic ∧ q.committed.resume = .restartFloor then max r (q.committed.floor * 10) else r

/-- The hold set becomes empty and the countdown resumes (R171). -/
def resumeCountdown (v : Vault) (s : State) : State :=
  let q := s.sequencer v
  if 0 < q.resumeTicks then enter v { q with state := .countdown, remaining := some q.resumeTicks } s
  else expireCountdown v s

/-- The hold sources judged again after one began or ended (R167). -/
def recheckHolds (v : Vault) (s : State) : State :=
  let q := s.sequencer v
  let holdAll := s.holdAllStands
  match q.state with
  | .countdown | .awaitClosure => if q.holding holdAll then enter v (q.hold holdAll) s else s
  | .held => if q.holding holdAll then s.withSequencer v (q.hold holdAll) else resumeCountdown v s
  | .quiet | .alert | .inhibited | .releasing | .verifying | .discharged | .isolated => s

/-- The egress condition changed, with what that does to a countdown (R167, R169). -/
def setEgress (v : Vault) (e : EgressCondition) (s : State) : State :=
  recheckHolds v (s.withSequencer v { s.sequencer v with egress := e })

/-- A press of VAULT-EGRESS at the SSQ (R169). -/
def egressPressed (v : Vault) (s : State) : State :=
  if (s.sequencer v).egress = .opened ∨ s.countsActive v .vaultContact then setEgress v .opened s
  else setEgress v .pressed s

/-- The DSQ reports an egress release consumed (R169). -/
def egressConsumed (v : Vault) (s : State) : State :=
  if (s.sequencer v).egress = .pressed then setEgress v .opened s else s

/-- The DSQ reports an egress release lapsed unopened (R169). -/
def egressUnopened (v : Vault) (s : State) : State :=
  if (s.sequencer v).egress = .pressed then setEgress v .none s else s

/-- VAULT-CONTACT leaves ACTIVE at the SSQ (R169, R172). -/
def contactLeft (v : Vault) (s : State) : State :=
  let s := if (s.sequencer v).egress = .opened then setEgress v .none s else s
  if (s.sequencer v).state = .awaitClosure then enterReleasing v s else s

/-- A change of state that may leave INHIBITED: an egress release that the doors discard is reported at once (R137). -/
def moveTo (v : Vault) (q : SsqRecord) (s : State) : State :=
  let (s', discarded) := changeState v q s
  if discarded then egressUnopened v s' else s'

/-! ## Detection and countdown -/

/-- The staged set is committed (R181). -/
def commit (v : Vault) (s : State) : State :=
  s.withSequencer v { s.sequencer v with committed := s.stagedSet v }

/-- A countdown begins on a path (R166): HELD where a source stands for the path. -/
def beginCountdown (v : Vault) (path : Path) (s : State) : State :=
  let q := s.sequencer v
  let ticks := match path with
    | .automatic => q.committed.dAuto * 10
    | .manual => q.committed.dMan * 10
  let q := { q with
    state := .countdown, path := some path, remaining := some ticks
    abortElapsed := if path = Path.automatic ∧ s.abortReady v then some 0 else none }
  moveTo v (if q.holding s.holdAllStands then q.hold s.holdAllStands else q) s

/-- The SSQ enters INHIBITED (R165). -/
def inhibit (v : Vault) (s : State) : State := enter v { s.sequencer v with state := .inhibited } s

/-- Confirmation (R164). -/
def confirmFire (v : Vault) (s : State) : State :=
  let quiet := decide ((s.sequencer v).state = .quiet)
  let s := commit v s
  let s := if quiet then raised (alertKey v .detection) s else s
  if (s.sequencer v).clear then beginCountdown v .automatic s else inhibit v s

/-- The SSQ enters ALERT and raises its alarm (R163), in this order (DESIGN CHOICE, notes/assumptions/46.md). -/
def enterAlert (v : Vault) (s : State) : State :=
  raised (alertKey v .detection) (enter v { s.sequencer v with state := .alert } s)

/-- The detectors judged in QUIET, as after an isolation (R180). -/
def judgeDetectors (v : Vault) (s : State) : State :=
  if s.confirmedFire v then confirmFire v s
  else if s.detecting v then enterAlert v s
  else s

/-- A qualified change of a detector (R163, R164, R179); `active` tells that it came to count ACTIVE. -/
def detectorTaken (v : Vault) (active : Bool) (s : State) : State :=
  match (s.sequencer v).state with
  | .quiet => if active then judgeDetectors v s else s
  | .alert =>
    if s.confirmedFire v then confirmFire v s
    else if s.countsNormal v .detectorA && s.countsNormal v .detectorB then
      enter v { s.sequencer v with state := .quiet } s
    else s
  | .isolated =>
    if active then raised (alertKey v .isolated) s
    else if s.detecting v then s
    else endCondition (alertKey v .isolated) s
  | .inhibited | .countdown | .held | .awaitClosure | .releasing | .verifying | .discharged => s

/-- The OCC's report of a vault's occupancy state (R148, R161, R165, R173). -/
def occupancyReported (v : Vault) (s : State) : State :=
  let clear := s.clearVault v
  let s := s.withSequencer v { s.sequencer v with clear := clear }
  match (s.sequencer v).state with
  | .inhibited => if clear then beginCountdown v .automatic (commit v s) else s
  | .countdown | .held | .awaitClosure =>
    if clear = false ∧ (s.sequencer v).path = some .automatic then inhibit v s else s
  | .quiet | .alert | .releasing | .verifying | .discharged | .isolated => s

/-- A manual release (R174). The rule gives no order between the MANUAL raise and what the change of state ends, EVACUATION
at a release from INHIBITED among it; the model raises MANUAL first, which decides what a full alarm table keeps (R192).
DESIGN CHOICE, unsafe (notes/assumptions/46.md). -/
def manualRelease (v : Vault) (s : State) : State :=
  match (s.sequencer v).state with
  | .quiet | .alert | .inhibited => beginCountdown v .manual (commit v (raised (alertKey v .manual) s))
  | .countdown | .held =>
    let s := raised (alertKey v .manual) s
    let q := s.sequencer v
    if q.path = some .automatic then
      recheckHolds v (s.withSequencer v { q with
        path := some .manual
        remaining := q.remaining.map fun r => min r (q.committed.dMan * 10)
        abortElapsed := none })
    else s
  | .awaitClosure =>
    let s := raised (alertKey v .manual) s
    s.withSequencer v { s.sequencer v with path := some .manual, abortElapsed := none }
  | .isolated => raised (alertKey v .manualInIsolation) s
  | .releasing | .verifying | .discharged => s

/-- A qualified change of ABORT (R168): `state` is the state taken. -/
def abortTaken (v : Vault) (state : Reading) (s : State) : State :=
  let q := s.sequencer v
  match state with
  | .active =>
    if countingState q.state ∧ q.path = some .automatic ∧ s.abortReady v ∧ q.abortElapsed = none then
      recheckHolds v (s.withSequencer v { q with abortElapsed := some 0 })
    else s
  | .normal => recheckHolds v (s.withSequencer v { q with abortElapsed := none, abortSpent := false, abortCut := false })
  | .opened | .shorted =>
    recheckHolds v (s.withSequencer v { q with
      abortElapsed := none, abortCut := q.abortCut || q.abortElapsed.isSome })

/-- The ABORT hold lapses (R168). -/
def abortLapsed (v : Vault) (s : State) : State :=
  recheckHolds v (s.withSequencer v { s.sequencer v with abortElapsed := none, abortSpent := true })

/-! ## Release, discharge and isolation -/

/-- Entry into DISCHARGED (R178). No rule orders the DISCHARGE raise against the conditions that end with the state left,
EVACUATION or the ISOLATED alert (R177); the model ends them first, which decides what a full alarm table keeps (R192). DESIGN
CHOICE, unsafe (notes/assumptions/46.md). -/
def enterDischarged (v : Vault) (d : DischargeDetail) (s : State) : State :=
  let q := s.sequencer v
  raised (dischargeKey v d)
    (moveTo v { q with state := .discharged, detail := some d, soak := some (q.committed.soak * 6000) } s)

/-- The release pulse ends (R175, R176). -/
def pulseEnded (v : Vault) (s : State) : State :=
  let q := s.sequencer v
  if q.dischargeSeen = some true then enterDischarged v .confirmed s
  else enter v { q with state := .verifying, confirmWait := some Config.confirmWait } s

/-- DISCHARGE becomes ACTIVE (R175 to R178). -/
def dischargeActive (v : Vault) (s : State) : State :=
  match (s.sequencer v).state with
  | .quiet | .alert | .inhibited | .countdown | .held | .awaitClosure | .isolated => enterDischarged v .uncommanded s
  | .releasing => s.withSequencer v { s.sequencer v with dischargeSeen := some true }
  | .verifying => enterDischarged v .confirmed s
  | .discharged => s

/-- ISOLATE becomes ACTIVE (R179). The order of the alarms at the entry is that of `changeState` (notes/assumptions/46.md). -/
def isolate (v : Vault) (s : State) : State :=
  match (s.sequencer v).state with
  | .quiet | .alert | .inhibited | .countdown | .held | .awaitClosure =>
    moveTo v { s.sequencer v with state := .isolated } s
  | .releasing | .verifying | .discharged | .isolated => s

/-- The SSQ enters QUIET and judges its detectors again (R180, R184). -/
def returnToQuiet (v : Vault) (s : State) : State :=
  judgeDetectors v (moveTo v { s.sequencer v with state := .quiet } s)

/-- ISOLATE leaves ACTIVE (R180). -/
def deisolate (v : Vault) (s : State) : State :=
  if (s.sequencer v).state = .isolated then returnToQuiet v s else s

/-- RESET-SUPPRESSION accepted from DISCHARGED (R184). -/
def resetDischarged (v : Vault) (s : State) : State :=
  let s := match (s.sequencer v).detail with
    | none => s
    | some d => endCondition (dischargeKey v d) s
  let s := commit v s
  let s := moveTo v { s.sequencer v with state := .quiet } s
  if s.countsActive v .isolate then isolate v s else judgeDetectors v s

/-- The sequencer of a vault that ceases to be enabled (R187): its alarms' conditions end. -/
def disableSequencer (v : Vault) (s : State) : State :=
  let q := s.sequencer v
  let s := s.withSequencer v (resetSsq q.committed)
  let s := [alertKey v .detection, alertKey v .manual, alertKey v .isolated, alertKey v .manualInIsolation,
    vaultEvacuationKey v].foldl (fun s k => endCondition k s) s
  let s := match q.detail with
    | none => s
    | some d => endCondition (dischargeKey v d) s
  if q.state = .quiet then s else causeSuppression s

/-- The sequencer of a vault that becomes enabled (R187): the committed set is taken from the staged set. -/
def enableSequencer (v : Vault) (s : State) : State := s.withSequencer v (resetSsq (s.stagedSet v))

/-- The FIRE output (R162). -/
def State.fire (s : State) : Bool :=
  Vault.all.any fun v =>
    s.enabled v && decide ((s.sequencer v).state ≠ .quiet) && decide ((s.sequencer v).state ≠ .isolated)

/-! ## The timers at a tick event -/

/-- The hold limit of an abort hold is reached at this tick event (R168). -/
def SsqRecord.abortDue (q : SsqRecord) : Bool :=
  match q.abortElapsed with
  | none => false
  | some e => decide (0 < q.committed.hMax) && decide (q.committed.hMax * 10 ≤ e + 1)

/-- The timers of a sequencer record one tick later (R166, R168, R175, R176, R178). The elapsed time saturates at
30,000, the end of its range (notes/assumptions/26.md). -/
def SsqRecord.tick (q : SsqRecord) : SsqRecord :=
  { q with
    remaining := if q.state = .countdown then countDown q.remaining else q.remaining
    abortElapsed := if q.abortDue then q.abortElapsed else q.abortElapsed.map fun e => min 30000 (e + 1)
    pulse := countDown q.pulse
    confirmWait := countDown q.confirmWait
    soak := countDown q.soak }

/-- The events of a sequencer record that this tick event brings about. -/
def SsqRecord.due (v : Vault) (q : SsqRecord) : List Due :=
  (if q.state = .countdown ∧ lastTick q.remaining then [.countdown v] else [])
  ++ (if q.abortDue then [.abortHold v] else [])
  ++ (if lastTick q.pulse then [.pulse v] else [])
  ++ (if lastTick q.confirmWait then [.confirmWait v] else [])
  ++ (if lastTick q.soak then [.soak v] else [])

end Sys2Proof.Machine
end

