-- ==== Sys2Proof/Machine/Passage.lean ====
section
/-!
DEFINITION. What passes between the DSQ, the OCC and the SSQ of a vault: openings of the vault door, the occupancy report,
egress releases and emergency release (R131, R132, R137, R147, R148), and the site evacuation latch (R199).
-/

namespace Sys2Proof.Machine

/-! ## The occupancy report -/

/-- A change of a vault's register as one event (R148): OCCUPANCY is set where the numbers, a link or the certainty
changed, and the SSQ is told once where the count or the certainty changed. It is told after every effect of the event at the
DSQ and the OCC, so that a DOOR-FORCED, UNBADGED-EGRESS or ESCORT-LEFT of the event is raised before EVACUATION (DESIGN CHOICE,
unsafe; notes/assumptions/48.md). -/
def reporting (v : Vault) (f : State → State) (s : State) : State :=
  let before := s.occupancy v
  let s := f s
  let s := if before.watched = (s.occupancy v).watched then s else causeOccupancy s
  if before.state = (s.occupancy v).state then s else occupancyReported v s

/-- The links and the lone-worker timing of a vault settled (R147 steps 4 and 5). -/
def settleRegister (v : Vault) (fresh : List Nat) (s : State) : State := settleLone v (settleLinks v fresh s)

/-! ## Openings of the vault door -/

/-- The key of UNBADGED-EGRESS (R131, R138). -/
def unbadgedKey (v : Vault) : AlarmKey := keyOf .unbadgedEgress (some v) none

/-- Step 1 of R131 at the register: the entering entries are added and the exiting numbers removed. -/
def applyGrant (v : Vault) (g : VaultGrant) (time : Instant) (s : State) : State :=
  g.exiting.foldl (removeOccupant v) (addOccupants v g.entering time s)

/-- A grant makes the vault UNCERTAIN at its opening (R131 step 1). -/
def VaultGrant.uncertain (g : VaultGrant) : Bool :=
  g.unrecorded || (decide (g.origin = .host) && g.entering.isEmpty)

/-- Some number of a grant's exiting list stands in the list it is taken from (R131 step 2). -/
def VaultGrant.removes (g : VaultGrant) (o : VaultOccupancy) : Bool :=
  g.exiting.any fun k => (o.entries.any fun e => e.number = k) || g.entering.any fun e => e.number = k

/-- A vault-door grant consumed (R131 step 1) with an egress release or without one (step 2), at the register and the
SSQ. -/
def consumeGrant (v : Vault) (g : VaultGrant) (egress : Bool) (time : Instant) (s : State) : State :=
  let removed := g.removes (s.occupancy v)
  let s := applyGrant v g time s
  let occupied := decide (s.count v ≠ 0)
  let s := if g.uncertain ∨ (egress ∧ occupied) then setCertain v false s else s
  let s := if egress ∧ ¬ occupied ∧ ¬ (removed ∨ g.origin = .exit) then raised (unbadgedKey v) s else s
  let s := if egress then egressConsumed v s else s
  settleRegister v (g.entering.map EnteringEntry.number) s

/-- An egress release consumed alone (R131 step 2). -/
def consumeEgress (v : Vault) (s : State) : State :=
  let s := if s.count v ≠ 0 then setCertain v false s else raised (unbadgedKey v) s
  egressConsumed v s

/-- The vault door opens and consumes what is outstanding (R131). -/
def openConsuming (v : Vault) (time : Instant) (s : State) : State :=
  let d := s.door v
  reporting v (fun s =>
    let s := enterOpen v (putDoor v { d with vaultGrant := none, egress := none } s)
    match d.vaultGrant with
    | some g => consumeGrant v g d.egress.isSome time s
    | none => if d.egress.isSome then consumeEgress v s else s) s

/-- The vault door is forced (R132): the change of state comes before the raise of DOOR-FORCED (notes/assumptions/48.md). A
first qualified state of ACTIVE raises no DOOR-FORCED (R143). It leaves the certainty as it stands: R143 says only that the
vault is already UNCERTAIN from the reset, and nothing of a vault that CONFIRM-OCCUPANCY has made CERTAIN while the contact
was UNQUALIFIED (R153), which stays CERTAIN here. DESIGN CHOICE, unsafe (notes/assumptions/44.md). -/
def openForced (v : Vault) (first : Bool) (s : State) : State :=
  reporting v (fun s =>
    let s := enterOpen v s
    if first then s else setCertain v false (raiseForced v .vault s)) s

/-- The vault door opens under emergency release (R137). -/
def openEmergency (v : Vault) (time : Instant) (s : State) : State :=
  let d := s.door v
  let g := emergencyGrant d.vaultGrant
  reporting v (fun s =>
    let s := putDoor v { d with vaultGrant := some { g with exiting := [], unrecorded := false }, egress := none } s
    let s := setCertain v false (applyGrant v g time s)
    let s := if d.egress.isSome then egressConsumed v s else s
    settleRegister v [] s) s

/-- VAULT-CONTACT becomes ACTIVE at the DSQ (R131, R132, R137, R143). -/
def vaultOpened (v : Vault) (first : Bool) (time : Instant) (s : State) : State :=
  match (s.door v).vault with
  | .retracting | .released => openConsuming v time s
  | .jammed => if (s.door v).out then openConsuming v time s else openForced v first s
  | .secured | .extending | .relockWait => openForced v first s
  | .emergencyReleased => openEmergency v time s
  | .opened => s

/-- An EXIT grant handed to the DSQ (R119, R126): in OPEN it is consumed at once with the instant of this event, and the
held timer runs on (DESIGN CHOICE, notes/assumptions/16.md). -/
def handExitGrant (v : Vault) (exiting : List Nat) (s : State) : State :=
  let g : VaultGrant :=
    { origin := .exit, entering := [], exiting := exiting, unrecorded := false, lapse := some (s.grantTicks v) }
  if (s.door v).vault = .opened then
    causeDoors (reporting v (consumeGrant v g false s.cal.instant) s)
  else recordGrant v g s

/-! ## Egress releases and emergencies -/

/-- The vault egress release lapses unopened (R128, R169). -/
def egressLapsed (v : Vault) (s : State) : State := egressUnopened v (discardEgress v s)

/-- The emergency condition of a vault ends with the latch, where its SSQ is not INHIBITED (R137, R199). -/
def releaseEnds (v : Vault) (s : State) : State :=
  if s.enabled v ∧ (s.door v).emergency ∧ (s.sequencer v).state ≠ .inhibited then
    let (s', discarded) := emergencyEnd v s
    if discarded then egressUnopened v s' else s'
  else s

/-- The site evacuation latch at a vault (R199): the claim is placed and the emergency condition comes to stand. -/
def latchVault (v : Vault) (s : State) : State :=
  if s.enabled v then
    let s := claimSiteEvacuate v true s
    if (s.door v).emergency then s else emergencyStart v s
  else s

/-- The evacuation combination completes at the ATU (R73, R199). No rule orders the raise of the site EVACUATION record against
what the DSQs do at the latch, where the end of DOOR-HELD (R136) can retire a record; the model raises first, and then takes
the vaults from 0 to 7, which decides what a full alarm table keeps and whether the record is owed. DESIGN CHOICE, unsafe
(notes/assumptions/47.md). -/
def evacuationCompleted (s : State) : State :=
  if s.atu.latch then raised siteEvacuationKey s
  else
    let (s, a) := raise siteEvacuationKey (s.withAtu { s.atu with latch := true })
    let s := if a = .notStored then s.withAtu { s.atu with owed := true } else s
    eachVault latchVault s

/-- The latch ends at an accepted CLEAR-ALARM of the site EVACUATION record (R199). -/
def latchEnds (s : State) : State :=
  eachVault (fun v s => releaseEnds v (claimSiteEvacuate v false s))
    (s.withAtu { s.atu with latch := false, owed := false })

end Sys2Proof.Machine
end

