-- ==== Sys2Proof/Machine/Modes.lean ====
section
/-!
DEFINITION. The site mode record (R96 to R101) and the minute event (R10, R48, R59, R117).
-/

namespace Sys2Proof.Machine

/-- The index places a number in a band slot: a band credential (R7). -/
def State.bandCredential (s : State) (number : Nat) : Bool :=
  match s.slotOf number with
  | none => false
  | some n => s.inBand n

/-- LOCKDOWN entered at a vault (R99): numbers outside the band leave the entering list, an ENTRY grant left empty is
discarded, and the pending pair is dropped. -/
def lockdownVault (v : Vault) (s : State) : State :=
  lapsePair v (trimEntering v (fun e => s.bandCredential e.number) s)

/-- The site mode record set (R98): MODE at a change of the mode or the auto flag; at a change of the mode the effects of
R99 and R100, and the OCC of every vault settles lone-worker timing (R150). -/
def setMode (mode : Mode) (auto : Bool) (s : State) : State :=
  if s.mode = mode ∧ s.auto = auto then s
  else
    let old := s.mode
    let s := causeMode { s with mode := mode, auto := auto }
    if old = mode then s
    else
      let s := if mode = .lockdown then eachVault lockdownVault s
        else if mode = .openHours then eachVault lapsePair s
        else s
      eachVault settleLone s

/-- The evaluation of an automatic site mode (R59). -/
def evaluateMode (s : State) : State := if s.auto then setMode s.scheduledMode true s else s

/-- The lockout suspension requested for every failure entry at the limit, in the table's order (R117). -/
def repeatLockouts (s : State) : State :=
  ((s.failures.filter fun e => decide (s.cfg.site.failureLimit ≤ e.failures)).map FailureEntry.number).foldl
    (fun s k => suspendLockedOut k s) s

/-- The minute event (R48): it ages the failure table, and after the scan end it evaluates an automatic mode and repeats
the owed lockouts. -/
def minuteEvent (s : State) : State :=
  let s := ageFailures s
  if s.phase = .running then repeatLockouts (evaluateMode s) else s

/-- The stored record a mode request gives (R97). -/
def storedMode : ModeValue → StoredMode
  | .openHours => { mode := .openHours, auto := false }
  | .afterHours => { mode := .afterHours, auto := false }
  | .auto => { mode := .afterHours, auto := true }
  | .lockdown => { mode := .lockdown, auto := false }
  | .maintenance => { mode := .maintenance, auto := false }

/-- The site mode that a requested value gives (R97). -/
def State.modeOf (s : State) : ModeValue → Mode
  | .openHours => .openHours
  | .afterHours => .afterHours
  | .auto => s.scheduledMode
  | .lockdown => .lockdown
  | .maintenance => .maintenance

/-- The site mode record that the configuration read resumes from the stored one (R101): LOCKDOWN or MAINTENANCE with auto
no, and AFTER-HOURS with auto yes for any other. -/
def resumedMode (m : StoredMode) : StoredMode :=
  if m.auto = false ∧ (m.mode = .lockdown ∨ m.mode = .maintenance) then { mode := m.mode, auto := false }
  else { mode := .afterHours, auto := true }

end Sys2Proof.Machine
end

