-- ==== Sys2Proof/Machine/Access.lean ====
section
/-!
DEFINITION. The Access Decision Unit (R102 to R119): the checks at each reader, the pending pair, admission, exit and
check-in.
-/

namespace Sys2Proof.Machine

/-! ## The checks -/

/-- The SSQ of a vault lets entry be granted (R103 check 2, R121). -/
def State.entryState (s : State) (v : Vault) : Bool :=
  decide ((s.sequencer v).state = .quiet) || decide ((s.sequencer v).state = .isolated)

/-- Checks 2 to 9 of R103 for a number: the verdict of the first that fails, or the credential. -/
def gate (s : State) (v : Vault) (number : Nat) : Except Verdict (Nat × CredRecord) :=
  if !s.entryState v then .error .suppression
  else
    match s.credential number with
    | none => .error .unknown
    | some (slot, r) =>
      if r.state = .retired then .error .retired
      else if r.state = .suspended then .error .suspended
      else if s.atLimit number then .error .lockedOut
      else if s.mode = .lockdown && !s.inBand slot then .error .lockdown
      else if (match r.expiry with
        | none => false
        | some d => decide (d < s.cal.instant.day)) then .error .expired
      else if !r.vaults.getLsbD v.num then .error .notPermitted
      else if s.mode = .openHours || s.inBand slot then .ok (slot, r)
      else
        match r.schedule with
        | none => .error .outOfHours
        | some n =>
          match s.cal.containment n with
          | .contained => .ok (slot, r)
          | .notContained => .error .outOfHours
          | .noTime => .error .clock

/-- How the PIN check ends (R104). -/
inductive PinOutcome where
  | passed | onDuress | required | wrong
  deriving DecidableEq, Repr

/-- The PIN check on the digits presented; none are absent digits (R104). -/
def pinCheck (r : CredRecord) (digits : List Nat) : PinOutcome :=
  match r.pin with
  | none => .passed
  | some pin =>
    if digits = [] then .required
    else if r.duress = some digits then .onDuress
    else if digits = pin then .passed
    else .wrong

/-- The key of DURESS-CODE (R104). -/
def duressCodeKey (v : Vault) (number : Nat) : AlarmKey :=
  { kind := .duressCode, vault := some v, credential := some number, detail := none }

/-- The passback check fails for a number (R105); `except` names the vault whose pair's first may present again. -/
def State.passback (s : State) (number : Nat) (except : Option Vault) : Bool :=
  Vault.all.any fun w =>
    ((s.occupancy w).entries.any fun e => e.number = number)
    || decide (number ∈ s.entering w)
    || (match s.pair w with
        | none => false
        | some p => decide (p.first = number) && decide (except ≠ some w))

/-- The room check fails for so many numbers (R105). -/
def State.noRoom (s : State) (v : Vault) (k : Nat) : Bool :=
  decide ((s.group v).limit < s.load v + k) || decide (Config.registerSize < s.siteLoad + k)

/-- Checks 11 and 12 of R103. -/
def State.placeVerdict (s : State) (v : Vault) (number : Nat) (except : Option Vault) : Option Verdict :=
  if s.passback number except then some .passback else if s.noRoom v 1 then some .full else none

/-- A write for a slot needs a place in the queue (R103 check 14, R114). -/
def State.needsPlace (s : State) (slot : Nat) (r : CredRecord) : Bool :=
  r.uses.isSome && (s.nva.queued (.slot slot)).isNone

/-- Checks 2 to 12 of R103 with what the PIN check does: the state, and the verdict of the first check that fails or
the credential with whether the duress code was typed. -/
def checkEntry (v : Vault) (number : Nat) (digits : List Nat) (except : Option Vault) (s : State) :
    State × Except Verdict (Nat × CredRecord × Bool) :=
  match gate s v number with
  | .error e => (s, .error e)
  | .ok (slot, r) =>
    match pinCheck r digits with
    | .required => (s, .error .pinRequired)
    | .wrong => (recordFailure number s, .error .pinWrong)
    | .passed =>
      match s.placeVerdict v number except with
      | some e => (s, .error e)
      | none => (s, .ok (slot, r, false))
    | .onDuress =>
      let s := raised (duressCodeKey v number) s
      match s.placeVerdict v number except with
      | some e => (s, .error e)
      | none => (s, .ok (slot, r, true))

/-! ## The outer reader -/

/-- A presentation at an outer reader (R103, R106). -/
def presentOuter (v : Vault) (number : Nat) (digits : List Nat) (s : State) : State × Verdict :=
  match checkEntry v number digits none s with
  | (s, .error e) => (s, e)
  | (s, .ok (slot, r, _)) =>
    if (s.door v).vault ≠ .secured ∨ (s.door v).outer ≠ .locked then (s, .interlock)
    else if s.needsPlace slot r && decide (Config.queueSize ≤ s.nva.queue.length) then (s, .storeBusy)
    else (recordOuterGrant v .entry (decrementUses number s), .granted)

/-! ## The inner reader -/

/-- Pairing is in force at a vault (R96). -/
def State.pairing (s : State) (v : Vault) : Bool := decide (s.mode ≠ .openHours) && (s.group v).pairFlag

/-- The earliest may-escort occupant of a vault (R108, R115). -/
def State.escortInside (s : State) (v : Vault) : Option Nat :=
  ((s.occupancy v).entries.find? fun e => s.mayEscort e.number).map Occupant.number

/-- A credential needs an escort at a vault (R108). -/
def State.needsEscort (s : State) (v : Vault) (number : Nat) : Bool :=
  s.escortRequired number && (s.escortInside v).isNone

/-- The two-person rule applies to a credential at a vault (R108). -/
def State.twoPerson (s : State) (v : Vault) (number : Nat) : Bool :=
  s.pairing v && !s.bandCredential number && decide (s.count v = 0)

/-- A credential needs a partner at a vault (R108). -/
def State.needsPartner (s : State) (v : Vault) (number : Nat) : Bool :=
  s.needsEscort v number || s.twoPerson v number

/-- The escort link of a number at admission (R115), with its partner in the set. -/
def State.escortLink (s : State) (v : Vault) (number : Nat) (partner : Option Nat) : Option Nat :=
  if s.escortRequired number then
    match partner with
    | some k => if s.mayEscort k then some k else s.escortInside v
    | none => s.escortInside v
  else none

/-- The places in the queue that the uses decrements of a set need (R114). -/
def State.placesNeeded (s : State) (set : List EnteringEntry) : Nat :=
  (set.filter fun e =>
    match s.credential e.number with
    | none => false
    | some (slot, r) => s.needsPlace slot r).length

/-- An admission set at the inner reader (R114, R115); `pair` tells that it holds the pair's first credential. -/
def admitSet (v : Vault) (set : List EnteringEntry) (pair : Bool) (s : State) : State × Verdict :=
  if s.noRoom v set.length then (s, .full)
  else if Config.queueSize < s.nva.queue.length + s.placesNeeded set then (s, .storeBusy)
  else
    let s := if pair then s.withPair v none else s
    let s := set.foldl (fun s e => decrementUses e.number s) s
    (recordGrant v { origin := .entry, entering := set, exiting := [], unrecorded := false, lapse := some (s.grantTicks v) } s,
      if set.length = 2 then .grantedPair else .granted)

/-- One number admitted alone, with the escort link of R115. -/
def admitAlone (v : Vault) (number : Nat) (duress : Bool) (s : State) : State × Verdict :=
  admitSet v [{ number := number, duress := duress, link := s.escortLink v number none }] false s

/-- A pending pair is formed (R110). -/
def formPair (v : Vault) (number : Nat) (duress : Bool) (s : State) : State :=
  s.withPair v (some { first := number, duress := duress, window := s.cfg.site.pairWindow * 100 })

/-- A credential that passed checks 1 to 14 where no pair is pending (R109). -/
def decideAlone (v : Vault) (number : Nat) (duress : Bool) (s : State) : State × Verdict :=
  if s.needsEscort v number then
    if s.pairing v then (formPair v number duress s, .waitSecond) else (s, .escortNeeded)
  else if s.twoPerson v number then (formPair v number duress s, .waitSecond)
  else admitAlone v number duress s

/-- The first of a pair passes its re-evaluation: checks 2 to 12 of R103 but for the PIN check (R111). -/
def State.firstPasses (s : State) (v : Vault) (first : Nat) : Bool :=
  match gate s v first with
  | .error _ => false
  | .ok _ => (s.placeVerdict v first (some v)).isNone

/-- A credential that meets the pending pair of another (R111, R112). -/
def meetPair (v : Vault) (p : PendingPair) (number : Nat) (duress : Bool) (s : State) : State × Verdict :=
  if !s.firstPasses v p.first then decideAlone v number duress (s.withPair v none)
  else if (!s.needsEscort v p.first || s.mayEscort number) && (!s.needsEscort v number || s.mayEscort p.first) then
    admitSet v
      [{ number := p.first, duress := p.duress, link := s.escortLink v p.first (some number) },
       { number := number, duress := duress, link := s.escortLink v number (some p.first) }] true s
  else if s.needsPartner v number then (s, .escortNeeded)
  else admitAlone v number duress s

/-- The first of the pair presents again (R113). Admitted alone, it carries the duress mark of this presentation
(DESIGN CHOICE, notes/assumptions/17.md). -/
def firstAgain (v : Vault) (p : PendingPair) (duress : Bool) (s : State) : State × Verdict :=
  if s.needsPartner v p.first then (s.withPair v (some { p with duress := p.duress || duress }), .waitSecond)
  else decideAlone v p.first duress (s.withPair v none)

/-- A presentation at an inner reader (R107). -/
def presentInner (v : Vault) (number : Nat) (digits : List Nat) (s : State) : State × Verdict :=
  match checkEntry v number digits (some v) s with
  | (s, .error e) => (s, e)
  | (s, .ok (_, _, duress)) =>
    let d := s.door v
    if d.out || !(decide (d.vault = .secured) || decide (d.vault = .relockWait) || decide (d.vault = .extending)) then
      (s, .doorBusy)
    else if d.outer ≠ .locked then (s, .interlock)
    else
      match s.pair v with
      | none => decideAlone v number duress s
      | some p => if p.first = number then firstAgain v p duress s else meetPair v p number duress s

/-! ## The exit reader -/

/-- A number stands in a vault's occupant list. -/
def State.inside (s : State) (v : Vault) (number : Nat) : Bool := (s.occupancy v).entries.any fun e => e.number = number

/-- A CHECK-IN presentation at an exit reader (R118). -/
def presentCheckIn (v : Vault) (number : Nat) (s : State) : State × Verdict :=
  if s.inside v number then (checkIn v (some number) s, .checkedIn) else (s, .notInside)

/-- An exit appended to an outstanding grant (R119): a stopped drive of an emergency release restarts (R137). -/
def appendExit (v : Vault) (g : VaultGrant) (number : Nat) (s : State) : State :=
  if number ∈ g.exiting then s
  else if g.exiting.length < 4 then
    let s := s.withDoor v { s.door v with vaultGrant := some { g with exiting := g.exiting ++ [number] } }
    if (s.door v).vault = .emergencyReleased then restartEmergencyDrive v s else s
  else s.withDoor v { s.door v with vaultGrant := some { g with unrecorded := true } }

/-- An ENTRY presentation at an exit reader, which is never refused (R119). -/
def presentExit (v : Vault) (number : Nat) (s : State) : State × Verdict :=
  match (s.door v).vaultGrant, s.inside v number with
  | some g, true => (appendExit v g number s, .exitReleased)
  | some _, false => (s, .exitUnlisted)
  | none, true => (handExitGrant v [number] s, .exitReleased)
  | none, false => (handExitGrant v [] s, .exitUnlisted)

/-! ## A presentation -/

/-- The decision of a presentation (R102). -/
def decidePresentation (a : ReaderAddress) (number : Nat) (purpose : Purpose) (digits : List Nat) (s : State) :
    State × Verdict :=
  if s.phase ≠ .running then (s, .starting)
  else
    match a.position with
    | .outer => presentOuter a.vault number digits s
    | .inner => presentInner a.vault number digits s
    | .exit =>
      match purpose with
      | .checkIn => presentCheckIn a.vault number s
      | .entry => presentExit a.vault number s

/-- A presentation delivered by the RLC (R89, R102): it is decided, its verdict is handed with the number presented, and
a lockout that is owed for the number is requested (R117). -/
def present (a : ReaderAddress) (number : Nat) (purpose : Purpose) (digits : List Nat) (s : State) : State :=
  let (s, verdict) := decidePresentation a number purpose digits s
  let s := handVerdict a verdict (some number) s
  if s.atLimit number then suspendLockedOut number s else s

end Sys2Proof.Machine
end

