-- ==== Sys2Proof/Machine/Lines.lean ====
section
/-!
DEFINITION. The Line Qualifier (R61 to R73): sampling, qualified changes and their delivery, line faults, the site
HOLD-ALL input and the evacuation combination.
-/

namespace Sys2Proof.Machine

/-! ## Sampling -/

/-- One raw reading taken into a qualification record (R63). A run that reaches its count is left for the qualified
change, which is an event of its own. -/
def Qualification.sample {α : Type} [DecidableEq α] (q : Qualification α) (r : α) (now : Instant) : Qualification α :=
  if q.qualified = some r then { q with candidate := none, run := 0, start := none, last := some r }
  else if q.candidate = some r then { q with run := q.run + 1, last := some r }
  else { q with candidate := some r, run := 1, start := some now, last := some r }

/-- A run stands at or above its count, so that a qualified change is due (R63, R64). -/
def Qualification.reached {α : Type} (q : Qualification α) (count : Nat) : Bool :=
  q.candidate.isSome && decide (count ≤ q.run)

/-- The record after its qualified change (R63). -/
def Qualification.changed {α : Type} (q : Qualification α) : Qualification α :=
  { q with qualified := q.candidate, candidate := none, run := 0, start := none }

/-- A line is supervised (the R61 table). -/
def supervised : Line → Bool
  | .detectorA | .detectorB | .manualRelease | .abort | .discharge | .duressVault | .duressVestibule => true
  | .outerContact | .outerEgress | .vaultContact | .boltsThrown | .boltsWithdrawn | .vaultEgress | .isolate
  | .checkIn => false

/-- A reading that the wiring of a line can give (R61): OPEN and SHORT are read on supervised lines alone. -/
def readable (l : Line) (r : Reading) : Bool :=
  supervised l || decide (r = .normal) || decide (r = .active)

/-- A vault line sampled (R62). A reading that its wiring cannot give is none (notes/assumptions/3.md). -/
def sampleLine (q : Qualification Reading) (l : Line) (r : Reading) (now : Instant) : Qualification Reading :=
  if readable l r then q.sample r now else q

/-- The lines and the release circuit of a vault sampled (R62, R68). -/
def VaultLines.sample (x : VaultLines) (r : VaultReadings) (now : Instant) : VaultLines :=
  { lines := PerLine.make fun l => sampleLine (x.lines.get l) l (r.lines.get l) now
    release := x.release.sample r.release now }

/-- The qualified changes due at a vault (R63, R64, R68). -/
def VaultLines.due (x : VaultLines) (v : Vault) (classes : PerLine Nat) : List Due :=
  (Line.all.filter fun l => (x.lines.get l).reached (classes.get l)).map (Due.line v)
  ++ (if x.release.reached Config.siteRun then [.release v] else [])

/-- Every line of the enabled vaults and every site line sampled at a tick event, with the changes that fall due
(R62). -/
def sampleLines (r : Readings) (s : State) : State :=
  let now := s.cal.instant
  let s := eachVault (fun v s =>
    if s.enabled v then
      let x := (s.lines.get v).sample (r.vaults.get v) now
      { s.withLines v x with due := s.due ++ x.due v (s.group v).classes }
    else s) s
  let site := PerSite.make fun i => (s.lqu.site.get i).sample (r.site.get i) now
  { s with
    lqu := { s.lqu with site := site }
    due := s.due ++ (SiteLine.all.filter fun i => (site.get i).reached Config.siteRun).map Due.siteLine }

/-! ## Qualified changes of vault lines -/

/-- The key of a LINE-FAULT (R67, R68). -/
def lineFaultKey (id : LineIdentity) : AlarmKey :=
  keyOf .lineFault
    (match id with
      | .vaultLine v _ => some v
      | .release v => some v
      | .siteLine _ => none)
    (some (.line id))

/-- The LINE-FAULT condition of a line at a qualified change (R67). -/
def lineFault (id : LineIdentity) (new : Reading) (s : State) : State :=
  match new with
  | .opened | .shorted => raised (lineFaultKey id) s
  | .normal | .active => endCondition (lineFaultKey id) s

/-- The key of DURESS-BUTTON (R61). -/
def duressButtonKey (v : Vault) (l : Line) : AlarmKey := keyOf .duressButton (some v) (some (.line (.vaultLine v l)))

/-- A qualified change of a vault line delivered to its users (R61, R65): the state left, absent from UNQUALIFIED, the
state taken and the capture time. Where the table of R61 names two blocks they take it in the order it names them, DSQ then
SSQ, which the rules do not fix (DESIGN CHOICE, notes/assumptions/42.md). -/
def deliverLine (v : Vault) (l : Line) (old : Option Reading) (new : Reading) (time : Instant) (s : State) : State :=
  let active := decide (new = .active)
  let leaves := decide (old = some .active)
  match l with
  | .outerContact => if active then outerOpened v old.isNone s else if leaves then outerClosed v s else s
  | .outerEgress => if active then outerEgressPress v s else s
  | .vaultContact =>
    if active then vaultOpened v old.isNone time s
    else if leaves then contactLeft v (vaultClosed v s)
    else s
  | .boltsThrown => if active then boltsThrownActive v s else if leaves then boltsThrownLost v s else s
  | .boltsWithdrawn => if active then boltsWithdrawnActive v s else s
  | .vaultEgress => if active then egressPressed v (vaultEgressPress v s) else s
  | .detectorA | .detectorB => detectorTaken v active s
  | .manualRelease =>
    if active then manualRelease v s else if leaves then endCondition (alertKey v .manualInIsolation) s else s
  | .abort => abortTaken v new s
  | .isolate => if active then isolate v s else if leaves then deisolate v s else s
  | .discharge => if active then dischargeActive v s else s
  | .duressVault | .duressVestibule => if active then raised (duressButtonKey v l) s else s
  | .checkIn => if active then checkIn v none s else s

/-- The qualified change of a vault line (R63, R65, R67). The rules give no order within the one event; the model raises or
ends LINE-FAULT before the line's users take the change, so before a DURESS-BUTTON raise (R61), which decides what a full
alarm table keeps (R192). DESIGN CHOICE, unsafe (notes/assumptions/42.md). -/
def takeLine (v : Vault) (l : Line) (s : State) : State :=
  let q := s.lineRecord v l
  match q.candidate with
  | none => s
  | some new =>
    let s := s.withLineRecord v l q.changed
    let s := if supervised l then lineFault (.vaultLine v l) new s else s
    deliverLine v l q.qualified new (q.start.getD s.cal.instant) s

/-- The qualified change of a release circuit (R68). -/
def takeRelease (v : Vault) (s : State) : State :=
  let q := (s.lines.get v).release
  match q.candidate with
  | none => s
  | some new =>
    let s := s.withRelease v q.changed
    match new with
    | .broken => raised (lineFaultKey (.release v)) s
    | .intact => endCondition (lineFaultKey (.release v)) s

/-! ## Site lines -/

/-- A site line is qualified ACTIVE. -/
def Lqu.active (l : Lqu) (i : SiteLine) : Bool := decide ((l.site.get i).qualified = some .active)

/-- The site HOLD-ALL input as the roles and the lines give it (R71). -/
def Lqu.holdAllInput (l : Lqu) (roles : PerSite Role) : Bool :=
  SiteLine.all.any fun i => decide (roles.get i = .holdAll) && l.active i

/-- The evacuation combination stands as the roles and the lines give it (R72). -/
def Lqu.combination (l : Lqu) (roles : PerSite Role) : Bool :=
  (SiteLine.all.any fun i => decide (roles.get i = .evacuateMember))
  && SiteLine.all.all fun i => decide (roles.get i ≠ .evacuateMember) || l.active i

/-- The HOLD-ALL source judged again at every vault (R71, R170). -/
def recheckAllHolds (s : State) : State := eachVault recheckHolds s

/-- The site HOLD-ALL input judged again (R71). -/
def judgeHoldAll (s : State) : State :=
  let b := s.lqu.holdAllInput s.cfg.site.roles
  if b = s.lqu.holdAll then s else recheckAllHolds (s.withLqu { s.lqu with holdAll := b })

/-- The evacuation combination judged again (R72). -/
def judgeCombination (s : State) : State :=
  let b := s.lqu.combination s.cfg.site.roles
  if b = s.lqu.stands then s else s.withLqu { s.lqu with stands := b, count := 0, completed := false }

/-- The qualified change of a site line (R67, R70 to R72). LINE-FAULT comes before the role's effect, an order the rules do
not give (DESIGN CHOICE, notes/assumptions/42.md). -/
def takeSiteLine (i : SiteLine) (s : State) : State :=
  let q := s.lqu.site.get i
  match q.candidate with
  | none => s
  | some new =>
    let s := s.withLqu { s.lqu with site := s.lqu.site.set i q.changed }
    match s.cfg.site.roles.get i with
    | .none => s
    | .holdAll => judgeHoldAll (lineFault (.siteLine i) new s)
    | .evacuateMember => judgeCombination (lineFault (.siteLine i) new s)

/-- The combination completes at this tick event (R72). -/
def State.combinationDue (s : State) : Bool :=
  s.lqu.stands && !s.lqu.completed && decide (s.cfg.site.tComb * 100 ≤ s.lqu.count + 1)

/-- The combination count one tick later (R72). -/
def tickCombination (s : State) : State :=
  if s.combinationDue then { s with due := s.due ++ [.evacuation] }
  else if s.lqu.stands ∧ s.lqu.completed = false then s.withLqu { s.lqu with count := s.lqu.count + 1 }
  else s

/-- The evacuation combination completes (R72, R73). -/
def completeCombination (s : State) : State :=
  evacuationCompleted (s.withLqu { s.lqu with count := s.lqu.count + 1, completed := true })

/-- A site line's fault condition at a change of its role (R67). -/
def roleFault (i : SiteLine) (old new : Role) (s : State) : State :=
  if new = .none then (if old = .none then s else endCondition (lineFaultKey (.siteLine i)) s)
  else if old = .none then
    match (s.lqu.site.get i).qualified with
    | some .opened | some .shorted => raised (lineFaultKey (.siteLine i)) s
    | _ => s
  else s

/-- The members of the evacuation combination differ between two sets of roles. -/
def membersDiffer (old new : PerSite Role) : Bool :=
  SiteLine.all.any fun i =>
    decide (old.get i = .evacuateMember) != decide (new.get i = .evacuateMember)

/-- New site input roles take effect (R67, R70 to R72): a change of members that keeps the combination standing restarts
its count. A change that keeps it standing and neither adds nor removes a member leaves the count: the words of R72, 'whether
it adds or removes a member', can be read either way (DESIGN CHOICE, unsafe; notes/assumptions/45.md). Where several roles
change at once, the LINE-FAULT conditions are raised and ended line by line from S0 to S3, and before the HOLD-ALL input and
the combination are judged; the rules give no order among the lines, and it decides the ids and positions of the records.
DESIGN CHOICE, unsafe (notes/assumptions/43.md). -/
def setRoles (roles : PerSite Role) (s : State) : State :=
  let old := s.cfg.site.roles
  let stood := s.lqu.stands
  let s := s.withSite { s.cfg.site with roles := roles }
  let s := SiteLine.all.foldl (fun s i => roleFault i (old.get i) (roles.get i) s) s
  let s := judgeCombination (judgeHoldAll s)
  if stood ∧ s.lqu.stands ∧ membersDiffer old roles then s.withLqu { s.lqu with count := 0 } else s

/-- The lines of a vault that ceases to be enabled (R62): every LINE-FAULT condition of them ends. -/
def disableLines (v : Vault) (s : State) : State :=
  let s := (Line.all.filter supervised).foldl (fun s l => endCondition (lineFaultKey (.vaultLine v l)) s) s
  (endCondition (lineFaultKey (.release v)) s).withLines v resetLines

end Sys2Proof.Machine
end

