-- ==== Sys2Proof/Machine/ReaderLine.lean ====
section
/-!
DEFINITION. The poll cycle of the reader line (R81 to R84, R92, R93).
-/

namespace Sys2Proof.Machine

/-- The readers in the round: those of the enabled vaults, in address order (R81). -/
def State.round (s : State) : List ReaderAddress := allReaders.filter fun a => s.enabled a.vault

/-- The reader that the next transaction addresses (R81). -/
def State.nextReader (s : State) : Option ReaderAddress :=
  match s.rline.last with
  | none => s.round.head?
  | some l =>
    match s.round.find? fun a => decide (l.number < a.number) with
    | some a => some a
    | none => s.round.head?

/-- A transaction begins (R82, R83): INDICATE with the pending indication, which becomes the one in flight, or POLL. -/
def beginTransaction (s : State) : State :=
  match s.nextReader with
  | none => s.withReaderLine { s.rline with phase := .quiet, address := none, discard := false, last := none }
  | some a =>
    let r := s.reader a
    let frame := match r.waiting with
      | some w => indicateFrame a w.verdict
      | none => pollFrame a
    (s.withReader a { r with waiting := none, inFlight := r.waiting }).withReaderLine
      { phase := .partFrame, address := some a, discard := false, last := some a, frame := frame }

/-- A transaction ends (R81, R82): the line settles, or stays quiet while no vault is enabled. -/
def endTransaction (s : State) : State :=
  s.withReaderLine { s.rline with
    phase := if s.round = [] then .quiet else .settling
    address := none
    discard := false }

/-- The reader of the transaction under way, where its reply counts (R93). -/
def ReaderLine.counted (l : ReaderLine) : Option ReaderAddress := if l.discard then none else l.address

/-- The transaction ends in a miss (R82, R92). -/
def transactionMissed (s : State) : State :=
  endTransaction (match s.rline.counted with
    | none => s
    | some a => readerMiss a s)

/-- A good PRESENT (R88, R89): a repeat is dropped with its age set to 0, any other is taken and delivered. -/
def presentReply (a : ReaderAddress) (number : Nat) (purpose : Purpose) (digits : List Nat) (s : State) : State :=
  let r := s.reader a
  let s' := s.withReader a (r.presented number)
  if r.repeats number then s'
  else present a number (if a.position = .exit then purpose else .entry) digits s'

/-- A reply of the addressed reader taken (R84 to R86, R88). -/
def takeReply (a : ReaderAddress) (bytes : List Byte) (s : State) : State :=
  match parseReply a bytes with
  | none => readerMiss a s
  | some .idle => goodReply a false s
  | some .tamper => goodReply a true s
  | some (.present number purpose digits) => presentReply a number purpose digits (goodReply a false s)

/-- The transaction ends in a completed reply (R82, R84). -/
def transactionReplied (bytes : List Byte) (s : State) : State :=
  endTransaction (match s.rline.counted with
    | none => s
    | some a => takeReply a bytes s)

/-- The reader line where a vault ceases to be enabled (R81, R93): a transaction with one of its readers is to be
discarded, and with no vault enabled the line falls quiet and the round begins anew (notes/assumptions/18.md). -/
def disableOnLine (v : Vault) (s : State) : State :=
  let l := s.rline
  let mine := match l.address with
    | none => false
    | some a => decide (a.vault = v)
  let empty := decide (s.round = [])
  s.withReaderLine { l with
    discard := l.discard || mine
    last := if empty then none else l.last
    phase := if empty ∧ l.phase = .settling then .quiet else l.phase }

/-- The reader line where a vault becomes enabled (R81): a quiet line begins its first transaction. -/
def enableOnLine (s : State) : State := if s.rline.phase = .quiet then beginTransaction s else s

end Sys2Proof.Machine
end

