-- ==== Sys2Proof/Machine/Commissioning.lean ====
section
/-!
DEFINITION. What a new configuration value does at its owner (R27): enabling and disabling a vault (R62, R93, R100, R143,
R159, R187), the site group and a vault group.
-/

namespace Sys2Proof.Machine

/-- A vault ceases to be enabled. Every condition of its blocks ends, and its records become those of a reset (R62, R75,
R93, R100, R143, R159, R187). -/
def disableVault (v : Vault) (s : State) : State :=
  let before := s.occupancy v
  let s := disableLines v (disableDoors v (disableReaders v (s.withPair v none)))
  let s := setCertain v true (clearOccupants v (disableSequencer v s))
  let s := if before.watched = (s.occupancy v).watched then s else causeOccupancy s
  let s := (occupancyReported v s).withClaimSet v noClaims
  disableOnLine v (s.withGroup v { s.group v with enabled := false })

/-- A vault becomes enabled: its blocks start as after a reset (R62, R81, R143, R159, R187, R199). -/
def enableVault (v : Vault) (s : State) : State :=
  let before := s.occupancy v
  let s := s.withGroup v { s.group v with enabled := true }
  let s := setCertain v false (enableSequencer v s)
  let s := if before.watched = (s.occupancy v).watched then s else causeOccupancy s
  let s := if s.atu.latch then claimSiteEvacuate v true s else s
  enableOnLine (settleLone v (beginDoors v (occupancyReported v s)))

/-- The enabled value of a vault set (R62). -/
def setEnabled (v : Vault) (b : Bool) (s : State) : State :=
  if b = s.enabled v then s else if b then enableVault v s else disableVault v s

/-- The values of a vault group given to their owners (R100, R124, R150, R157). A change of the enabled value is applied
first (R208), so that it acts with the timings in force before (DEDUCED, notes/assumptions/28.md). -/
def applyVault (v : Vault) (g : VaultGroup) (s : State) : State :=
  let s := setEnabled v g.enabled s
  let old := s.group v
  let s := s.withGroup v g
  let s := if old.pairFlag ∧ g.pairFlag = false then lapsePair v s else s
  if old.allHours = g.allHours then s else settleLone v s

/-- The values of the site group given to their owners (R70 to R72). The roles take effect before the other values, so that
a LINE-FAULT which a new role raises (R67) escalates by the E1 in force before (DESIGN CHOICE, notes/assumptions/37.md). -/
def applySite (g : SiteGroup) (s : State) : State := (setRoles g.roles s).withSite g

/-- Every owner receives a configuration (R41): the staged sets first, so that a vault which becomes enabled commits its
own new one (R187). A vault that becomes enabled acts with the timings in force before, its first extension drive among
them (DEDUCED, notes/assumptions/28.md). The site mode record is not touched. -/
def applyConfig (b : ConfigBlock) (s : State) : State :=
  let s := applySite b.site { s with cfg := { s.cfg with suppression := b.suppression } }
  let s := eachVault (fun v s => applyVault v (b.vaults.get v) s) s
  { s with cfg := b }

end Sys2Proof.Machine
end

