-- ==== Sys2Proof/Machine/Events.lean ====
section
/-!
DEFINITION. The tick event, the events it brings about and what each of them does (R43, R48, R62, R72, R77, R87, R110,
R123, R133, R151, R166, R168, R175 to R178, R194).

An event that a tick brings about is held in `State.due` until its own command takes it, in any order among the events of
one tick; a later command that is no such event first takes those still held, in the order in which the tick brought
them about (notes/assumptions/2.md).
-/

namespace Sys2Proof.Machine

/-! ## What each event does -/

/-- The start-up path stands at its hundredth tick event (R47). -/
def Tmb.startUpDue (t : Tmb) : Bool := decide (t.startUp = some 99)

/-- The lone worker's remaining time of a vault (R145, R150). -/
def VaultOccupancy.remaining (o : VaultOccupancy) : Option Nat :=
  (o.entries.find? fun e => e.checkIn.isSome).bind Occupant.checkIn

/-- An entry whose remaining time reaches 6,000 (R151). -/
def Occupant.chirped (e : Occupant) : Occupant :=
  if e.checkIn = some 6001 then { e with checkIn := some 6000 } else e

/-- The lone worker's remaining time reaches 6,000 (R151): the CHIRP claim is placed. -/
def chirp (v : Vault) (s : State) : State :=
  let o := s.occupancy v
  claimChirp v true (s.withOccupancy v { o with entries := o.entries.map Occupant.chirped })

/-- A record's escalation remaining reaches 0 (R194). -/
def escalate (id : Nat) (s : State) : State :=
  causeAlarms (s.withAtu { s.atu with
    table := s.atu.table.map fun r => if r.id = id then r.escalate s.cfg.site else r })

/-- The record of an id is escalating and at its last tick. -/
def State.escalationDue (s : State) (id : Nat) : Bool :=
  match s.atu.byId id with
  | none => false
  | some r => lastTick r.escalation

/-- The event still stands: an earlier event of the same tick may have ended its ground. -/
def State.stillDue (s : State) : Due → Bool
  | .startUpTimeout => s.tmb.startUpDue
  | .minute => true
  | .evacuation => s.combinationDue
  | .testClaim v => lastTick ((s.claimSet v).test.map TestClaim.remaining)
  | .pairWindow v => lastTick ((s.pair v).map PendingPair.window)
  | .outerGrant v => lastTick ((s.door v).outerGrant.map OuterGrant.lapse)
  | .vaultGrant v => lastTick ((s.door v).vaultGrant.bind VaultGrant.lapse)
  | .egressRelease v => lastTick (s.door v).egress
  | .travel v => lastTick (s.door v).travel
  | .relock v => lastTick (s.door v).relock
  | .held v d => lastTick ((s.door v).heldTimer d)
  | .chirp v => decide ((s.occupancy v).remaining = some 6001)
  | .loneWorker v => lastTick (s.occupancy v).remaining
  | .countdown v => decide ((s.sequencer v).state = .countdown) && lastTick (s.sequencer v).remaining
  | .abortHold v => (s.sequencer v).abortDue
  | .pulse v => lastTick (s.sequencer v).pulse
  | .confirmWait v => lastTick (s.sequencer v).confirmWait
  | .soak v => lastTick (s.sequencer v).soak
  | .escalation id => s.escalationDue id
  | .line v l => (s.lineRecord v l).candidate.isSome
  | .release v => (s.lines.get v).release.candidate.isSome
  | .siteLine i => (s.lqu.site.get i).candidate.isSome

/-- What an event of a tick does. -/
def perform (d : Due) (s : State) : State :=
  match d with
  | .startUpTimeout => referenceLost s
  | .minute => minuteEvent s
  | .evacuation => completeCombination s
  | .testClaim v => endTest v s
  | .pairWindow v => lapsePair v s
  | .outerGrant v => outerLapsed v s
  | .vaultGrant v => discardGrant v s
  | .egressRelease v => egressLapsed v s
  | .travel v => travelExpired v s
  | .relock v => relockExpired v s
  | .held v d => heldExpired v d s
  | .chirp v => chirp v s
  | .loneWorker v => loneExpired v s
  | .countdown v => expireCountdown v (s.withSequencer v { s.sequencer v with remaining := some 0 })
  | .abortHold v => abortLapsed v s
  | .pulse v => pulseEnded v s
  | .confirmWait v => enterDischarged v .unconfirmed s
  | .soak v => s.withSequencer v { s.sequencer v with soak := none }
  | .escalation id => escalate id s
  | .line v l => takeLine v l s
  | .release v => takeRelease v s
  | .siteLine i => takeSiteLine i s

/-- An event that is still due takes place; one whose ground an earlier event ended does not. -/
def performDue (d : Due) (s : State) : State := if s.stillDue d then perform d s else s

/-- Every event still held takes place, in the order in which the tick brought them about. -/
def settle (s : State) : State := { s.due.foldl (fun s d => performDue d s) s with due := [] }

/-- The command of an event takes it from those held; an event that has not come about has no effect
(notes/assumptions/3.md). -/
def takeDue (d : Due) (s : State) : State :=
  if d ∈ s.due then performDue d { s with due := s.due.erase d } else s

/-! ## The tick event -/

/-- A lone worker's remaining time one tick later; the ticks that reach 6,000 and 0 are left to their own events. -/
def Occupant.tick (e : Occupant) : Occupant :=
  { e with checkIn := e.checkIn.map fun n => if n ≤ 1 ∨ n = 6001 then n else n - 1 }

/-- The timers of the occupant list one tick later (R151). -/
def VaultOccupancy.tick (o : VaultOccupancy) : VaultOccupancy := { o with entries := o.entries.map Occupant.tick }

/-- A pending pair one tick later (R110). -/
def PendingPair.tick (p : PendingPair) : PendingPair :=
  { p with window := if p.window ≤ 1 then p.window else p.window - 1 }

/-- The TEST claim and the cadence one tick later (R77, R78). -/
def ClaimSet.advance (c : ClaimSet) : ClaimSet :=
  { c.tick with test := c.test.map fun t =>
      { t with remaining := if t.remaining ≤ 1 then t.remaining else t.remaining - 1 } }

/-- The readers of a vault one tick older (R87). -/
def VaultReaders.older (r : VaultReaders) : VaultReaders := ⟨r.outer.older, r.inner.older, r.exit.older⟩

/-- An alarm record one tick later (R194). -/
def AlarmRecord.tick (r : AlarmRecord) : AlarmRecord := { r with escalation := countDown r.escalation }

/-- The timer events that this tick brings about at a vault. -/
def State.vaultDue (s : State) (v : Vault) : List Due :=
  (if lastTick ((s.claimSet v).test.map TestClaim.remaining) then [.testClaim v] else [])
  ++ (if lastTick ((s.pair v).map PendingPair.window) then [.pairWindow v] else [])
  ++ (s.door v).due v
  ++ (if (s.occupancy v).remaining = some 6001 then [.chirp v] else [])
  ++ (if lastTick (s.occupancy v).remaining then [.loneWorker v] else [])
  ++ (s.sequencer v).due v

/-- The timer events that this tick brings about (R47, R48, R194 and the vaults). -/
def State.timersDue (s : State) : List Due :=
  (if s.tmb.startUpDue then [.startUpTimeout] else [])
  ++ (if s.cal.tick.2 then [.minute] else [])
  ++ Vault.all.flatMap s.vaultDue
  ++ (s.atu.table.filter fun r => lastTick r.escalation).map fun r => .escalation r.id

/-- Every tick timer one tick later. -/
def tickTimers (s : State) : State :=
  { s with
    claims := PerVault.make fun v => (s.claimSet v).advance
    readers := PerVault.make fun v => (s.readers.get v).older
    pairs := PerVault.make fun v => (s.pair v).map PendingPair.tick
    doors := PerVault.make fun v => (s.door v).tick
    occ := PerVault.make fun v => (s.occupancy v).tick
    ssq := PerVault.make fun v => (s.sequencer v).tick
    atu := { s.atu with table := s.atu.table.map AlarmRecord.tick } }

/-- The tick event (R43, R48): the TMB and the calendar advance, every tick timer counts, the evacuation combination
counts, and the lines are sampled from the configuration read on. -/
def tickOnce (r : Readings) (s : State) : State :=
  let due := s.timersDue
  let cal := s.cal.tick.1
  let s := if s.cal.endsLastDay then causeClock s else s
  let s := { tickTimers s with tmb := s.tmb.tick s.cfg.site.trim, cal := cal, due := s.due ++ due }
  if s.configured then sampleLines r (tickCombination s) else s

end Sys2Proof.Machine
end

