-- ==== Sys2Proof/Machine/Outputs.lean ====
section
/-!
DEFINITION. The outputs of the part as functions of its state (R74, R123, R162, R196, R206).
-/

namespace Sys2Proof.Machine

/-- The seven outputs of a vault (R74, R76, R77, R123, R162): a reset and a disabled vault leave the records in states
that drive none of them. -/
def State.vaultOutputs (s : State) (v : Vault) : VaultOutputs :=
  let d := s.door v
  let c := s.claimSet v
  { outerLock := decide (d.outer = .unlocked) || decide (d.outer = .emergencyUnlocked)
    boltRetract := decide (d.vault = .retracting) || (decide (d.vault = .emergencyReleased) && d.travel.isSome)
    boltExtend := decide (d.vault = .extending)
    release := decide ((s.sequencer v).state = .releasing)
    zoneLamp := stateLamp (s.sequencer v).state
    sounder := match c.drive with
      | none => none
      | some (k, t, _) => if cadenceOn k c.position then some t else none
    strobe := match c.drive with
      | none => false
      | some (_, _, b) => b }

/-- GUARD (R196). -/
def State.guardOut (s : State) : Bool := s.atu.guardActive

/-- MONITOR (R196). -/
def State.monitorOut (s : State) : Bool := s.atu.monitorActive

/-- ATTN is driven low (R206). -/
def State.attnLow (s : State) : Bool := attention s.link.waiting s.link.enabled

end Sys2Proof.Machine
end

