-- ==== Sys2Proof/Machine/Requests.lean ====
section
/-!
DEFINITION. How a host request is taken at its acceptance and answered (R203, R204), and the checks and answers that the
requests share.
-/

namespace Sys2Proof.Machine

/-- What the owner of a request does with it: the state after it and the answer. -/
abbrev Service := State → State × Answer

/-- An accepted request with the body of its response. -/
def ok (b : Body) (s : State) : State × Answer := (s, { status := .ok, body := b })

/-- A refused request: the body is empty and no state changes (R204). -/
def refuse (st : Status) : Service := fun s => (s, { status := st, body := .empty })

/-- A STATE refusal that carries its reason (R204). -/
def refuseFor (v : Verdict) : Service := fun s => (s, { status := .state, body := .reason v })

/-- A request that names a vault: a vault above 7 is refused BAD-FIELD. -/
def onVault (n : Nat) (f : Vault → Service) : Service := fun s =>
  match Vault.ofNum n with
  | none => refuse .badField s
  | some v => f v s

/-- A request that needs its vault enabled: it is refused STATE otherwise. -/
def onEnabled (n : Nat) (f : Vault → Service) : Service :=
  onVault n fun v s => if s.enabled v then f v s else refuse .state s

/-- A request answered while the start-up integrity scan runs: GET-ATTENTION, GET-SITE-STATUS, GET-RESET-CAUSE (R204). -/
def duringScan (code : Nat) : Bool := decide (code = 41) || decide (code = 43) || decide (code = 47)

/-- The owner's answer, or NOT-READY while the scan runs (R204 check 7). -/
def answerRequest (code : Nat) (f : Service) : Service := fun s =>
  if s.phase = .running ∨ duringScan code then f s else refuse .notReady s

/-- The tag of the request in the request buffer, or 0 where none was received (R204). -/
def Link.tag (l : Link) : Byte := (l.request.getD []).getD 2 0

/-- The owner's answer becomes the response buffer (R203). -/
def holdResponse (code : Nat) (tag : Byte) (a : Answer) (s : State) : State :=
  s.withLink { s.link with
    request := none
    processing := false
    response := some { code := code, tag := tag, status := a.status, overrun := s.link.overrun, body := a.body }
    read := false
    overrun := false }

/-- A request reaches its acceptance (R203): earlier events of the last tick are taken first, and during a reset no
request is taken (notes/assumptions/2.md, 3.md and 4.md). -/
def acceptRequest (code : Nat) (f : Service) (s : State) : State :=
  let u := settle s
  if u.phase = .reset then u
  else
    let (t, a) := answerRequest code f u
    holdResponse code u.link.tag a t

/-- A host request as a command. -/
def hostRequest (code : Nat) (f : Service) (s : State) : Host.Outcome State Fault Refusal :=
  .next (acceptRequest code f s)

/-- A command that is an event: during a reset it has no effect (notes/assumptions/3.md). -/
def event (f : State → State) (s : State) : Host.Outcome State Fault Refusal :=
  .next (if s.phase = .reset then s else f s)

/-- An event that no tick brings about: earlier events of the last tick are taken first (notes/assumptions/2.md). -/
def settledEvent (f : State → State) (s : State) : Host.Outcome State Fault Refusal := event f (settle s)

end Sys2Proof.Machine
end

