-- ==== Sys2Proof/Machine/AlarmRequests.lean ====
section
/-!
DEFINITION. The alarm requests (R198 to R201).
-/

namespace Sys2Proof.Machine

/-- A request that names an alarm id (R198 and R201, checks 1 and 2). An id above 65,535 is in no table
(notes/assumptions/21.md). -/
def onAlarm (id : Nat) (f : AlarmRecord → Service) : Service := fun s =>
  if id = 0 then refuse .badField s
  else
    match s.atu.byId id with
    | none => refuse .notFound s
    | some r => f r s

/-- The state of a record after its acknowledgment, absent for RETIRED (R198). -/
def AlarmState.afterAck : AlarmState → Option AlarmState
  | .raised | .acknowledged => some .acknowledged
  | .clearedUnack => none

/-- The state of a record after the end of its condition, absent for RETIRED (R193, R198). -/
def AlarmState.afterEnd : AlarmState → Option AlarmState
  | .raised | .clearedUnack => some .clearedUnack
  | .acknowledged => none

/-- ACK-ALARM (R198). -/
def ackAlarm (id : Nat) : Service :=
  onAlarm id fun r s =>
    ok (.alarmState r.state.afterAck) (acknowledgeRecord r s)

/-- CLEAR-ALARM (R198, R199). -/
def clearAlarm (id : Nat) : Service :=
  onAlarm id fun r s =>
    if !hostClear r.key then refuse .state s
    else if r.key = siteEvacuationKey ∧ s.lqu.stands then refuse .state s
    else
      ok (.alarmState r.state.afterEnd)
        (if r.key = siteEvacuationKey then latchEnds (endCondition r.key s) else endCondition r.key s)

/-- The records with their positions, 1 for the oldest (R188). -/
def Atu.positions (a : Atu) : List (Nat × AlarmRecord) := (List.range' 1 a.table.length).zip a.table

/-- The records that a page may give: from a position on, and with AUDIBLE only those that are not silent (R200). -/
def Atu.from (a : Atu) (start : Nat) (filter : AlarmFilter) : List (Nat × AlarmRecord) :=
  a.positions.filter fun e =>
    decide (start ≤ e.1) && (decide (filter = .all) || !silentKind e.2.key.kind)

/-- LIST-ALARMS (R200). The next page begins at the next record that the filter lets through
(DESIGN CHOICE, notes/assumptions/29.md). -/
def listAlarms (start : Nat) (filter : Option AlarmFilter) : Service := fun s =>
  match filter with
  | none => refuse .badField s
  | some f =>
    if start = 0 ∨ Config.alarmSize < start then refuse .badField s
    else
      let rows := s.atu.from start f
      ok (.alarms s.atu.table.length s.atu.overflow s.guardOut s.monitorOut s.atu.latch s.atu.counter
          ((rows.take 8).map fun e => alarmImage e.1 e.2)
          (match (rows.drop 8).head? with
            | none => 0
            | some e => e.1))
        (s.withAtu { s.atu with overflow := 0 })

/-- READ-ALARM (R201). -/
def readAlarm (id : Nat) : Service :=
  onAlarm id fun r s =>
    let position := match s.atu.table.findIdx? fun x => x.id = id with
      | none => 0
      | some i => i + 1
    ok (.alarm (alarmImage position r) (kindPriority r.key.kind) (maxLevel r.key.kind) (r.escalation.map timed)) s

/-- The ACK-ALARM command. -/
def execAckAlarm (id : Nat) : State → Host.Outcome State Fault Refusal := hostRequest 37 (ackAlarm id)
/-- The CLEAR-ALARM command. -/
def execClearAlarm (id : Nat) : State → Host.Outcome State Fault Refusal := hostRequest 38 (clearAlarm id)
/-- The LIST-ALARMS command. -/
def execListAlarms (start : Nat) (filter : Option AlarmFilter) : State → Host.Outcome State Fault Refusal :=
  hostRequest 39 (listAlarms start filter)
/-- The READ-ALARM command. -/
def execReadAlarm (id : Nat) : State → Host.Outcome State Fault Refusal := hostRequest 40 (readAlarm id)

end Sys2Proof.Machine
end

