-- ==== Sys2Proof/Machine/CredentialRequests.lean ====
section
/-!
DEFINITION. The credential requests (R15 to R24).
-/

namespace Sys2Proof.Machine

/-- A slot as a read reports it (R16, R17). -/
def State.slotReport (s : State) (n : Nat) : SlotReport :=
  let c := s.slotContent n
  { slot := n
    inBand := s.inBand n
    queued := (s.nva.queued (.slot n)).isSome
    image := reportBytes c
    revision := c.revision
    failures := match c.number.bind s.failureEntry with
      | none => 0
      | some e => e.failures
    atLimit := match c.number with
      | none => false
      | some k => s.atLimit k }

/-- A band slot outside MAINTENANCE, whose record a host request may not change (R7). -/
def State.protects (s : State) (n : Nat) : Bool := s.inBand n && decide (s.mode ≠ .maintenance)

/-- A request that names a number held in the index (R19 checks 1 and 2). -/
def onNumber (number : Nat) (f : Nat → CredRecord → Service) : Service := fun s =>
  if badNumber number then refuse .badField s
  else
    match s.credential number with
    | none => refuse .notFound s
    | some (slot, r) => f slot r s

/-- A changing request that names a number (R19 checks 1 to 3). -/
def onRecord (number : Nat) (f : Nat → CredRecord → Service) : Service :=
  onNumber number fun slot r s => if s.protects slot then refuse .protectedSlot s else f slot r s

/-- A changing request that names a slot (R18 and R23, checks 1 and 2). -/
def onSlot (slot : Nat) (f : SlotContent → Service) : Service := fun s =>
  if Config.slotCount ≤ slot then refuse .badField s
  else if s.protects slot then refuse .protectedSlot s
  else f (s.slotContent slot) s

/-- The answer to an accepted change (R15). -/
def changed (slot : Nat) (s : State) : State × Answer :=
  ok (.change slot (s.slotContent slot).revision (s.nva.position (.slot slot))) s

/-- A new record placed for a slot with the revision of R3. -/
def placeRecord (slot : Nat) (r : CredRecord) (s : State) : State :=
  place (.slot slot (some { r with revision := (s.slotContent slot).nextRevision })) s

/-- LOOKUP-CREDENTIAL (R16). -/
def lookupCredential (number : Nat) : Service :=
  onNumber number fun slot _ s => ok (.slot (s.slotReport slot)) s

/-- READ-SLOT (R17). -/
def readSlot (slot : Nat) : Service := fun s =>
  if Config.slotCount ≤ slot then refuse .badField s else ok (.slot (s.slotReport slot)) s

/-- The fields of WRITE-CREDENTIAL fail check 3 of R18. A value above what the field holds is refused with those outside
its range (notes/assumptions/21.md). -/
def badFields (w : CredentialWrite) : Bool :=
  badNumber w.number || w.state.isNone
    || (match w.schedule with | none => false | some n => decide (Config.scheduleCount ≤ n))
    || (match w.expiry with | none => false | some d => decide (65534 < d))
    || (match w.uses with | none => false | some u => decide (u = 0) || decide (65535 < u))
    || (w.escortRequired && w.mayEscort)

/-- The secrets of WRITE-CREDENTIAL fail check 4 of R18. -/
def badSecrets (x : Secrets) (c : SlotContent) : Bool :=
  match x with
  | .keep => c.number.isNone
  | .give pin duress =>
    (match pin with | none => false | some p => !goodCode p)
    || (match duress with | none => false | some d => !goodCode d || pin.isNone || decide (pin = some d))

/-- The PIN and the duress code that a write leaves (R18). -/
def secretCodes (x : Secrets) (c : SlotContent) : Option (List Nat) × Option (List Nat) :=
  match x, c with
  | .give pin duress, _ => (pin, duress)
  | .keep, .held r => (r.pin, r.duress)
  | .keep, _ => (none, none)

/-- The record that a write forms (R18); its revision is set where it is placed. -/
def writtenRecord (w : CredentialWrite) (c : SlotContent) : CredRecord :=
  { number := w.number, state := w.state.getD .active, vaults := w.vaults, escortRequired := w.escortRequired
    mayEscort := w.mayEscort, schedule := w.schedule, expiry := w.expiry, uses := w.uses
    pin := (secretCodes w.secrets c).1, duress := (secretCodes w.secrets c).2, revision := 0 }

/-- The number a slot holds leaves it, and stands IN-USE (R18 check 6). -/
def State.losesInUse (s : State) (c : SlotContent) (number : Nat) : Bool :=
  match c.number with
  | none => false
  | some k => decide (k ≠ number) && s.inUse k

/-- The failure entry of an optional number removed. -/
def forgetSome (number : Option Nat) (s : State) : State :=
  match number with
  | none => s
  | some k => forget k s

/-- WRITE-CREDENTIAL (R18, R11). -/
def writeCredential (w : CredentialWrite) : Service :=
  onSlot w.slot fun c s =>
    if badFields w then refuse .badField s
    else if badSecrets w.secrets c then refuse .badField s
    else if w.expected.any fun e => decide (e ≠ c.revision) then refuse .revision s
    else if s.losesInUse c w.number then refuse .inUse s
    else if s.numberTaken w.number w.slot then refuse .duplicate s
    else if s.storeBusy then refuse .storeBusy s
    else changed w.slot (placeRecord w.slot (writtenRecord w c) (forget w.number (forgetSome c.number s)))

/-- GRANT-VAULTS and REVOKE-VAULTS (R19) with the vault set that results. -/
def changeVaults (number : Nat) (next : VaultSet → VaultSet) : Service :=
  onRecord number fun slot r s =>
    if next r.vaults = r.vaults then ok (.vaultsChanged slot r.vaults r.vaults r.revision 0) s
    else if s.storeBusy then refuse .storeBusy s
    else
      let s' := placeRecord slot { r with vaults := next r.vaults } s
      ok (.vaultsChanged slot r.vaults (next r.vaults) (s'.slotContent slot).revision (s'.nva.position (.slot slot))) s'

/-- GRANT-VAULTS (R19). -/
def grantVaults (number : Nat) (vaults : VaultSet) : Service := changeVaults number (· ||| vaults)

/-- REVOKE-VAULTS (R19). -/
def revokeVaults (number : Nat) (vaults : VaultSet) : Service := changeVaults number (· &&& ~~~vaults)

/-- SUSPEND (R20). -/
def suspend (number : Nat) : Service :=
  onRecord number fun slot r s =>
    if r.state ≠ .active then refuse .state s
    else if s.storeBusy then refuse .storeBusy s
    else changed slot (placeRecord slot { r with state := .suspended } (forget number s))

/-- REINSTATE (R21). -/
def reinstate (number : Nat) : Service :=
  onRecord number fun slot r s =>
    match r.state with
    | .retired => refuse .state s
    | .active => ok (.change slot r.revision 0) (forget number s)
    | .suspended =>
      if s.storeBusy then refuse .storeBusy s
      else changed slot (placeRecord slot { r with state := .active } (forget number s))

/-- RETIRE (R22). -/
def retire (number : Nat) : Service :=
  onRecord number fun slot r s =>
    if r.state = .retired then refuse .state s
    else if s.storeBusy then refuse .storeBusy s
    else changed slot (placeRecord slot { r with state := .retired } (forget number s))

/-- PURGE (R23). -/
def purge (slot : Nat) : Service :=
  onSlot slot fun c s =>
    if c = .free then refuse .state s
    else if c.number.any s.inUse then refuse .inUse s
    else if s.storeBusy then refuse .storeBusy s
    else changed slot (place (.slot slot none) (forgetSome c.number s))

/-- The lowest slot outside the band whose effective state is FREE (R24). -/
def State.lowestFree (s : State) : Option Nat :=
  (List.range (Config.slotCount - s.cfg.site.bandSize)).find? fun n => decide (s.slotContent n = .free)

/-- FIND-FREE-SLOT (R24). -/
def findFreeSlot : Service := fun s =>
  match s.lowestFree with
  | none => refuse .notFound s
  | some n => ok (.freeSlot n) s

/-- The LOOKUP-CREDENTIAL command. -/
def execLookupCredential (number : Nat) : State → Host.Outcome State Fault Refusal :=
  hostRequest 1 (lookupCredential number)
/-- The READ-SLOT command. -/
def execReadSlot (slot : Nat) : State → Host.Outcome State Fault Refusal := hostRequest 2 (readSlot slot)
/-- The WRITE-CREDENTIAL command. -/
def execWriteCredential (w : CredentialWrite) : State → Host.Outcome State Fault Refusal :=
  hostRequest 3 (writeCredential w)
/-- The GRANT-VAULTS command. -/
def execGrantVaults (number : Nat) (vaults : VaultSet) : State → Host.Outcome State Fault Refusal :=
  hostRequest 4 (grantVaults number vaults)
/-- The REVOKE-VAULTS command. -/
def execRevokeVaults (number : Nat) (vaults : VaultSet) : State → Host.Outcome State Fault Refusal :=
  hostRequest 5 (revokeVaults number vaults)
/-- The SUSPEND command. -/
def execSuspend (number : Nat) : State → Host.Outcome State Fault Refusal := hostRequest 6 (suspend number)
/-- The REINSTATE command. -/
def execReinstate (number : Nat) : State → Host.Outcome State Fault Refusal := hostRequest 7 (reinstate number)
/-- The RETIRE command. -/
def execRetire (number : Nat) : State → Host.Outcome State Fault Refusal := hostRequest 8 (retire number)
/-- The PURGE command. -/
def execPurge (slot : Nat) : State → Host.Outcome State Fault Refusal := hostRequest 9 (purge slot)
/-- The FIND-FREE-SLOT command. -/
def execFindFreeSlot : State → Host.Outcome State Fault Refusal := hostRequest 10 findFreeSlot

end Sys2Proof.Machine
end

