-- ==== Sys2Proof/Machine/DoorRequests.lean ====
section
/-!
DEFINITION. The door requests (R139 to R142).
-/

namespace Sys2Proof.Machine

/-- A list of entering numbers is ill-formed (R139 check 1). -/
def badEntering (numbers : List Nat) : Bool :=
  decide (2 < numbers.length) || numbers.any badNumber || decide (¬ numbers.Nodup)

/-- Checks 6 to 9 of R139 for the listed numbers: the reason of the first that fails. -/
def State.releaseVerdict (s : State) (v : Vault) (numbers : List Nat) : Option Verdict :=
  if numbers.any s.atLimit then some .lockedOut
  else if s.mode = .lockdown && numbers.any (fun k => !s.bandCredential k) then some .lockdown
  else if numbers.any (fun k => s.passback k none) then some .passback
  else if s.noRoom v numbers.length then some .full
  else none

/-- The entering list of a HOST grant (R139): an escort-required number carries the link of R115. -/
def State.hostEntries (s : State) (v : Vault) (numbers : List Nat) : List EnteringEntry :=
  numbers.map fun k =>
    { number := k, duress := false, link := s.escortLink v k (numbers.find? fun j => decide (j ≠ k)) }

/-- The vault door can take an ENTRY or HOST grant: nothing outstanding, and a state of R107 check 13. -/
def DoorRecord.takesEntry (d : DoorRecord) : Bool :=
  !d.out && (decide (d.vault = .secured) || decide (d.vault = .relockWait) || decide (d.vault = .extending))

/-- RELEASE-DOOR of the outer door, after check 3 (R139). -/
def releaseOuter (v : Vault) : Service := fun s =>
  if (s.door v).outer ≠ .locked then refuseFor .doorBusy s
  else if (s.door v).vault ≠ .secured then refuseFor .interlock s
  else
    match s.releaseVerdict v [] with
    | some e => refuseFor e s
    | none =>
      let s' := recordOuterGrant v .host s
      ok (.outerGrant (s'.door v).outerGrant) s'

/-- RELEASE-DOOR of the vault door, after check 3 (R139). -/
def releaseVault (v : Vault) (numbers : List Nat) : Service := fun s =>
  if !(s.door v).takesEntry then refuseFor .doorBusy s
  else if (s.door v).outer ≠ .locked then refuseFor .interlock s
  else
    match s.releaseVerdict v numbers with
    | some e => refuseFor e s
    | none =>
      let g : VaultGrant :=
        { origin := .host, entering := s.hostEntries v numbers, exiting := [], unrecorded := false
          lapse := some (s.grantTicks v) }
      ok (.vaultGrant g) (recordGrant v g s)

/-- RELEASE-DOOR (R139). -/
def releaseDoor (vault : Nat) (door : Option Door) (entering : Option (List Nat)) : Service :=
  onVault vault fun v s =>
    match door with
    | none => refuse .badField s
    | some which =>
      if (decide (which = .outer) && entering.isSome) || badEntering (entering.getD []) then refuse .badField s
      else if !s.enabled v then refuse .state s
      else if !s.entryState v then refuseFor .suppression s
      else
        match which with
        | .outer => releaseOuter v s
        | .vault => releaseVault v (entering.getD []) s

/-- A request that names a door of an enabled vault (R140 and R141, checks 1 and 2). -/
def onDoor (vault : Nat) (door : Option Door) (f : Vault → Door → Service) : Service :=
  onVault vault fun v s =>
    match door with
    | none => refuse .badField s
    | some d => if s.enabled v then f v d s else refuse .state s

/-- What SECURE-DOOR leaves of a vault-door grant (R140). -/
def securedGrant (g : VaultGrant) : Option VaultGrant :=
  if g.noExits then none else some { g with entering := [], origin := .exit }

/-- SECURE-DOOR at the vault door (R140). -/
def secureVault (v : Vault) (s : State) : State :=
  let s := putDoor v { s.door v with vaultGrant := (s.door v).vaultGrant.bind securedGrant } s
  match (s.door v).vault with
  | .retracting | .released => if (s.door v).out then s else startExtend v s
  | .jammed => if (s.door v).out then startRetract v s else startExtend v s
  | .secured | .opened | .relockWait | .extending | .emergencyReleased => s

/-- SECURE-DOOR (R140). -/
def secureDoor (vault : Nat) (door : Option Door) : Service :=
  onDoor vault door fun v which s =>
    if (s.door v).emergency then refuse .state s
    else
      let s' := match which with
        | .outer => withdrawOuter v s
        | .vault => secureVault v s
      ok (.doorStates (s'.door v).outer (s'.door v).vault) s'

/-- A door's state is OPEN. -/
def DoorRecord.opened (d : DoorRecord) : Door → Bool
  | .outer => decide (d.outer = .opened)
  | .vault => decide (d.vault = .opened)

/-- HOLD-DOOR (R141). -/
def holdDoor (vault : Nat) (door : Option Door) (seconds : Nat) : Service :=
  onDoor vault door fun v which s =>
    if !(s.door v).opened which || (s.door v).held which then refuse .state s
    else
      let e := clamp 1 900 seconds
      ok (.extension e) (s.withDoor v ((s.door v).setHeldTimer which (some (e * 100))))

/-- The record of a key stands in the table with its condition not ended. -/
def State.conditionStands (s : State) (key : AlarmKey) : Bool :=
  match s.atu.find key with
  | none => false
  | some r => decide (r.state ≠ .clearedUnack)

/-- The times of a door record in both forms (R142): the outer grant's lapse, the vault grant's, the egress release's, and
the travel, relock, outer held and vault held timers. -/
def DoorRecord.times (d : DoorRecord) : List (Option Timed) :=
  [d.outerGrant.map OuterGrant.lapse, d.vaultGrant.bind VaultGrant.lapse, d.egress, d.travel, d.relock, d.outerHeld,
   d.vaultHeld].map fun t => t.map timed

/-- GET-DOOR-STATUS (R142). UNBADGED-EGRESS is read from the alarm table, so that it does not stand where its raise found
no place or its record was replaced (DESIGN CHOICE, notes/assumptions/39.md). -/
def getDoorStatus (vault : Nat) : Service :=
  onVault vault fun v s =>
    ok (.doors (s.door v) (s.door v).times (s.enabled v && s.atu.latch) (decide ((s.sequencer v).state = .inhibited))
      (s.conditionStands (unbadgedKey v))
      ([Line.outerContact, .vaultContact, .boltsThrown, .boltsWithdrawn].map fun l => (s.lineRecord v l).qualified)) s

/-- The RELEASE-DOOR command. -/
def execReleaseDoor (vault : Nat) (door : Option Door) (entering : Option (List Nat)) :
    State → Host.Outcome State Fault Refusal := hostRequest 24 (releaseDoor vault door entering)
/-- The SECURE-DOOR command. -/
def execSecureDoor (vault : Nat) (door : Option Door) : State → Host.Outcome State Fault Refusal :=
  hostRequest 25 (secureDoor vault door)
/-- The HOLD-DOOR command. -/
def execHoldDoor (vault : Nat) (door : Option Door) (seconds : Nat) : State → Host.Outcome State Fault Refusal :=
  hostRequest 26 (holdDoor vault door seconds)
/-- The GET-DOOR-STATUS command. -/
def execGetDoorStatus (vault : Nat) : State → Host.Outcome State Fault Refusal := hostRequest 27 (getDoorStatus vault)

end Sys2Proof.Machine
end

