-- ==== Sys2Proof/Machine/FieldRequests.lean ====
section
/-!
DEFINITION. The requests of the field lines, the reader line and the site mode (R78, R79, R94, R97, R215).
-/

namespace Sys2Proof.Machine

/-- TEST-OUTPUT (R78). -/
def testOutput (vault : Nat) (cadence : Option Cadence) (tone : Option Tone) (strobe : Option Bool) (seconds : Nat) :
    Service :=
  onVault vault fun v s =>
    match cadence, tone, strobe with
    | some k, some t, some b =>
      if s.enabled v then
        let d := clamp 1 10 seconds
        let s' := claimTest v { cadence := k, tone := t, strobe := b, remaining := d * 100 } s
        ok (.test d (decide ((s'.claimSet v).winning = some .test))) s'
      else refuse .state s
    | _, _, _ => refuse .badField s

/-- A line as GET-LINE-STATUS reports it (R79). -/
def Qualification.report {α : Type} (q : Qualification α) (lineClass : Nat) : LineReport α :=
  { qualified := q.qualified, last := q.last, candidate := q.candidate, run := q.run, lineClass := lineClass }

/-- GET-LINE-STATUS of a vault (R79). -/
def vaultLineStatus (v : Vault) : Service := fun s =>
  let x := s.lines.get v
  ok (.vaultLines (s.enabled v)
    (PerLine.make fun l => (x.lines.get l).report ((s.group v).classes.get l))
    (x.release.report Config.siteRun) (s.vaultOutputs v) (s.claimSet v) (s.claimSet v).winning) s

/-- GET-LINE-STATUS of SITE (R79, R199). -/
def siteLineStatus : Service := fun s =>
  ok (.siteLines
    (PerSite.make fun i => ((s.lqu.site.get i).report Config.siteRun, s.cfg.site.roles.get i))
    s.lqu.stands s.lqu.count s.lqu.completed s.cfg.site.tComb s.lqu.holdAll s.guardOut s.monitorOut s.fire
    s.atu.latch s.atu.owed) s

/-- GET-LINE-STATUS (R79). -/
def getLineStatus (scope : SiteScope) : Service :=
  match scope with
  | .site => siteLineStatus
  | .vault n => onVault n vaultLineStatus
  | .other => refuse .badField

/-- A verdict as a report carries it: by its verdict code (R215). -/
def verdictReport (v : Verdict) (number : Option Nat) : VerdictReport := { code := byteOf (verdictCode v), number := number }

/-- A reader as GET-READER-STATUS reports it (R94), its verdicts by their codes (R215). -/
def State.readerReport (s : State) (a : ReaderAddress) : ReaderReport :=
  let r := s.reader a
  let indication (i : Indication) : VerdictReport := verdictReport i.verdict i.number
  { inRound := s.enabled a.vault
    status := r.status
    misses := r.misses
    presentation := r.presentation
    waiting := r.waiting.map indication
    inFlight := r.inFlight.map indication
    lastVerdict := r.lastVerdict.map fun l => (verdictReport l.verdict l.number, l.time) }

/-- GET-READER-STATUS (R94). -/
def getReaderStatus (scope : ReaderScope) : Service := fun s =>
  match scope with
  | .all => ok (.readers (allReaders.map s.readerReport) (some s.rline.address)) s
  | .address n =>
    match allReaders.find? fun a => decide (a.number = n) with
    | none => refuse .badField s
    | some a => ok (.readers [s.readerReport a] none) s
  | .other => refuse .badField s

/-- SET-SITE-MODE (R97, R30). -/
def setSiteMode (value : Option ModeValue) : Service := fun s =>
  match value with
  | none => refuse .wrongMode s
  | some m =>
    let mode := s.modeOf m
    let auto := (storedMode m).auto
    let s := setMode mode auto s
    let s := placeOrOweConfig (s.withSite { s.cfg.site with stored := storedMode m })
    ok (.siteMode mode auto (s.nva.position .config)) s

/-- The TEST-OUTPUT command. -/
def execTestOutput (vault : Nat) (cadence : Option Cadence) (tone : Option Tone) (strobe : Option Bool)
    (seconds : Nat) : State → Host.Outcome State Fault Refusal :=
  hostRequest 20 (testOutput vault cadence tone strobe seconds)
/-- The GET-LINE-STATUS command. -/
def execGetLineStatus (scope : SiteScope) : State → Host.Outcome State Fault Refusal :=
  hostRequest 21 (getLineStatus scope)
/-- The GET-READER-STATUS command. -/
def execGetReaderStatus (scope : ReaderScope) : State → Host.Outcome State Fault Refusal :=
  hostRequest 22 (getReaderStatus scope)
/-- The SET-SITE-MODE command. -/
def execSetSiteMode (value : Option ModeValue) : State → Host.Outcome State Fault Refusal :=
  hostRequest 23 (setSiteMode value)

end Sys2Proof.Machine
end

