-- ==== Sys2Proof/Machine/LineEvents.lean ====
section
/-!
DEFINITION. The qualified changes of the lines as commands (R61, R63, R65, R68, R70).
-/

namespace Sys2Proof.Machine

/-- A qualified change of VAULT-CONTACT: to ACTIVE it is the opening, and any other is the closing
(notes/assumptions/31.md). -/
def contactChange (v : Vault) (opening : Bool) (s : State) : State :=
  if decide ((s.lineRecord v .vaultContact).candidate = some .active) = opening then takeDue (.line v .vaultContact) s
  else s

/-- The OUTER-CONTACT command (R125). -/
def execOuterContact (v : Vault) : State → Host.Outcome State Fault Refusal := event (takeDue (.line v .outerContact))
/-- The OUTER-EGRESS command (R125). -/
def execOuterEgress (v : Vault) : State → Host.Outcome State Fault Refusal := event (takeDue (.line v .outerEgress))
/-- The VAULT-CONTACT-OPEN command (R131, R132, R137). -/
def execVaultContactOpen (v : Vault) : State → Host.Outcome State Fault Refusal := event (contactChange v true)
/-- The VAULT-CONTACT-CLOSE command (R128). -/
def execVaultContactClose (v : Vault) : State → Host.Outcome State Fault Refusal := event (contactChange v false)
/-- The BOLTS-WITHDRAWN command (R127, R130, R137). -/
def execBoltsWithdrawn (v : Vault) : State → Host.Outcome State Fault Refusal := event (takeDue (.line v .boltsWithdrawn))
/-- The BOLTS-THROWN command (R127, R130). -/
def execBoltsThrown (v : Vault) : State → Host.Outcome State Fault Refusal := event (takeDue (.line v .boltsThrown))
/-- The VAULT-EGRESS command (R129, R169). -/
def execVaultEgress (v : Vault) : State → Host.Outcome State Fault Refusal := event (takeDue (.line v .vaultEgress))
/-- The DETECTOR-CHANGE command of DETECTOR-A or, where `second`, DETECTOR-B (R163, R164). -/
def execDetectorChange (v : Vault) (second : Bool) : State → Host.Outcome State Fault Refusal :=
  event (takeDue (.line v (if second then .detectorB else .detectorA)))
/-- The MANUAL-RELEASE command (R174). -/
def execManualRelease (v : Vault) : State → Host.Outcome State Fault Refusal := event (takeDue (.line v .manualRelease))
/-- The ABORT-CHANGE command (R168). -/
def execAbortChange (v : Vault) : State → Host.Outcome State Fault Refusal := event (takeDue (.line v .abort))
/-- The ISOLATE-CHANGE command (R179, R180). -/
def execIsolateChange (v : Vault) : State → Host.Outcome State Fault Refusal := event (takeDue (.line v .isolate))
/-- The DISCHARGE-CHANGE command (R175 to R178). -/
def execDischargeChange (v : Vault) : State → Host.Outcome State Fault Refusal := event (takeDue (.line v .discharge))
/-- The DURESS-BUTTON command of DURESS-VAULT or, where `vestibule`, DURESS-VESTIBULE (R61). -/
def execDuressButton (v : Vault) (vestibule : Bool) : State → Host.Outcome State Fault Refusal :=
  event (takeDue (.line v (if vestibule then .duressVestibule else .duressVault)))
/-- The CHECK-IN-BUTTON command (R152). -/
def execCheckInButton (v : Vault) : State → Host.Outcome State Fault Refusal := event (takeDue (.line v .checkIn))
/-- The SITE-LINE-CHANGE command (R70 to R72). -/
def execSiteLineChange (i : SiteLine) : State → Host.Outcome State Fault Refusal := event (takeDue (.siteLine i))
/-- The RELEASE-CIRCUIT-CHANGE command (R68). -/
def execReleaseCircuitChange (v : Vault) : State → Host.Outcome State Fault Refusal := event (takeDue (.release v))

end Sys2Proof.Machine
end

