-- ==== Sys2Proof/Machine/SuppressionRequests.lean ====
section
/-!
DEFINITION. The suppression requests (R170, R181 to R185).
-/

namespace Sys2Proof.Machine

/-- GLOBAL-HOLD (R170). -/
def globalHold (value : Option Bool) : Service := fun s =>
  match value with
  | none => refuse .badField s
  | some b => ok (.hold b s.lqu.holdAll) (recheckAllHolds { s with globalHold := b })

/-- The parameters of a request clamped (R181). -/
def clampParams (p : SuppressionWrite) (m : ResumeMode) : SuppressionSet :=
  clampSet
    { dAuto := p.dAuto, dMan := p.dMan, floor := p.floor, hMax := p.hMax, resume := m, pulse := p.pulse, soak := p.soak }

/-- The staged set of a vault differs from the committed one (R182, R183, R185). -/
def State.setsDiffer (s : State) (v : Vault) : Bool := decide (s.stagedSet v ≠ (s.sequencer v).committed)

/-- The commissioning lock stands and the mode is not MAINTENANCE (R40). -/
def State.lockedOut (s : State) : Bool := s.cfg.lock && decide (s.mode ≠ .maintenance)

/-- SET-SUPPRESSION-PARAMS (R182). -/
def setSuppressionParams (vault : Nat) (p : SuppressionWrite) : Service :=
  onVault vault fun v s =>
    match p.resume with
    | none => refuse .badField s
    | some m =>
      if s.lockedOut then refuse .locked s
      else if s.cfg.lock && s.enabled v && decide ((s.sequencer v).state ≠ .isolated) then refuse .notIsolated s
      else if s.storeBusy then refuse .storeBusy s
      else
        let set := clampParams p m
        let s' := placeConfig (s.withStaged v set)
        ok (.staged set (s'.setsDiffer v) (s'.nva.position .config)) s'

/-- A configuration write is queued or owed (R183, R209). -/
def State.configWaiting (s : State) : Bool := (s.nva.queued .config).isSome || s.nva.owed

/-- READ-SUPPRESSION-PARAMS (R183). -/
def readSuppressionParams (vault : Nat) : Service :=
  onVault vault fun v s =>
    ok (.suppressionSets (s.sequencer v).committed (s.stagedSet v) (s.setsDiffer v) s.configWaiting) s

/-- The answer to an accepted RESET-SUPPRESSION (R184). -/
def sequencerAnswer (v : Vault) (s : State) : State × Answer := ok (.sequencerState (s.sequencer v).state) s

/-- RESET-SUPPRESSION (R184). -/
def resetSuppression (vault : Nat) : Service :=
  onEnabled vault fun v s =>
    match (s.sequencer v).state with
    | .quiet => sequencerAnswer v s
    | .alert | .inhibited | .countdown | .held | .awaitClosure =>
      if !s.detecting v && s.countsNormal v .manualRelease then
        sequencerAnswer v (moveTo v { s.sequencer v with state := .quiet } s)
      else refuse .state s
    | .releasing | .verifying => refuse .state s
    | .discharged =>
      if (s.sequencer v).soak.isSome then refuse .soakActive s
      else if s.countsActive v .discharge then refuse .state s
      else sequencerAnswer v (resetDischarged v s)
    | .isolated => refuse .state s

/-- The ticks left before an ABORT hold lapses, absent with H_max 0 (R185). -/
def SsqRecord.abortLeft (q : SsqRecord) : Option Nat :=
  if q.committed.hMax = 0 then none else q.abortElapsed.map fun e => q.committed.hMax * 10 - e

/-- GET-SUPPRESSION-STATUS (R185). -/
def getSuppressionStatus (vault : Nat) : Service :=
  onVault vault fun v s =>
    let q := s.sequencer v
    ok (.sequencer q (decide (q.path = some .manual)) (q.remaining.map timed) q.abortLeft
      ([q.pulse, q.confirmWait, q.soak].map fun t => t.map timed)
      (s.releaseCircuit v)
      ([Line.detectorA, .detectorB, .manualRelease, .abort, .isolate, .discharge, .vaultContact].map fun l =>
        (s.lineRecord v l).qualified)
      s.globalHold s.lqu.holdAll s.fire (s.setsDiffer v)) s

/-- The GLOBAL-HOLD command. -/
def execGlobalHold (value : Option Bool) : State → Host.Outcome State Fault Refusal := hostRequest 32 (globalHold value)
/-- The SET-SUPPRESSION-PARAMS command. -/
def execSetSuppressionParams (vault : Nat) (p : SuppressionWrite) : State → Host.Outcome State Fault Refusal :=
  hostRequest 33 (setSuppressionParams vault p)
/-- The READ-SUPPRESSION-PARAMS command. -/
def execReadSuppressionParams (vault : Nat) : State → Host.Outcome State Fault Refusal :=
  hostRequest 34 (readSuppressionParams vault)
/-- The RESET-SUPPRESSION command. -/
def execResetSuppression (vault : Nat) : State → Host.Outcome State Fault Refusal :=
  hostRequest 35 (resetSuppression vault)
/-- The GET-SUPPRESSION-STATUS command. -/
def execGetSuppressionStatus (vault : Nat) : State → Host.Outcome State Fault Refusal :=
  hostRequest 36 (getSuppressionStatus vault)

end Sys2Proof.Machine
end

