-- ==== Sys2Proof/Machine/LinkRequests.lean ====
section
/-!
DEFINITION. The requests of the host link itself (R206 to R210).
-/

namespace Sys2Proof.Machine

/-- GET-ATTENTION (R206). -/
def getAttention : Service := fun s =>
  ok (.attention s.link.waiting s.link.enabled) (s.withLink { s.link with waiting := {} })

/-- SET-ATTENTION-ENABLE (R206). -/
def setAttentionEnable (enable : Causes) : Service := fun s =>
  ok (.attention s.link.waiting enable) (s.withLink { s.link with enabled := enable })

/-- A vault as GET-SITE-STATUS reports it (R207). -/
def State.vaultSummary (s : State) (v : Vault) : VaultSummary :=
  { enabled := s.enabled v, ssq := (s.sequencer v).state, outer := (s.door v).outer, vault := (s.door v).vault
    count := s.count v, certain := (s.occupancy v).certain, pairStands := (s.pair v).isSome }

/-- GET-SITE-STATUS (R207). -/
def getSiteStatus : Service := fun s =>
  ok (.siteStatus s.phase s.resetKind s.mode s.auto s.cal.state s.cal.instant s.tmb.source s.link.waiting
    s.link.enabled s.supply s.nva.queue.length s.nva.owed (!s.nva.damaged.isEmpty) s.cfg.lock s.nva.erase.isSome
    s.atu.table.length s.atu.overflow s.atu.latch s.atu.owed s.guardOut s.monitorOut s.fire s.globalHold s.lqu.holdAll
    (PerVault.make s.vaultSummary)) s

/-- The site input roles of a request, absent where one is not defined (R208 check 1). -/
def rolesOf (r : PerSite (Option Role)) : Option (PerSite Role) :=
  match r.s0, r.s1, r.s2, r.s3 with
  | some a, some b, some c, some d => some ⟨a, b, c, d⟩
  | _, _, _, _ => none

/-- The site group that a request gives, clamped (R208), absent where check 1 fails. -/
def siteGroupOf (w : SiteWrite) (stored : StoredMode) : Option SiteGroup :=
  if !goodBand w.bandSize ∨ Config.scheduleCount ≤ w.siteSchedule then none
  else
    (rolesOf w.roles).map fun roles => clampSite
      { failureLimit := w.failureLimit, forgiveness := w.forgiveness, bandSize := w.bandSize
        maxAttempts := w.maxAttempts, trim := w.trim, siteSchedule := w.siteSchedule, stored := stored
        pairWindow := w.pairWindow, roles := roles, tComb := w.tComb, e1 := w.e1, e2 := w.e2 }

/-- The vault group that a request gives, clamped (R208), absent where check 1 fails. -/
def vaultGroupOf (w : VaultWrite) : Option VaultGroup :=
  match w.enabled, w.pairFlag, w.allHours with
  | some e, some p, some a =>
    if Line.all.all fun l => goodClass (w.classes.get l) then
      some (clampVault
        { enabled := e, pairFlag := p, allHours := a, limit := w.limit, loneInterval := w.loneInterval
          tBolt := w.tBolt, tGrant := w.tGrant, relock := w.relock, tHeld := w.tHeld, tOuter := w.tOuter
          classes := w.classes })
    else none
  | _, _, _ => none

/-- WRITE-PARAMS of the site group (R208). -/
def writeSite (w : SiteWrite) : Service := fun s =>
  match siteGroupOf w s.cfg.site.stored with
  | none => refuse .badField s
  | some g =>
    if s.lockedOut && decide (g.bandSize ≠ s.cfg.site.bandSize) then refuse .locked s
    else if s.storeBusy then refuse .storeBusy s
    else
      let s' := placeConfig (applySite g s)
      ok (.siteWritten g (s'.nva.position .config)) s'

/-- WRITE-PARAMS of a vault group (R208). -/
def writeVault (v : Vault) (w : VaultWrite) : Service := fun s =>
  match vaultGroupOf w with
  | none => refuse .badField s
  | some g =>
    if s.lockedOut && (decide (g.enabled ≠ s.enabled v) || decide (g.classes ≠ (s.group v).classes)) then
      refuse .locked s
    else if g.limit < s.load v then refuse .inUse s
    else if s.storeBusy then refuse .storeBusy s
    else
      let s' := placeConfig (applyVault v g s)
      ok (.vaultWritten g (s'.nva.position .config)) s'

/-- WRITE-PARAMS (R208). -/
def writeParams (group : GroupWrite) : Service :=
  match group with
  | .site w => writeSite w
  | .vault n w => onVault n fun v => writeVault v w
  | .other => refuse .badField

/-- READ-PARAMS (R209). -/
def readParams (group : SiteScope) : Service :=
  match group with
  | .site => fun s =>
    ok (.siteParams s.cfg.site s.configWaiting (decide (Target.config ∈ s.nva.damaged)) s.cfg.lock) s
  | .vault n => onVault n fun v s =>
    ok (.vaultParams (s.group v) s.configWaiting (decide (Target.config ∈ s.nva.damaged)) s.cfg.lock) s
  | .other => refuse .badField

/-- RESTART (R210): the reset is arranged for the end of the transaction that reads the response. -/
def restart : Service := fun s => ok .empty (s.withLink { s.link with restartArranged := true })

/-- GET-RESET-CAUSE (R210). -/
def getResetCause : Service := fun s => ok (.resetCause s.resetKind s.phase) s

/-- The GET-ATTENTION command. -/
def execGetAttention : State → Host.Outcome State Fault Refusal := hostRequest 41 getAttention
/-- The SET-ATTENTION-ENABLE command. -/
def execSetAttentionEnable (enable : Causes) : State → Host.Outcome State Fault Refusal :=
  hostRequest 42 (setAttentionEnable enable)
/-- The GET-SITE-STATUS command. -/
def execGetSiteStatus : State → Host.Outcome State Fault Refusal := hostRequest 43 getSiteStatus
/-- The WRITE-PARAMS command. -/
def execWriteParams (group : GroupWrite) : State → Host.Outcome State Fault Refusal := hostRequest 44 (writeParams group)
/-- The READ-PARAMS command. -/
def execReadParams (group : SiteScope) : State → Host.Outcome State Fault Refusal := hostRequest 45 (readParams group)
/-- The RESTART command. -/
def execRestart : State → Host.Outcome State Fault Refusal := hostRequest 46 restart
/-- The GET-RESET-CAUSE command. -/
def execGetResetCause : State → Host.Outcome State Fault Refusal := hostRequest 47 getResetCause

end Sys2Proof.Machine
end

