-- ==== Sys2Proof/Machine/OccupancyRequests.lean ====
section
/-!
DEFINITION. The occupancy requests (R153, R156, R158, R159).
-/

namespace Sys2Proof.Machine

/-- An entry as LIST-OCCUPANTS reports it (R156). -/
def Occupant.report (e : Occupant) : OccupantReport :=
  { entry := e, checkIn := e.checkIn.map timed, escortLeft := e.wanted && e.link.isNone, loneWorker := e.overdue }

/-- LIST-OCCUPANTS (R156). -/
def listOccupants (vault : Nat) : Service :=
  onVault vault fun v s =>
    let o := s.occupancy v
    ok (.occupants (o.entries.map Occupant.report) (s.count v) (s.load v) (s.group v).limit o.certain (s.loneApplies v)
      (s.claimSet v).chirp (o.entries.filter Occupant.underDuress).length s.siteCount s.siteLoad) s

/-- The number stands in a register, an entering list or as the first of a pair (R158 check 3). -/
def State.placed (s : State) (number : Nat) : Bool := s.passback number none

/-- ADD-OCCUPANT accepted (R158). -/
def addOccupant (v : Vault) (number : Nat) (link : Option Nat) (s : State) : State :=
  reporting v (fun s =>
    settleRegister v [number]
      (addOccupants v [{ number := number, duress := false, link := link }] s.cal.instant s)) s

/-- ADD-OCCUPANT (R158). -/
def addOccupantRequest (vault number : Nat) (link : Option Nat) : Service :=
  onVault vault fun v s =>
    if badNumber number || link.any badNumber || decide (link = some number) then refuse .badField s
    else if !s.enabled v then refuse .state s
    else if s.placed number then refuse .duplicate s
    else if s.noRoom v 1 then refuseFor .full s
    else if link.any fun k => !s.inside v k then refuse .notFound s
    else
      let s' := addOccupant v number link s
      ok (.occupantAdded ((s'.occupancy v).entries.find? fun e => decide (e.number = number)) (s'.count v)) s'

/-- A number removed from the register by the host (R159). -/
def dropOccupant (v : Vault) (number : Nat) (s : State) : State :=
  reporting v (fun s => settleRegister v [] (removeOccupant v s number)) s

/-- REMOVE-OCCUPANT (R159). -/
def removeOccupantRequest (number : Nat) : Service := fun s =>
  if badNumber number then refuse .badField s
  else
    match s.vaultOf number with
    | none => refuse .notFound s
    | some v =>
      let s' := dropOccupant v number s
      ok (.occupantRemoved v (s'.count v)) s'

/-- CONFIRM-OCCUPANCY (R153). -/
def confirmOccupancy (vault : Nat) : Service :=
  onEnabled vault fun v s =>
    if s.countsActive v .vaultContact then refuse .state s
    else
      let s' := reporting v (setCertain v true) s
      ok (.occupancy (s'.count v) (s'.occupancy v).certain) s'

/-- The LIST-OCCUPANTS command. -/
def execListOccupants (vault : Nat) : State → Host.Outcome State Fault Refusal := hostRequest 28 (listOccupants vault)
/-- The ADD-OCCUPANT command. -/
def execAddOccupant (vault number : Nat) (link : Option Nat) : State → Host.Outcome State Fault Refusal :=
  hostRequest 29 (addOccupantRequest vault number link)
/-- The REMOVE-OCCUPANT command. -/
def execRemoveOccupant (number : Nat) : State → Host.Outcome State Fault Refusal :=
  hostRequest 30 (removeOccupantRequest number)
/-- The CONFIRM-OCCUPANCY command. -/
def execConfirmOccupancy (vault : Nat) : State → Host.Outcome State Fault Refusal :=
  hostRequest 31 (confirmOccupancy vault)

end Sys2Proof.Machine
end

