-- ==== Sys2Proof/Machine/Resets.lean ====
section
/-!
DEFINITION. The reset kinds and the end of a reset (R25, R34, R37, R47, R50, R60, R69, R95, R101, R122, R143, R160, R186,
R202, R203, R206, R210, R211).
-/

namespace Sys2Proof.Machine

/-- The recorded kind when a cause arrives while a reset is held: the one that stands earlier in the order of R210. -/
def earlierKind (a b : ResetKind) : ResetKind := if resetKindCode a ≤ resetKindCode b then a else b

/-- The volatile state of every block after a reset begins. The array, the supply level and the calendar's instant and
state stand as they are (R37, R50). Before the configuration read the owners' values are the defaults
(DESIGN CHOICE, notes/assumptions/10.md). -/
def clearVolatile (s : State) : State :=
  { s with
    phase := .reset
    scanPos := 0
    link := resetLink
    nva := resetNva
    index := []
    failures := []
    cfg := defaultConfig false
    tmb := resetTmb
    cal := { s.cal with schedules := [], holidays := [] }
    lqu := resetLqu
    lines := PerVault.replicate resetLines
    claims := PerVault.replicate noClaims
    readers := PerVault.replicate resetReaders
    rline := resetReaderLine
    mode := .afterHours
    auto := true
    pairs := PerVault.replicate none
    doors := PerVault.replicate resetDoor
    occ := PerVault.replicate resetOccupancy
    ssq := PerVault.replicate (resetSsq defaultSuppression)
    globalHold := false
    atu := resetAtu
    due := [] }

/-- A reset of a kind begins, or a cause arrives while one is held and extends it (R210). -/
def beginReset (kind : ResetKind) (s : State) : State :=
  if s.phase = .reset then { s with resetKind := earlierKind kind s.resetKind }
  else { clearVolatile (tearAttempt s) with resetKind := kind }

/-- A command that begins a reset. Earlier events of the last tick are taken first (notes/assumptions/2.md). -/
def resetCommand (kind : ResetKind) (s : State) : Host.Outcome State Fault Refusal := .next (beginReset kind (settle s))

/-- The calendar that a reset of a kind leaves (R50). -/
def calendarAfter (kind : ResetKind) (c : Cal) : Cal :=
  match kind with
  | .powerOn | .supply => { c with instant := zeroInstant, state := .unsynchronised }
  | .resetLine | .restart => c

/-- The end of a reset (R34, R202, R211): SCANNING begins, and the RESTART record takes id 1 with the calendar instant
that the reset left. The pending set is {MODE} (R206; DEDUCED, notes/assumptions/30.md). -/
def endReset (good : Bool) (s : State) : State :=
  if s.phase = .reset then
    let cal := calendarAfter s.resetKind s.cal
    { s with
      phase := .scanning
      supply := if good then .good else .writeLow
      cal := cal
      atu := { s.atu with
        table := [restartRecord s.resetKind
          { day := cal.instant.day, minute := cal.instant.minute, second := cal.instant.second }]
        counter := 2 } }
  else s

/-- The POWER-ON-RESET command. -/
def execPowerOnReset : State → Host.Outcome State Fault Refusal := resetCommand .powerOn
/-- The SUPPLY-RESET command. -/
def execSupplyReset : State → Host.Outcome State Fault Refusal := resetCommand .supply
/-- The RESET-LINE-RESET command. -/
def execResetLineReset : State → Host.Outcome State Fault Refusal := resetCommand .resetLine
/-- The END-OF-RESET command; while no reset is held it has no effect (notes/assumptions/3.md). -/
def execEndOfReset (supplyGood : Bool) (s : State) : Host.Outcome State Fault Refusal :=
  .next (endReset supplyGood (settle s))

end Sys2Proof.Machine
end

