-- ==== Sys2Proof/Machine/StoreRequests.lean ====
section
/-!
DEFINITION. The store requests (R36, R40, R41) and the calendar and schedule requests (R51, R52, R54, R56).
-/

namespace Sys2Proof.Machine

/-- An entry of the queue as STORE-STATUS reports it (R36). -/
def State.entryReport (s : State) (e : QueueEntry) : Target × Nat × Bool :=
  (e.image.target, e.attempts,
    s.nva.erase.isNone && (match s.nva.inFlight with
      | none => false
      | some a => decide (a.image.target = e.image.target)))

/-- STORE-STATUS (R36). -/
def storeStatus : Service := fun s =>
  ok (.store (s.nva.queue.map s.entryReport) (Config.hostPlaces - s.nva.queue.length) s.supply s.cfg.site.maxAttempts
    s.nva.owed s.nva.damaged s.cfg.lock (s.nva.erase.map fun e => Config.targetCount - e.next)) s

/-- SET-COMMISSIONING-LOCK (R40). -/
def setCommissioningLock : Service := fun s =>
  if s.cfg.lock then ok (.position 0) s
  else if s.storeBusy then refuse .storeBusy s
  else
    let s' := placeConfig { s with cfg := { s.cfg with lock := true } }
    ok (.position (s'.nva.position .config)) s'

/-- The SSQ of some enabled vault is not ISOLATED (R41 check 3). -/
def State.notIsolated (s : State) : Bool :=
  Vault.all.any fun v => s.enabled v && decide ((s.sequencer v).state ≠ .isolated)

/-- What ERASE-ALL does at its acceptance (R41). A queue that its discarding makes empty sets no STORE cause, since no entry
settled or was damaged (DESIGN CHOICE, notes/assumptions/35.md). -/
def eraseSite (s : State) : State :=
  let s := applyConfig erasedConfig s
  startAttempt { s with
    index := []
    failures := []
    cal := { s.cal with schedules := [], holidays := [] }
    nva :=
      { queue := []
        inFlight := s.nva.inFlight.map fun a => { a with discard := true }
        owed := false
        damaged := []
        damagedSlots := []
        unsettled := s.nva.unsettled
        erase := some { next := 0, attempts := 0 } } }

/-- ERASE-ALL (R41). -/
def eraseAll : Service := fun s =>
  if s.mode ≠ .maintenance then refuse .wrongMode s
  else if s.nva.erase.isSome then refuse .state s
  else if s.notIsolated then refuse .notIsolated s
  else if s.anyInUse then refuse .inUse s
  else ok .empty (eraseSite s)

/-- SET-TIME (R49, R51, R59). -/
def setTime (day minute second : Nat) : Service := fun s =>
  if Config.lastDay < day ∨ 1439 < minute ∨ 59 < second then refuse .badField s
  else
    let state := setTimeState s.tmb
    ok (.calendarState state) (evaluateMode (causeClock { s with
      cal := { s.cal with
        instant := { day := day, minute := minute, second := second, tick := 0 }
        state := state } }))

/-- GET-TIME (R52). -/
def getTime : Service := fun s =>
  ok (.time s.cal.instant (weekdayIndex s.cal.instant.day) (dayType s.cal.holidays s.cal.instant.day) s.cal.state
    s.tmb.source s.cfg.site.trim) s

/-- WRITE-HOLIDAYS (R54). -/
def writeHolidays (days : List Nat) : Service := fun s =>
  if 24 < days.length ∨ days.any (fun d => decide (Config.lastDay < d)) then refuse .badField s
  else if !ascending days then refuse .badField s
  else if s.storeBusy then refuse .storeBusy s
  else
    let s' := place (.holidays days) { s with cal := { s.cal with holidays := days } }
    ok (.position (s'.nva.position .holidays)) s'

/-- READ-HOLIDAYS (R54). -/
def readHolidays : Service := fun s =>
  ok (.holidays s.cal.holidays (s.nva.queued .holidays).isSome (decide (Target.holidays ∈ s.nva.damaged))) s

/-- WRITE-SCHEDULE (R56). -/
def writeSchedule (schedule : Nat) (windows : List Window) : Service := fun s =>
  if Config.scheduleCount ≤ schedule then refuse .badField s
  else if 4 < windows.length then refuse .badField s
  else if !windows.all goodWindow then refuse .badField s
  else if s.storeBusy then refuse .storeBusy s
  else
    let s' := place (.schedule schedule windows) { s with cal := s.cal.setSchedule schedule windows }
    ok (.position (s'.nva.position (.schedule schedule))) s'

/-- READ-SCHEDULE (R56). -/
def readSchedule (schedule : Nat) : Service := fun s =>
  if Config.scheduleCount ≤ schedule then refuse .badField s
  else ok (.schedule (s.cal.windows schedule) (s.nva.queued (.schedule schedule)).isSome
    (decide (Target.schedule schedule ∈ s.nva.damaged))) s

/-- The STORE-STATUS command. -/
def execStoreStatus : State → Host.Outcome State Fault Refusal := hostRequest 11 storeStatus
/-- The SET-COMMISSIONING-LOCK command. -/
def execSetCommissioningLock : State → Host.Outcome State Fault Refusal := hostRequest 12 setCommissioningLock
/-- The ERASE-ALL command. -/
def execEraseAll : State → Host.Outcome State Fault Refusal := hostRequest 13 eraseAll
/-- The SET-TIME command. -/
def execSetTime (day minute second : Nat) : State → Host.Outcome State Fault Refusal :=
  hostRequest 14 (setTime day minute second)
/-- The GET-TIME command. -/
def execGetTime : State → Host.Outcome State Fault Refusal := hostRequest 15 getTime
/-- The WRITE-HOLIDAYS command. -/
def execWriteHolidays (days : List Nat) : State → Host.Outcome State Fault Refusal := hostRequest 16 (writeHolidays days)
/-- The READ-HOLIDAYS command. -/
def execReadHolidays : State → Host.Outcome State Fault Refusal := hostRequest 17 readHolidays
/-- The WRITE-SCHEDULE command. -/
def execWriteSchedule (schedule : Nat) (windows : List Window) : State → Host.Outcome State Fault Refusal :=
  hostRequest 18 (writeSchedule schedule windows)
/-- The READ-SCHEDULE command. -/
def execReadSchedule (schedule : Nat) : State → Host.Outcome State Fault Refusal := hostRequest 19 (readSchedule schedule)

end Sys2Proof.Machine
end

