-- ==== Sys2Proof/Machine/LinkPort.lean ====
section
/-!
DEFINITION. The Link Port's transactions and the completion of processing (R203 to R205, R210, R212).
-/

namespace Sys2Proof.Machine

/-! ## Frames -/

/-- The request of a code and a body (R204 check 6): absent where the body is not of the length that the request's
fields take. -/
def requestOfBody (code : Nat) (body : List Byte) : Option Instr :=
  match fieldlessRequest code with
  | some i => if body = [] then some i else none
  | none => (Config.requestOf code body).filter fun i => decide (requestCode i = some code)

/-- Checks 1 to 6 of R204 on the bytes received: the status of the first that fails, or the code and the request. -/
def frameRequest (frame : List Byte) : Except Status (Nat × Instr) :=
  let code := (frame.getD 1 0).toNat
  let n := (frame.getD 3 0).toNat
  if frame.length < 6 then .error .badFrame
  else if 240 < n then .error .badLength
  else if frame.length < 6 + n then .error .badFrame
  else if (crc16 (frame.take (4 + n))).toNat ≠ num2 (frame.getD (4 + n) 0) (frame.getD (5 + n) 0) then .error .badFrame
  else if code = 0 ∨ 47 < code then .error .unknownRequest
  else
    match requestOfBody code ((frame.drop 4).take n) with
    | none => .error .badLength
    | some i => .ok (code, i)

/-- What the owner of a request does with it; a command that is no host request has no owner. -/
def ownerOf : Instr → Option Service
  | .lookupCredential number => some (lookupCredential number)
  | .readSlot slot => some (readSlot slot)
  | .writeCredential w => some (writeCredential w)
  | .grantVaults number vaults => some (grantVaults number vaults)
  | .revokeVaults number vaults => some (revokeVaults number vaults)
  | .suspend number => some (suspend number)
  | .reinstate number => some (reinstate number)
  | .retire number => some (retire number)
  | .purge slot => some (purge slot)
  | .findFreeSlot => some findFreeSlot
  | .storeStatus => some storeStatus
  | .setCommissioningLock => some setCommissioningLock
  | .eraseAll => some eraseAll
  | .setTime day minute second => some (setTime day minute second)
  | .getTime => some getTime
  | .writeHolidays days => some (writeHolidays days)
  | .readHolidays => some readHolidays
  | .writeSchedule schedule windows => some (writeSchedule schedule windows)
  | .readSchedule schedule => some (readSchedule schedule)
  | .testOutput vault cadence tone strobe seconds => some (testOutput vault cadence tone strobe seconds)
  | .getLineStatus scope => some (getLineStatus scope)
  | .getReaderStatus scope => some (getReaderStatus scope)
  | .setSiteMode value => some (setSiteMode value)
  | .releaseDoor vault door entering => some (releaseDoor vault door entering)
  | .secureDoor vault door => some (secureDoor vault door)
  | .holdDoor vault door seconds => some (holdDoor vault door seconds)
  | .getDoorStatus vault => some (getDoorStatus vault)
  | .listOccupants vault => some (listOccupants vault)
  | .addOccupant vault number link => some (addOccupantRequest vault number link)
  | .removeOccupant number => some (removeOccupantRequest number)
  | .confirmOccupancy vault => some (confirmOccupancy vault)
  | .globalHold value => some (globalHold value)
  | .setSuppressionParams vault params => some (setSuppressionParams vault params)
  | .readSuppressionParams vault => some (readSuppressionParams vault)
  | .resetSuppression vault => some (resetSuppression vault)
  | .getSuppressionStatus vault => some (getSuppressionStatus vault)
  | .ackAlarm id => some (ackAlarm id)
  | .clearAlarm id => some (clearAlarm id)
  | .listAlarms start filter => some (listAlarms start filter)
  | .readAlarm id => some (readAlarm id)
  | .getAttention => some getAttention
  | .setAttentionEnable enable => some (setAttentionEnable enable)
  | .getSiteStatus => some getSiteStatus
  | .writeParams group => some (writeParams group)
  | .readParams group => some (readParams group)
  | .restart => some restart
  | .getResetCause => some getResetCause
  | _ => none

/-- The bytes of a response body: none, the verdict code of a reason (R204, R215), or the uninterpreted bytes of an
accepted request's body (notes/assumptions/5.md), which a frame holds to 240 (R212). -/
def bodyBytes : Body → List Byte
  | .empty => []
  | .reason v => [byteOf (verdictCode v)]
  | b => (Config.bodyBytes b).take 240

/-- The frame of a response (R212). -/
def responseFrame (r : Response) : List Byte :=
  let body := bodyBytes r.body
  let head := [0xA5#8, byteOf r.code, r.tag, byteOf (statusCode r.status + 128 * bit r.overrun), byteOf body.length] ++ body
  head ++ bytes2 (crc16 head).toNat

/-! ## Transactions -/

/-- The unread response that a RESPONSE transaction returns (R203). -/
def Link.unread (l : Link) : Option Response := if l.processing ∨ l.read then none else l.response

/-- The bytes a RESPONSE transaction returns from its second byte on (R203). -/
def Link.returned (l : Link) (count : Nat) : List Byte :=
  if l.processing then List.replicate count 0#8
  else
    match l.unread with
    | none => List.replicate count 0xFF#8
    | some r => (responseFrame r ++ List.replicate count 0xFF#8).take count

/-- A transaction of a number of bytes clocks out the whole of the frame held unread (R203). -/
def Link.readsWhole (l : Link) (clocked : Nat) : Bool :=
  match l.unread with
  | none => false
  | some r => decide ((responseFrame r).length + 1 ≤ clocked)

/-- The link record at the end of a REQUEST transaction (R203, R205). -/
def Link.receive (l : Link) (frame : List Byte) : Link :=
  let out := List.replicate frame.length 0xFF#8
  if l.processing then { l with overrun := true, dataOut := out }
  else
    { l with
      request := some frame
      processing := true
      response := if l.read then l.response else none
      dataOut := out }

/-- The end of a REQUEST transaction (R203); a RESTART that is arranged begins here, and the transaction is lost with the
reset (R210). -/
def requestTransaction (rest : List Byte) (s : State) : State :=
  if s.link.restartArranged then beginReset .restart s else s.withLink (s.link.receive (0xA5#8 :: rest))

/-- A RESPONSE transaction of a number of bytes (R203); a RESTART that is arranged begins at the end of the one that reads
the response whole (R210). -/
def responseTransaction (clocked : Nat) (s : State) : State :=
  let whole := s.link.readsWhole clocked
  let s' := s.withLink { s.link with
    read := s.link.read || whole
    dataOut := ((0xFF#8 :: s.link.returned (clocked - 1)).take clocked) }
  if s.link.restartArranged ∧ whole then beginReset .restart s' else s'

/-- A transaction that opens with neither start byte (R203). One that does is no such event (notes/assumptions/3.md). -/
def ignoredTransaction (first : Byte) (clocked : Nat) (s : State) : State :=
  if first = 0xA5#8 ∨ first = 0x5A#8 then s
  else s.withLink { s.link with dataOut := List.replicate clocked 0xFF#8 }

/-- The completion of processing (R203, R204). -/
def completeProcessing (s : State) : State :=
  match s.link.processing, s.link.request with
  | true, some frame =>
    match frameRequest frame with
    | .error status =>
      holdResponse (frame.getD 1 0).toNat s.link.tag { status := status, body := .empty } s
    | .ok (code, i) =>
      match ownerOf i with
      | none => s
      | some f => acceptRequest code f s
  | _, _ => s

/-- The REQUEST-TRANSACTION command. -/
def execRequestTransaction (rest : List Byte) : State → Host.Outcome State Fault Refusal :=
  settledEvent (requestTransaction rest)
/-- The RESPONSE-TRANSACTION command. -/
def execResponseTransaction (clocked : Nat) : State → Host.Outcome State Fault Refusal :=
  settledEvent (responseTransaction clocked)
/-- The IGNORED-TRANSACTION command. -/
def execIgnoredTransaction (first : Byte) (clocked : Nat) : State → Host.Outcome State Fault Refusal :=
  settledEvent (ignoredTransaction first clocked)
/-- The COMPLETION-OF-PROCESSING command. -/
def execCompletionOfProcessing : State → Host.Outcome State Fault Refusal := settledEvent completeProcessing

end Sys2Proof.Machine
end

