-- ==== Sys2Proof/Machine/ReaderEvents.lean ====
section
/-!
DEFINITION. The reader line as commands (the table of R82, R84).
-/

namespace Sys2Proof.Machine

/-- An event of the reader line acts in one phase of the line; in any other it has not come about
(notes/assumptions/3.md). -/
def inLinePhase (p : LinePhase) (f : State → State) (s : State) : State := if s.rline.phase = p then f s else s

/-- The line goes on to the next phase of its transaction (R82). -/
def linePhase (p : LinePhase) (s : State) : State := s.withReaderLine { s.rline with phase := p }

/-- The POLL-TRANSACTION-START command (R81, R83): the settling time has passed. -/
def execPollTransactionStart : State → Host.Outcome State Fault Refusal :=
  settledEvent (inLinePhase .settling beginTransaction)
/-- The REPLY-WINDOW-OPEN command (R82): the last byte of the part's frame has been sent. -/
def execReplyWindowOpen : State → Host.Outcome State Fault Refusal :=
  settledEvent (inLinePhase .partFrame (linePhase .window))
/-- The READER-REPLY-BEGUN command (R82): a byte starts within the window. -/
def execReaderReplyBegun : State → Host.Outcome State Fault Refusal :=
  settledEvent (inLinePhase .window (linePhase .reply))
/-- The REPLY-WINDOW-EXPIRY command (R82, R85, R92). -/
def execReplyWindowExpiry : State → Host.Outcome State Fault Refusal :=
  settledEvent (inLinePhase .window transactionMissed)
/-- The READER-REPLY-COMPLETE command with the bytes of the reply (R82, R84). -/
def execReaderReplyComplete (bytes : List Byte) : State → Host.Outcome State Fault Refusal :=
  settledEvent (inLinePhase .reply (transactionReplied bytes))

end Sys2Proof.Machine
end

