-- ==== Sys2Proof/Machine/Scan.lean ====
section
/-!
DEFINITION. The start-up integrity scan (R38, R39, R211): the configuration read, the further reads and the scan end.
-/

namespace Sys2Proof.Machine

/-! ## The configuration read -/

/-- The structural values of a configuration block lie in their ranges (R38): the band size, the site schedule number and
the line classes. -/
def structured (b : ConfigBlock) : Bool :=
  goodBand b.site.bandSize && decide (b.site.siteSchedule < Config.scheduleCount)
    && Vault.all.all fun v => Line.all.all fun l => goodClass ((b.vaults.get v).classes.get l)

/-- A configuration block with its timing values clamped (R38). -/
def clampConfig (b : ConfigBlock) : ConfigBlock :=
  { b with
    site := clampSite b.site
    vaults := PerVault.make fun v => clampVault (b.vaults.get v)
    suppression := PerVault.make fun v => clampSet (b.suppression.get v) }

/-- The configuration that a stored cell gives, absent where its check or its structure fails (R38). -/
def cellConfig : Cell ConfigBlock → Option ConfigBlock
  | .checkFails => none
  | .content b => if structured b then some (clampConfig b) else none

/-- The site mode record at the configuration read (R101): MODE is set where it changes (R98). The stored record in force
becomes the one resumed, so that the next configuration write carries it (R27); the array is not rewritten. -/
def resumeMode (s : State) : State :=
  let m := resumedMode s.cfg.site.stored
  let s := s.withSite { s.cfg.site with stored := m }
  if s.mode = m.mode ∧ s.auto = m.auto then s else causeMode { s with mode := m.mode, auto := m.auto }

/-- The blocks of a vault begin with the values read (R143, R160, R186): a vault that is not enabled becomes CERTAIN,
the occupancy state of every vault is reported, and the doors of an enabled vault begin. -/
def beginVault (v : Vault) (s : State) : State :=
  let s := s.withSequencer v { s.sequencer v with committed := s.stagedSet v }
  let s := if s.enabled v then s else causeOccupancy (setCertain v true s)
  let s := occupancyReported v s
  if s.enabled v then beginDoors v s else s

/-- The owners receive a configuration and begin their work (R38, R81, R101, R143, R160, R186, R195). -/
def giveConfig (b : ConfigBlock) (s : State) : State :=
  beginTransaction (eachVault beginVault (resumeMode { s with cfg := b }))

/-- The first read of the scan (R38): a block that fails gives the default configuration with the lock set. -/
def readConfiguration (s : State) : State :=
  if s.phase = .scanning ∧ s.scanPos = 0 then
    let s' := { s with scanPos := 1 }
    match cellConfig s.array.config with
    | some b => giveConfig b s'
    | none => giveConfig (defaultConfig true) (damage .config none s')
  else s

/-! ## The further reads -/

/-- The reading of the holiday list (R38, R60). -/
def readHolidayTarget (s : State) : State :=
  match s.array.holidays with
  | .content d =>
    if ascending d then s.withCal { s.cal with holidays := d }
    else damage .holidays none (s.withCal { s.cal with holidays := [] })
  | .checkFails => damage .holidays none (s.withCal { s.cal with holidays := [] })

/-- The reading of a schedule record (R38, R60). -/
def readScheduleTarget (n : Nat) (s : State) : State :=
  match cellWindows (s.array.scheduleCell n) with
  | some w => s.withCal (s.cal.setSchedule n w)
  | none => damage (.schedule n) none (s.withCal (s.cal.setSchedule n []))

/-- A slot below another holds its number, as the scan has left the slots read before it (R39). -/
def State.heldBelow (s : State) (number slot : Nat) : Bool :=
  s.array.slots.any fun e =>
    decide (e.1 < slot) && !decide (e.1 ∈ s.nva.damagedSlots)
      && (match cellRecord e.2 with
          | some (some r) => decide (r.number = number)
          | _ => false)

/-- The reading of a credential slot (R38, R39). -/
def readSlotTarget (n : Nat) (s : State) : State :=
  match cellRecord (s.array.slotCell n) with
  | none => damage (.slot n) none s
  | some none => s
  | some (some r) => if s.heldBelow r.number n then damage (.slot n) none s else s

/-- The number index built from the slots as the scan left them (R5, R25, R39). -/
def State.builtIndex (s : State) : List (Nat × Nat) :=
  s.array.slots.foldl (fun index e =>
    if e.1 ∈ s.nva.damagedSlots then index
    else
      match cellRecord e.2 with
      | some (some r) => insertAt r.number e.1 index
      | _ => index) []

/-- The scan end (R39, R59, R211). -/
def endScan (s : State) : State := startAttempt (evaluateMode { s with index := s.builtIndex, phase := .running })

/-- What the read of a target of the scan does: the holiday list at position 1, then the schedule records, then the slots
(R38). -/
def readTarget (k : Nat) (s : State) : State :=
  if k = 1 then readHolidayTarget s
  else if k < 2 + Config.scheduleCount then readScheduleTarget (k - 2) s
  else readSlotTarget (k - 2 - Config.scheduleCount) s

/-- A read of the scan after the first; the last one ends it. -/
def readNext (s : State) : State :=
  if s.phase = .scanning ∧ 0 < s.scanPos ∧ s.scanPos < Config.targetCount then
    let s' := { readTarget s.scanPos s with scanPos := s.scanPos + 1 }
    if s'.scanPos = Config.targetCount then endScan s' else s'
  else s

/-- The CONFIGURATION-READ command. -/
def execConfigurationRead : State → Host.Outcome State Fault Refusal := settledEvent readConfiguration
/-- The SCAN-TARGET-READ command. -/
def execScanTargetRead : State → Host.Outcome State Fault Refusal := settledEvent readNext

end Sys2Proof.Machine
end

