-- ==== Sys2Proof/Machine/SupplyEvents.lean ====
section
/-!
DEFINITION. The supply level and the programming attempts as commands (R31, R34, R35).
-/

namespace Sys2Proof.Machine

/-- WRITE-LOW (R34, R35): an attempt in flight will fail its verify. -/
def writeLow (s : State) : State :=
  if s.supply = .good then
    { s with
      supply := .writeLow
      nva := { s.nva with inFlight := s.nva.inFlight.map fun a => { a with spoiled := true } } }
  else s

/-- SUPPLY-GOOD (R34, R35): the next attempt starts. -/
def supplyReturned (s : State) : State := if s.supply = .writeLow then startAttempt { s with supply := .good } else s

/-- The WRITE-LOW command. -/
def execWriteLow : State → Host.Outcome State Fault Refusal := settledEvent writeLow
/-- The SUPPLY-GOOD command. -/
def execSupplyGood : State → Host.Outcome State Fault Refusal := settledEvent supplyReturned
/-- The ATTEMPT-COMPLETION command (R31, R32, R33, R42). -/
def execAttemptCompletion (outcome : AttemptOutcome) : State → Host.Outcome State Fault Refusal :=
  settledEvent (attemptCompleted outcome)

end Sys2Proof.Machine
end

