-- ==== Sys2Proof/Machine/TimeEvents.lean ====
section
/-!
DEFINITION. The tick event, the minute event and the events of the time reference as commands (R43 to R48).
-/

namespace Sys2Proof.Machine

/-- A gap of 1 ms in the reference (the table of R46): on RC with no return pending it only restarts the count of good
cycles, which the model does not hold (notes/assumptions/23.md). -/
def referenceGap (s : State) : State :=
  match s.tmb.source with
  | .reference | .rcReturnPending => referenceLost s
  | .rc => s

/-- 4,096 cycles of the reference without a gap (the table of R46). -/
def referenceGood (s : State) : State :=
  match s.tmb.source with
  | .rc => referenceReturned s
  | .reference | .rcReturnPending => s

/-- The TICK-EVENT command (R43, R62). -/
def execTickEvent (readings : Readings) : State → Host.Outcome State Fault Refusal := settledEvent (tickOnce readings)
/-- The REFERENCE-LOST command (R45). -/
def execReferenceLost : State → Host.Outcome State Fault Refusal := settledEvent referenceGap
/-- The START-UP-REFERENCE-TIMEOUT command (R47). -/
def execStartUpReferenceTimeout : State → Host.Outcome State Fault Refusal := event (takeDue .startUpTimeout)
/-- The REFERENCE-RETURNED command (R46). -/
def execReferenceReturned : State → Host.Outcome State Fault Refusal := settledEvent referenceGood
/-- The MINUTE-EVENT command (R48). -/
def execMinuteEvent : State → Host.Outcome State Fault Refusal := event (takeDue .minute)

end Sys2Proof.Machine
end

