-- ==== Sys2Proof/Machine/TimerEvents.lean ====
section
/-!
DEFINITION. The timers that reach their end, as commands.
-/

namespace Sys2Proof.Machine

/-- The EVACUATION-COMBINATION-COMPLETION command (R72, R73, R199). -/
def execEvacuationCombinationCompletion : State → Host.Outcome State Fault Refusal := event (takeDue .evacuation)
/-- The TEST-CLAIM-EXPIRY command (R78). -/
def execTestClaimExpiry (v : Vault) : State → Host.Outcome State Fault Refusal := event (takeDue (.testClaim v))
/-- The PAIR-WINDOW-EXPIRY command (R110). -/
def execPairWindowExpiry (v : Vault) : State → Host.Outcome State Fault Refusal := event (takeDue (.pairWindow v))
/-- The OUTER-GRANT-LAPSE command (R125). -/
def execOuterGrantLapse (v : Vault) : State → Host.Outcome State Fault Refusal := event (takeDue (.outerGrant v))
/-- The VAULT-GRANT-LAPSE command (R128). -/
def execVaultGrantLapse (v : Vault) : State → Host.Outcome State Fault Refusal := event (takeDue (.vaultGrant v))
/-- The EGRESS-RELEASE-LAPSE command (R128, R169). -/
def execEgressReleaseLapse (v : Vault) : State → Host.Outcome State Fault Refusal := event (takeDue (.egressRelease v))
/-- The TRAVEL-TIMER-EXPIRY command (R130, R137). -/
def execTravelTimerExpiry (v : Vault) : State → Host.Outcome State Fault Refusal := event (takeDue (.travel v))
/-- The RELOCK-TIMER-EXPIRY command (R128). -/
def execRelockTimerExpiry (v : Vault) : State → Host.Outcome State Fault Refusal := event (takeDue (.relock v))
/-- The HELD-TIMER-EXPIRY command (R133). -/
def execHeldTimerExpiry (v : Vault) (door : Door) : State → Host.Outcome State Fault Refusal :=
  event (takeDue (.held v door))
/-- The LONE-WORKER-CHIRP command (R151). -/
def execLoneWorkerChirp (v : Vault) : State → Host.Outcome State Fault Refusal := event (takeDue (.chirp v))
/-- The LONE-WORKER-EXPIRY command (R151). -/
def execLoneWorkerExpiry (v : Vault) : State → Host.Outcome State Fault Refusal := event (takeDue (.loneWorker v))
/-- The COUNTDOWN-EXPIRY command (R172, R175). -/
def execCountdownExpiry (v : Vault) : State → Host.Outcome State Fault Refusal := event (takeDue (.countdown v))
/-- The ABORT-HOLD-LAPSE command (R168). -/
def execAbortHoldLapse (v : Vault) : State → Host.Outcome State Fault Refusal := event (takeDue (.abortHold v))
/-- The RELEASE-PULSE-END command (R175, R176). -/
def execReleasePulseEnd (v : Vault) : State → Host.Outcome State Fault Refusal := event (takeDue (.pulse v))
/-- The CONFIRM-WAIT-EXPIRY command (R176, R178). -/
def execConfirmWaitExpiry (v : Vault) : State → Host.Outcome State Fault Refusal := event (takeDue (.confirmWait v))
/-- The SOAK-END command (R178). -/
def execSoakEnd (v : Vault) : State → Host.Outcome State Fault Refusal := event (takeDue (.soak v))
/-- The ESCALATION-EXPIRY command (R194). -/
def execEscalationExpiry (id : Nat) : State → Host.Outcome State Fault Refusal := event (takeDue (.escalation id))

end Sys2Proof.Machine
end

