-- ==== Sys2Proof/Machine/Dispatch.lean ====
section
/-!
DEFINITION. The meaning of each command of spec/opcode_table.json: one arm for each row, in the table's order.
-/

namespace Sys2Proof.Machine

/-- The effect of a command on everything but the queue of waiting commands. -/
def exec (i : Instr) (s : State) : Host.Outcome State Fault Refusal :=
  match i with
  | .lookupCredential x => Sys2Proof.Machine.execLookupCredential x s
  | .readSlot x => Sys2Proof.Machine.execReadSlot x s
  | .writeCredential x => Sys2Proof.Machine.execWriteCredential x s
  | .grantVaults x y => Sys2Proof.Machine.execGrantVaults x y s
  | .revokeVaults x y => Sys2Proof.Machine.execRevokeVaults x y s
  | .suspend x => Sys2Proof.Machine.execSuspend x s
  | .reinstate x => Sys2Proof.Machine.execReinstate x s
  | .retire x => Sys2Proof.Machine.execRetire x s
  | .purge x => Sys2Proof.Machine.execPurge x s
  | .findFreeSlot => Sys2Proof.Machine.execFindFreeSlot s
  | .storeStatus => Sys2Proof.Machine.execStoreStatus s
  | .setCommissioningLock => Sys2Proof.Machine.execSetCommissioningLock s
  | .eraseAll => Sys2Proof.Machine.execEraseAll s
  | .setTime x y z => Sys2Proof.Machine.execSetTime x y z s
  | .getTime => Sys2Proof.Machine.execGetTime s
  | .writeHolidays x => Sys2Proof.Machine.execWriteHolidays x s
  | .readHolidays => Sys2Proof.Machine.execReadHolidays s
  | .writeSchedule x y => Sys2Proof.Machine.execWriteSchedule x y s
  | .readSchedule x => Sys2Proof.Machine.execReadSchedule x s
  | .testOutput x y z w u => Sys2Proof.Machine.execTestOutput x y z w u s
  | .getLineStatus x => Sys2Proof.Machine.execGetLineStatus x s
  | .getReaderStatus x => Sys2Proof.Machine.execGetReaderStatus x s
  | .setSiteMode x => Sys2Proof.Machine.execSetSiteMode x s
  | .releaseDoor x y z => Sys2Proof.Machine.execReleaseDoor x y z s
  | .secureDoor x y => Sys2Proof.Machine.execSecureDoor x y s
  | .holdDoor x y z => Sys2Proof.Machine.execHoldDoor x y z s
  | .getDoorStatus x => Sys2Proof.Machine.execGetDoorStatus x s
  | .listOccupants x => Sys2Proof.Machine.execListOccupants x s
  | .addOccupant x y z => Sys2Proof.Machine.execAddOccupant x y z s
  | .removeOccupant x => Sys2Proof.Machine.execRemoveOccupant x s
  | .confirmOccupancy x => Sys2Proof.Machine.execConfirmOccupancy x s
  | .globalHold x => Sys2Proof.Machine.execGlobalHold x s
  | .setSuppressionParams x y => Sys2Proof.Machine.execSetSuppressionParams x y s
  | .readSuppressionParams x => Sys2Proof.Machine.execReadSuppressionParams x s
  | .resetSuppression x => Sys2Proof.Machine.execResetSuppression x s
  | .getSuppressionStatus x => Sys2Proof.Machine.execGetSuppressionStatus x s
  | .ackAlarm x => Sys2Proof.Machine.execAckAlarm x s
  | .clearAlarm x => Sys2Proof.Machine.execClearAlarm x s
  | .listAlarms x y => Sys2Proof.Machine.execListAlarms x y s
  | .readAlarm x => Sys2Proof.Machine.execReadAlarm x s
  | .getAttention => Sys2Proof.Machine.execGetAttention s
  | .setAttentionEnable x => Sys2Proof.Machine.execSetAttentionEnable x s
  | .getSiteStatus => Sys2Proof.Machine.execGetSiteStatus s
  | .writeParams x => Sys2Proof.Machine.execWriteParams x s
  | .readParams x => Sys2Proof.Machine.execReadParams x s
  | .restart => Sys2Proof.Machine.execRestart s
  | .getResetCause => Sys2Proof.Machine.execGetResetCause s
  | .requestTransaction x => Sys2Proof.Machine.execRequestTransaction x s
  | .responseTransaction x => Sys2Proof.Machine.execResponseTransaction x s
  | .ignoredTransaction x y => Sys2Proof.Machine.execIgnoredTransaction x y s
  | .completionOfProcessing => Sys2Proof.Machine.execCompletionOfProcessing s
  | .powerOnReset => Sys2Proof.Machine.execPowerOnReset s
  | .supplyReset => Sys2Proof.Machine.execSupplyReset s
  | .resetLineReset => Sys2Proof.Machine.execResetLineReset s
  | .endOfReset x => Sys2Proof.Machine.execEndOfReset x s
  | .configurationRead => Sys2Proof.Machine.execConfigurationRead s
  | .scanTargetRead => Sys2Proof.Machine.execScanTargetRead s
  | .writeLow => Sys2Proof.Machine.execWriteLow s
  | .supplyGood => Sys2Proof.Machine.execSupplyGood s
  | .attemptCompletion x => Sys2Proof.Machine.execAttemptCompletion x s
  | .tickEvent x => Sys2Proof.Machine.execTickEvent x s
  | .referenceLost => Sys2Proof.Machine.execReferenceLost s
  | .startUpReferenceTimeout => Sys2Proof.Machine.execStartUpReferenceTimeout s
  | .referenceReturned => Sys2Proof.Machine.execReferenceReturned s
  | .minuteEvent => Sys2Proof.Machine.execMinuteEvent s
  | .outerContact x => Sys2Proof.Machine.execOuterContact x s
  | .outerEgress x => Sys2Proof.Machine.execOuterEgress x s
  | .vaultContactOpen x => Sys2Proof.Machine.execVaultContactOpen x s
  | .vaultContactClose x => Sys2Proof.Machine.execVaultContactClose x s
  | .boltsWithdrawn x => Sys2Proof.Machine.execBoltsWithdrawn x s
  | .boltsThrown x => Sys2Proof.Machine.execBoltsThrown x s
  | .vaultEgress x => Sys2Proof.Machine.execVaultEgress x s
  | .detectorChange x y => Sys2Proof.Machine.execDetectorChange x y s
  | .manualRelease x => Sys2Proof.Machine.execManualRelease x s
  | .abortChange x => Sys2Proof.Machine.execAbortChange x s
  | .isolateChange x => Sys2Proof.Machine.execIsolateChange x s
  | .dischargeChange x => Sys2Proof.Machine.execDischargeChange x s
  | .duressButton x y => Sys2Proof.Machine.execDuressButton x y s
  | .checkInButton x => Sys2Proof.Machine.execCheckInButton x s
  | .siteLineChange x => Sys2Proof.Machine.execSiteLineChange x s
  | .releaseCircuitChange x => Sys2Proof.Machine.execReleaseCircuitChange x s
  | .evacuationCombinationCompletion => Sys2Proof.Machine.execEvacuationCombinationCompletion s
  | .testClaimExpiry x => Sys2Proof.Machine.execTestClaimExpiry x s
  | .pollTransactionStart => Sys2Proof.Machine.execPollTransactionStart s
  | .replyWindowExpiry => Sys2Proof.Machine.execReplyWindowExpiry s
  | .readerReplyComplete x => Sys2Proof.Machine.execReaderReplyComplete x s
  | .pairWindowExpiry x => Sys2Proof.Machine.execPairWindowExpiry x s
  | .outerGrantLapse x => Sys2Proof.Machine.execOuterGrantLapse x s
  | .vaultGrantLapse x => Sys2Proof.Machine.execVaultGrantLapse x s
  | .egressReleaseLapse x => Sys2Proof.Machine.execEgressReleaseLapse x s
  | .travelTimerExpiry x => Sys2Proof.Machine.execTravelTimerExpiry x s
  | .relockTimerExpiry x => Sys2Proof.Machine.execRelockTimerExpiry x s
  | .heldTimerExpiry x y => Sys2Proof.Machine.execHeldTimerExpiry x y s
  | .loneWorkerChirp x => Sys2Proof.Machine.execLoneWorkerChirp x s
  | .loneWorkerExpiry x => Sys2Proof.Machine.execLoneWorkerExpiry x s
  | .countdownExpiry x => Sys2Proof.Machine.execCountdownExpiry x s
  | .abortHoldLapse x => Sys2Proof.Machine.execAbortHoldLapse x s
  | .releasePulseEnd x => Sys2Proof.Machine.execReleasePulseEnd x s
  | .confirmWaitExpiry x => Sys2Proof.Machine.execConfirmWaitExpiry x s
  | .soakEnd x => Sys2Proof.Machine.execSoakEnd x s
  | .escalationExpiry x => Sys2Proof.Machine.execEscalationExpiry x s
  | .readerReplyBegun => Sys2Proof.Machine.execReaderReplyBegun s
  | .replyWindowOpen => Sys2Proof.Machine.execReplyWindowOpen s

end Sys2Proof.Machine
end

