-- ==== Sys2Proof/Safety.lean ====
section
/-!
DEFINITION. What a sound state of the part is: the canonical form of the array, the law of the write queue and the sizes
of the volatile tables, in the terms the statements use.
-/

namespace Sys2Proof.Machine

/-- The array is in its canonical form: the listed slots and schedule records have strictly rising addresses, and none
holds what an unlisted target holds (R26, R42). -/
def NvArray.canonical (a : NvArray) : Bool :=
  Sys2Proof.Machine.canonical erasedSlot a.slots && Sys2Proof.Machine.canonical erasedSchedule a.schedules

/-- The write queue holds at most eight entries (R28) and one for each target (R29). -/
def Nva.lawful (n : Nva) : Bool :=
  decide (n.queue.length ≤ Config.queueSize) && decide (n.queue.map fun e => e.image.target).Nodup

/-- The failure table holds at most 32 entries and no number twice (R8). -/
def failuresLawful (f : List FailureEntry) : Bool :=
  decide (f.length ≤ Config.failureSize) && decide (f.map FailureEntry.number).Nodup

/-- The alarm table holds at most 48 records, each with its own key and its own id (R188, R190). -/
def Atu.lawful (a : Atu) : Bool :=
  decide (a.table.length ≤ Config.alarmSize) && decide (a.table.map AlarmRecord.key).Nodup
    && decide (a.table.map AlarmRecord.id).Nodup

/-- The store is sound: the array is in its canonical form, the write queue keeps its laws (R28), the number index (R5) and
the numbers kept for overwritten cells (R6) are rising lists, and the working copies of the schedules are in their canonical
form (R55). -/
def State.storeSound (s : State) : Bool :=
  s.array.canonical && s.nva.lawful && risingFrom none s.index && risingFrom none s.nva.unsettled
    && Sys2Proof.Machine.canonical [] s.cal.schedules

/-! ## Invariants -/

/-- The alarm table and the failure table keep their laws (R8, R188, R190), and the site EVACUATION record stands or is owed
while the latch stands, and is owed at no other time (R199). During a reset there is no latch (R202), and no event of an
earlier tick waits. -/
def State.tablesSound (s : State) : Bool :=
  s.atu.lawful && failuresLawful s.failures
    && (!s.atu.owed || (s.atu.latch && (s.atu.find siteEvacuationKey).isNone))
    && (!s.atu.latch || s.atu.owed || s.conditionStands siteEvacuationKey)
    && (!decide (s.phase = .reset) || (!s.atu.latch && s.due.isEmpty))

/-- The numbers of the occupant lists, of the entering lists and of the pending pairs, vault by vault. -/
def State.placedNumbers (s : State) : List Nat :=
  Vault.all.flatMap fun v =>
    (s.occupancy v).entries.map Occupant.number ++ s.entering v ++ ((s.pair v).map PendingPair.first).toList

/-- No number stands in two places (R105), no vault's load lies above its L_v and the site load is at most 64 (R105, R144,
R146); before the scan ends nothing is listed (R160). -/
def State.registerSound (s : State) : Bool :=
  decide s.placedNumbers.Nodup && (Vault.all.all fun v => decide (s.load v ≤ (s.group v).limit))
    && decide (s.siteLoad ≤ Config.registerSize)
    && (decide (s.phase = .running) || decide (s.placedNumbers = []))

/-- The interlock of a vault (R134): an outer-door grant of origin ENTRY or HOST stands only while the vault door is SECURED,
and the outer door is UNLOCKED exactly while an outer-door grant stands (R125). -/
def DoorRecord.interlocked (d : DoorRecord) : Bool :=
  (match d.outerGrant with
    | none => true
    | some g => decide (g.origin = .egress) || decide (d.vault = .secured))
  && (decide (d.outer = .unlocked) == d.outerGrant.isSome)

/-- The emergency release of a vault (R136): the emergency condition of the doors stands while the SSQ is INHIBITED (R165),
and while it stands the outer door is EMERGENCY-UNLOCKED with no outer-door grant. -/
def State.releasedWhole (s : State) (v : Vault) : Bool :=
  let d := s.door v
  (!decide ((s.sequencer v).state = .inhibited) || d.emergency)
    && (!d.emergency || (decide (d.outer = .emergencyUnlocked) && d.outerGrant.isNone))

/-- The interlock and the emergency release hold at every vault. -/
def State.interlocked (s : State) : Bool := Vault.all.all fun v => (s.door v).interlocked && s.releasedWhole v

/-- The SSQ's claim at every vault is the one that its state gives (R75, R162). -/
def State.claimsSound (s : State) : Bool :=
  Vault.all.all fun v => decide ((s.claimSet v).ssq = stateClaim (s.sequencer v).state)

/-- The automatic path counts only where the SSQ holds the vault clear (R165, R173), and the SSQ of a vault that acts holds
what the register says: an empty list and CERTAIN (R148). A path and a remaining time are present in every counting state
(R161). Before the configuration read no scan position has been passed (R211). -/
def State.clearanceKept (s : State) : Bool :=
  (Vault.all.all fun v =>
    let q := s.sequencer v
    (!countingState q.state || (q.path.isSome && q.remaining.isSome && (!decide (q.path = some .automatic) || q.clear)))
      && (!s.acts v || (q.clear == s.clearVault v)))
  && (!decide (s.phase = .reset) || decide (s.scanPos = 0))

/-- The records of a vault are at rest: its lines are UNQUALIFIED, its readers hold nothing but a last verdict, and its
door, sequencer, list, pair and claims are those of a reset (R62, R75, R93, R100, R143, R159, R187). -/
def State.atRest (s : State) (v : Vault) : Bool :=
  decide (s.lines.get v = resetLines) && decide (s.door v = resetDoor) && decide (s.pair v = none)
    && decide (s.claimSet v = noClaims) && (s.occupancy v).entries.isEmpty
    && decide (s.sequencer v = { resetSsq (s.sequencer v).committed with clear := (s.sequencer v).clear })
    && [Position.outer, .inner, .exit].all fun p =>
        decide ((s.reader ⟨v, p⟩) = { resetReader with lastVerdict := (s.reader ⟨v, p⟩).lastVerdict })

/-- A vault whose blocks do not act is at rest, the reader line counts no reply of its readers, and before the
configuration read the reader line and the site lines rest as well (R62, R69, R81, R93, R95). -/
def State.restSound (s : State) : Bool :=
  (Vault.all.all fun v => s.acts v || s.atRest v)
    && (match s.rline.counted with | none => true | some a => s.acts a.vault)
    && (s.configured || (decide (s.rline.phase = .quiet) && decide (s.rline.address = none) && decide (s.lqu = resetLqu)))
    && (!decide (s.phase = .reset) || decide (s.scanPos = 0))

/-- While the part is RUNNING with the supply GOOD, an attempt is in flight wherever an entry is queued or the erase pass
runs (R31, R35, R42). -/
def State.programming (s : State) : Bool :=
  !(decide (s.phase = .running) && decide (s.supply = .good) && (s.nva.erase.isSome || !s.nva.queue.isEmpty))
    || s.nva.inFlight.isSome

/-- The calendar instant and the counts of the time base lie in their ranges (R43, R44, R48). -/
def State.timeSound (s : State) : Bool :=
  let i := s.cal.instant
  decide (i.day ≤ Config.lastDay) && decide (i.minute < 1440) && decide (i.second < 60) && decide (i.tick < 100)
    && decide (s.tmb.accumulator < 100) && decide (s.tmb.seconds < 64) && decide (s.tmb.subTick < 100)

/-! ## The terms the statements use -/

/-- The part serves requests: the scan has ended and no event of the last tick waits. -/
abbrev State.ready (s : State) : Prop := s.phase = .running ∧ s.due = []

/-- The part is out of reset and no event of the last tick waits. -/
abbrev State.awake (s : State) : Prop := s.phase ≠ .reset ∧ s.due = []

/-- An event of the last tick waits, and no earlier event of that tick has ended its ground. -/
abbrev State.comes (s : State) (d : Due) : Prop := s.phase ≠ .reset ∧ d ∈ s.due ∧ s.stillDue d = true

/-- The state in which an event waits no longer. -/
def State.without (s : State) (d : Due) : State := { s with due := s.due.erase d }

/-- The link record that holds a response to its request (R203). -/
def Link.answered (l : Link) (code : Nat) (st : Status) (b : Body) : Link :=
  { l with
    request := none
    processing := false
    response := some { code := code, tag := l.tag, status := st, overrun := l.overrun, body := b }
    read := false
    overrun := false }

/-- The state that holds a response and is otherwise as it was. -/
def State.answered (s : State) (code : Nat) (st : Status) (b : Body) : State :=
  { s with link := s.link.answered code st b }

/-- The queue position of a write for a target that is placed now: that of the entry it replaces, or the end (R15, R29). -/
def State.placing (s : State) (t : Target) : Nat :=
  if (s.nva.queued t).isSome then s.nva.position t else s.nva.queue.length + 1

/-- `t` is `s` with a record queued for a slot whose number stands as before: the slot reads the record, every other slot and
the number index read as before, and nothing else but the failure table and the link has changed. -/
def State.recordQueued (s t : State) (n : Nat) (r : CredRecord) : Prop :=
  t.slotContent n = .held r ∧ (∀ m, m ≠ n → t.slotContent m = s.slotContent m) ∧ (∀ k, t.slotOf k = s.slotOf k)
    ∧ t.nva.queue = (s.nva.place (.slot n (some r))).queue
    ∧ t = { s with nva := t.nva, index := t.index, failures := t.failures, link := t.link }

/-- The failure table without the entry of a number (R11). -/
def State.failuresWithout (s : State) (k : Nat) : List FailureEntry := s.failures.filter fun e => e.number ≠ k

/-- A write of the configuration block that holds the values in force is queued (R27, R29). -/
def State.configQueued (s : State) : Prop := s.nva.queued .config = some { image := .config s.cfg, attempts := 0 }

/-- The state a vault door takes at the start of an extension drive, which stops at once on bolts already thrown (R127). -/
def State.extendsTo (s : State) (v : Vault) : VaultState :=
  if s.countsActive v .boltsThrown then .secured else .extending

/-- The state a vault door takes at the start of a retraction drive, which stops at once on bolts already withdrawn
(R127). -/
def State.retractsTo (s : State) (v : Vault) : VaultState :=
  if s.countsActive v .boltsWithdrawn then .released else .retracting

/-- Every record of every vault but one is as it was. -/
def State.othersKept (s t : State) (v : Vault) : Prop :=
  ∀ w, w ≠ v → t.lines.get w = s.lines.get w ∧ t.claimSet w = s.claimSet w ∧ t.readers.get w = s.readers.get w
    ∧ t.pair w = s.pair w ∧ t.door w = s.door w ∧ t.occupancy w = s.occupancy w ∧ t.sequencer w = s.sequencer w

/-- `t` differs from `s` at most in the records of one vault, the alarm table, the attention causes and the events that
wait. -/
def State.vaultAlone (s t : State) (v : Vault) : Prop :=
  s.othersKept t v
    ∧ t = { s with
        lines := t.lines, claims := t.claims, readers := t.readers, pairs := t.pairs, doors := t.doors, occ := t.occ
        ssq := t.ssq, atu := t.atu, link := { s.link with waiting := t.link.waiting }, due := t.due }

/-- `t` differs from `s` at most in the doors, claims and lines of the vaults, the alarm table, the attention causes and the
events that wait: the occupancy register, the sequencers, the pairs and the readers stand. -/
def State.doorsAlone (s t : State) : Prop :=
  t.occ = s.occ ∧ t.ssq = s.ssq ∧ t.pairs = s.pairs ∧ t.readers = s.readers

/-- The alarm table has a place for each of the records that one event may add. -/
abbrev State.alarmRoom (s : State) : Prop := s.atu.table.length + 4 ≤ Config.alarmSize

/-- The escort link that a settling leaves an entry of a list (R155): its own where the entry wants none or the list holds the
occupant it names, and otherwise the earliest may-escort occupant other than itself, if any. -/
def State.settledLink (s : State) (numbers : List Nat) (x : Occupant) : Option Nat :=
  if x.wanted = false ∨ ∃ j ∈ numbers, x.link = some j then x.link
  else numbers.find? fun h => decide (h ≠ x.number) && s.mayEscort h

/-- In `t` an entry stands in a vault's list, which holds these numbers, with its link settled (R155). With room in the alarm
table, ESCORT-LEFT stands where the entry has lost its link or is new without one, stands no longer where the entry was without
a link and has one, and stands as before otherwise. -/
def State.linkSettled (s t : State) (v : Vault) (numbers fresh : List Nat) (x : Occupant) : Prop :=
  let link := s.settledLink numbers x
  let key := escortLeftKey v x.number
  (∃ y ∈ (t.occupancy v).entries, y.number = x.number ∧ y.wanted = x.wanted ∧ y.entered = x.entered
      ∧ y.underDuress = x.underDuress ∧ y.link = link)
    ∧ (s.atu.lawful = true → s.atu.table.length + numbers.length + 4 ≤ Config.alarmSize →
        t.conditionStands key =
          if x.wanted = true ∧ link = none ∧ (x.link ≠ none ∨ x.number ∈ fresh) then true
          else if x.wanted = true ∧ link ≠ none ∧ x.link = none then false
          else s.conditionStands key)

/-- In `t` the SSQ of a vault is INHIBITED, as a report NOT-CLEAR leaves it (R136, R162, R165, R173): R, the hold set and the
ABORT source are gone, and the doors are released. -/
def State.inhibits (s t : State) (v : Vault) : Prop :=
  let q := t.sequencer v
  q.state = .inhibited ∧ q.remaining = none ∧ q.holdEgress = false ∧ q.holdHoldAll = false ∧ q.abortElapsed = none
    ∧ q.clear = false ∧ q.committed = (s.sequencer v).committed ∧ (t.claimSet v).ssq = some .evacuate
    ∧ (t.door v).emergency = true
    ∧ ((s.door v).emergency = false → (t.door v).outer = .emergencyUnlocked ∧ (t.door v).vault = .emergencyReleased)
    ∧ (s.atu.lawful = true → s.atu.table.length + (s.occupancy v).entries.length + 4 ≤ Config.alarmSize →
        t.conditionStands (vaultEvacuationKey v) = true)

/-- In `t` the countdown of a vault that was HELD has resumed (R171, R172). -/
def State.resumes (s t : State) (v : Vault) : Prop :=
  let q := s.sequencer v
  let left := q.remaining.getD 0
  let r := if q.path = some .automatic ∧ q.committed.resume = .restartFloor then max left (q.committed.floor * 10) else left
  (0 < r → (t.sequencer v).state = .countdown ∧ (t.sequencer v).remaining = some r)
    ∧ (r = 0 → s.countsNormal v .vaultContact = true →
        (t.sequencer v).state = .releasing ∧ (t.sequencer v).pulse = some (q.committed.pulse * 10))
    ∧ (r = 0 → s.countsNormal v .vaultContact = false →
        (t.sequencer v).state = .awaitClosure ∧ (t.sequencer v).remaining = some 0)

/-- A qualified change of a vault line to a state waits, the next event of that line (R63). -/
abbrev State.changes (s : State) (v : Vault) (l : Line) (new : Reading) : Prop :=
  s.comes (.line v l) ∧ (s.lineRecord v l).candidate = some new

/-- In `t` a vault line is qualified in a state with its run cleared (R63), and every other line stands as in `s`. -/
def State.lineQualified (s t : State) (v : Vault) (l : Line) (new : Reading) : Prop :=
  t.lineRecord v l = { s.lineRecord v l with qualified := some new, candidate := none, run := 0, start := none }
    ∧ ∀ k, k ≠ l → t.lineRecord v k = s.lineRecord v k

/-- Nothing of a hold source stands at a vault but, perhaps, an ABORT hold (R167, R169, R170). -/
abbrev State.unheld (s : State) (v : Vault) : Prop :=
  (s.sequencer v).egress = .none ∧ s.globalHold = false ∧ s.lqu.holdAll = false

/-- The transaction under way on the reader line is with a reader of an enabled vault, and its end counts (R81, R93). -/
abbrev State.polls (s : State) (a : ReaderAddress) : Prop :=
  s.rline.address = some a ∧ s.rline.discard = false ∧ s.enabled a.vault = true

/-- The reader line after the end of a transaction that leaves some vault enabled (R81, R82). -/
def ReaderLine.ended (l : ReaderLine) : ReaderLine := { l with phase := .settling, address := none, discard := false }

/-- The event of a tick that a command takes; absent for a command that no tick brings about. -/
def dueOf : Instr → Option Due
  | .startUpReferenceTimeout => some .startUpTimeout
  | .minuteEvent => some .minute
  | .evacuationCombinationCompletion => some .evacuation
  | .testClaimExpiry v => some (.testClaim v)
  | .pairWindowExpiry v => some (.pairWindow v)
  | .outerGrantLapse v => some (.outerGrant v)
  | .vaultGrantLapse v => some (.vaultGrant v)
  | .egressReleaseLapse v => some (.egressRelease v)
  | .travelTimerExpiry v => some (.travel v)
  | .relockTimerExpiry v => some (.relock v)
  | .heldTimerExpiry v d => some (.held v d)
  | .loneWorkerChirp v => some (.chirp v)
  | .loneWorkerExpiry v => some (.loneWorker v)
  | .countdownExpiry v => some (.countdown v)
  | .abortHoldLapse v => some (.abortHold v)
  | .releasePulseEnd v => some (.pulse v)
  | .confirmWaitExpiry v => some (.confirmWait v)
  | .soakEnd v => some (.soak v)
  | .escalationExpiry id => some (.escalation id)
  | .outerContact v => some (.line v .outerContact)
  | .outerEgress v => some (.line v .outerEgress)
  | .vaultContactOpen v => some (.line v .vaultContact)
  | .vaultContactClose v => some (.line v .vaultContact)
  | .boltsWithdrawn v => some (.line v .boltsWithdrawn)
  | .boltsThrown v => some (.line v .boltsThrown)
  | .vaultEgress v => some (.line v .vaultEgress)
  | .detectorChange v second => some (.line v (if second then .detectorB else .detectorA))
  | .manualRelease v => some (.line v .manualRelease)
  | .abortChange v => some (.line v .abort)
  | .isolateChange v => some (.line v .isolate)
  | .dischargeChange v => some (.line v .discharge)
  | .duressButton v vestibule => some (.line v (if vestibule then .duressVestibule else .duressVault))
  | .checkInButton v => some (.line v .checkIn)
  | .siteLineChange i => some (.siteLine i)
  | .releaseCircuitChange v => some (.release v)
  | _ => none

/-- The vault of an event of a tick that concerns one vault alone. -/
def Due.vault : Due → Option Vault
  | .startUpTimeout | .minute | .evacuation | .siteLine _ | .escalation _ => none
  | .testClaim v | .pairWindow v | .outerGrant v | .vaultGrant v | .egressRelease v | .travel v | .relock v | .held v _
  | .chirp v | .loneWorker v | .countdown v | .abortHold v | .pulse v | .confirmWait v | .soak v | .line v _
  | .release v => some v

end Sys2Proof.Machine
end

