-- ==== Sys2Proof/WellFormed.lean ====
section
/-!
DEFINITION. Well-formed commands: the terms of `Instr` that stand for something the outside world can send or bring about.
A command that is not well-formed is no command of the part; where it is given all the same it has no effect, or the value
out of its range is refused by the request's own check (notes/assumptions/3.md and 21.md).
-/

namespace Sys2Proof

open Machine

/-- The wiring of every line of a vault can give these readings (R61): OPEN and SHORT are read on supervised lines alone. -/
def VaultReadings.possible (r : VaultReadings) : Bool := Line.all.all fun l => readable l (r.lines.get l)

/-- The fields that the credential requests name fit the fields of the record image (R213). -/
def CredentialWrite.fits (w : CredentialWrite) : Bool :=
  decide (w.slot < 65536) && decide (w.number < 4294967296)
    && (match w.schedule with | none => true | some n => decide (n < 256))
    && (match w.expiry with | none => true | some d => decide (d < 65536))
    && (match w.uses with | none => true | some u => decide (u < 65536))
    && (match w.expected with | none => true | some e => decide (e < 256))

/-- A credential number as a field carries it: four bytes (00, Identities; R213). -/
def numberFits (n : Nat) : Bool := decide (n < 4294967296)

/-- A command is well-formed. -/
def Instr.wellFormed : Instr → Bool
  -- credential numbers fit four bytes, slots two
  | .lookupCredential number => numberFits number
  | .readSlot slot => decide (slot < 65536)
  | .writeCredential w => w.fits
  | .grantVaults number _ => numberFits number
  | .revokeVaults number _ => numberFits number
  | .suspend number => numberFits number
  | .reinstate number => numberFits number
  | .retire number => numberFits number
  | .purge slot => decide (slot < 65536)
  | .releaseDoor _ _ entering => (entering.getD []).all numberFits
  | .addOccupant _ number link => numberFits number && link.all numberFits
  | .removeOccupant number => numberFits number
  -- alarm ids fit two bytes (R190, R214)
  | .ackAlarm id => decide (id < 65536)
  | .clearAlarm id => decide (id < 65536)
  | .readAlarm id => decide (id < 65536)
  -- a transaction clocks its start byte at least, and an ignored one opens with neither start byte (R203)
  | .responseTransaction clocked => decide (1 ≤ clocked)
  | .ignoredTransaction first clocked =>
    decide (first ≠ 0xA5#8) && decide (first ≠ 0x5A#8) && decide (1 ≤ clocked)
  -- the readings are readings of the wiring (R61)
  | .tickEvent readings => Vault.all.all fun v => (readings.vaults.get v).possible
  -- a reply holds at least the byte that began it (R82)
  | .readerReplyComplete bytes => !bytes.isEmpty
  -- an id of a record (R190)
  | .escalationExpiry id => decide (1 ≤ id) && decide (id ≤ 65535)
  | .findFreeSlot | .storeStatus | .setCommissioningLock | .eraseAll => true
  | .setTime _ _ _ | .getTime | .writeHolidays _ | .readHolidays | .writeSchedule _ _ | .readSchedule _ => true
  | .testOutput _ _ _ _ _ | .getLineStatus _ | .getReaderStatus _ | .setSiteMode _ => true
  | .secureDoor _ _ | .holdDoor _ _ _ | .getDoorStatus _ => true
  | .listOccupants _ | .confirmOccupancy _ => true
  | .globalHold _ | .setSuppressionParams _ _ | .readSuppressionParams _ | .resetSuppression _
  | .getSuppressionStatus _ => true
  | .listAlarms _ _ | .getAttention | .setAttentionEnable _ | .getSiteStatus | .writeParams _ | .readParams _
  | .restart | .getResetCause => true
  | .requestTransaction _ | .completionOfProcessing => true
  | .powerOnReset | .supplyReset | .resetLineReset | .endOfReset _ | .configurationRead | .scanTargetRead => true
  | .writeLow | .supplyGood | .attemptCompletion _ => true
  | .referenceLost | .startUpReferenceTimeout | .referenceReturned | .minuteEvent => true
  | .outerContact _ | .outerEgress _ | .vaultContactOpen _ | .vaultContactClose _ | .boltsWithdrawn _ | .boltsThrown _
  | .vaultEgress _ | .detectorChange _ _ | .manualRelease _ | .abortChange _ | .isolateChange _ | .dischargeChange _
  | .duressButton _ _ | .checkInButton _ | .siteLineChange _ | .releaseCircuitChange _ => true
  | .evacuationCombinationCompletion | .testClaimExpiry _ | .pollTransactionStart | .replyWindowExpiry => true
  | .pairWindowExpiry _ | .outerGrantLapse _ | .vaultGrantLapse _ | .egressReleaseLapse _ | .travelTimerExpiry _
  | .relockTimerExpiry _ | .heldTimerExpiry _ _ | .loneWorkerChirp _ | .loneWorkerExpiry _ | .countdownExpiry _
  | .abortHoldLapse _ | .releasePulseEnd _ | .confirmWaitExpiry _ | .soakEnd _ => true
  | .readerReplyBegun | .replyWindowOpen => true

end Sys2Proof
end

