-- ==== Sys2Proof/Certificates/Slice0/Obligations.lean ====
section
/-!
DEFINITION. The statements for the provers. Each docstring names the rules of spec/ that the statement formalises, or says
that it states a choice of the model. "Ready", "awake", "comes" and the other terms stand in `Safety.lean`.
-/

open Sys2Proof Sys2Proof.Machine

/-! ## The part as a whole -/

/-- One step takes the command at the front of the queue and runs it on the state with the rest of the queue; on an empty
queue the part idles. The queue is the model's own (notes/assumptions/1.md). -/
def Obligations.StepRunsTheFrontCommand : Prop :=
  (∀ (c : Instr) (rest : List Instr) (s : Machine.State), s.pending = c :: rest → step s = exec c (s.withPending rest))
    ∧ ∀ s : Machine.State, s.pending = [] → step s = .next s

/-- Every command completes in every state: no command faults or is refused by the model, and none touches the queue of
waiting commands. The events that a tick has brought about are taken before any command that is no such event, and an event
that does not wait has no effect (the model's own, notes/assumptions/1.md to 3.md). -/
def Obligations.EveryCommandCompletes : Prop :=
  (∀ (c : Instr) (s : Machine.State), ∃ t, exec c s = .next t ∧ t.pending = s.pending)
    ∧ (∀ (c : Instr) (s : Machine.State), dueOf c = none → exec c s = exec c (settle s))
    ∧ ∀ (c : Instr) (d : Due) (s : Machine.State), dueOf c = some d → d ∉ s.due ∨ s.phase = .reset → exec c s = .next s

/-- A request's response carries its code, its tag and the overrun mark, and a request answered with any status but OK
changes nothing else; its body is empty or a reason. While the scan runs every request is answered NOT-READY with nothing
changed, but for GET-ATTENTION, GET-SITE-STATUS and GET-RESET-CAUSE, which are answered OK (R203, R204, R211). -/
def Obligations.RefusedRequestsChangeNothing : Prop :=
  (∀ (c : Instr) (code : Nat) (s : Machine.State), requestCode c = some code → s.ready →
      ∃ t r, exec c s = .next t ∧ t.link.response = some r ∧ r.code = code ∧ r.tag = s.link.tag
        ∧ r.overrun = s.link.overrun ∧ t.link.processing = false ∧ t.link.request = none ∧ t.link.read = false
        ∧ t.link.overrun = false
        ∧ (r.status ≠ .ok →
            t = s.answered code r.status r.body ∧ (r.body = .empty ∨ ∃ v, r.body = .reason v)))
    ∧ (∀ (c : Instr) (code : Nat) (s : Machine.State), requestCode c = some code → s.phase = .scanning → s.due = [] →
      (code ≠ 41 → code ≠ 43 → code ≠ 47 → exec c s = .next (s.answered code .notReady .empty))
        ∧ (code = 41 ∨ code = 43 ∨ code = 47 →
            ∃ t r, exec c s = .next t ∧ t.link.response = some r ∧ r.status = .ok))

/-- A reset and its end leave the part as `State.reset` gives it, but for the array, the reset kind, the supply level, the
RESTART record and the calendar, which a RESET-LINE reset keeps and a POWER-ON or SUPPLY reset sets to its reset value, where
no attempt is in flight. A cause that arrives while a reset is held leaves the kind that stands earlier in the order POWER-ON,
SUPPLY, RESET-LINE, RESTART (R25, R34, R37, R50, R202, R210, R211). The values of `State.reset` that the spec does not give are
the model's (notes/assumptions/9.md, 10.md), and so is the order at the end of a reset: the pending set is MODE alone although
RESTART is raised at that event (notes/assumptions/30.md). -/
def Obligations.AResetLeavesTheResetState : Prop :=
  (∀ (s : Machine.State) (good : Bool), s.awake → s.nva.inFlight = none →
      let after (kind : ResetKind) (i : Instant) (st : CalendarState) : Machine.State :=
        { State.reset with
          resetKind := kind
          supply := if good then .good else .writeLow
          array := s.array
          cal := { State.reset.cal with instant := i, state := st }
          atu := { resetAtu with
            table := [restartRecord kind { day := i.day, minute := i.minute, second := i.second }], counter := 2 }
          freeCount := s.freeCount
          pending := s.pending }
      (∃ u, exec .powerOnReset s = .next u ∧ u.phase = .reset ∧ u.resetKind = .powerOn
          ∧ exec (.endOfReset good) u = .next (after .powerOn zeroInstant .unsynchronised))
        ∧ (∃ u, exec .supplyReset s = .next u ∧ u.phase = .reset ∧ u.resetKind = .supply
          ∧ exec (.endOfReset good) u = .next (after .supply zeroInstant .unsynchronised))
        ∧ ∃ u, exec .resetLineReset s = .next u ∧ u.phase = .reset ∧ u.resetKind = .resetLine
          ∧ exec (.endOfReset good) u = .next (after .resetLine s.cal.instant s.cal.state))
    ∧ (∀ s : Machine.State, s.phase = .reset → s.due = [] →
      exec .powerOnReset s = .next { s with resetKind := .powerOn }
        ∧ exec .supplyReset s =
            .next { s with resetKind := if s.resetKind = .powerOn then .powerOn else .supply }
        ∧ exec .resetLineReset s =
            .next { s with resetKind := if s.resetKind = .restart then .resetLine else s.resetKind })

/-- The array changes only in the target of the programming attempt in flight, at the completion of that attempt or at a
reset that cuts it off, and what the target then holds is its old content, the new image or content whose check fails
(R26, R31, R37). Every slot that is no target reads as before. -/
def Obligations.TheArrayChangesOnlyByProgramming : Prop :=
  ∀ s t : Machine.State, step s = .next t → t.array ≠ s.array →
    ∃ a left, (settle s).nva.inFlight = some a ∧ t.array = s.array.leave a.image left
      ∧ (s.array.canonical = true → ∀ n, a.image.target ≠ .slot n → t.array.slotCell n = s.array.slotCell n)
      ∧ ((∃ o rest, s.pending = .attemptCompletion o :: rest) ∨ t.phase = .reset)

/-! ## Invariants that every step keeps -/

/-- The invariants below hold at reset. -/
def Obligations.ResetMeetsTheInvariants : Prop :=
  State.reset.storeSound = true ∧ State.reset.tablesSound = true ∧ State.reset.registerSound = true
    ∧ State.reset.interlocked = true ∧ State.reset.clearanceKept = true ∧ State.reset.restSound = true
    ∧ State.reset.programming = true ∧ State.reset.timeSound = true ∧ State.reset.claimsSound = true

/-- Every step keeps the array in its canonical form, at most eight queued writes with one for each target, and the number
index and the numbers kept for overwritten cells rising lists, so that each holds a key once (R5, R6, R28, R29). -/
def Obligations.EveryStepKeepsTheStoreSound : Prop :=
  ∀ s t : Machine.State, s.storeSound = true → step s = .next t → t.storeSound = true

/-- Every step keeps the alarm table at 48 records or fewer with distinct keys and ids, the failure table at 32 entries or
fewer with distinct numbers, and the site EVACUATION record standing or owed while the latch stands (R8, R188, R190, R199). -/
def Obligations.EveryStepKeepsTheTablesSound : Prop :=
  ∀ s t : Machine.State, s.tablesSound = true → step s = .next t → t.tablesSound = true

/-- Every step keeps each credential number in one place at most among the occupant lists, the entering lists and the
pending pairs, each vault's load within its L_v and the site load within 64 (R105, R144, R146). -/
def Obligations.EveryStepKeepsTheRegisterSound : Prop :=
  ∀ s t : Machine.State, s.registerSound = true → step s = .next t → t.registerSound = true

/-- Every step keeps the vestibule interlock: an entry grant holds the outer door unlocked only while the vault door of the
same vault is SECURED (R134), and the outer door is UNLOCKED exactly while a grant of it stands (R125). With it go the laws of
emergency release: the emergency condition stands while the SSQ is INHIBITED, and while it stands the outer door is
EMERGENCY-UNLOCKED with no outer-door grant (R136, R137, R165). Every step that starts with idle vaults at rest also keeps the
SSQ's claim at every vault the one that its state gives (R75, R162). -/
def Obligations.EveryStepKeepsTheInterlock : Prop :=
  (∀ s t : Machine.State, s.interlocked = true → step s = .next t → t.interlocked = true)
    ∧ ∀ s t : Machine.State, s.restSound = true → s.claimsSound = true → step s = .next t → t.claimsSound = true

/-- Every step keeps the automatic path to a vault that is clear: while a countdown of the automatic path runs or is held at
a vault that acts, its list is empty and CERTAIN (R148, R165, R173). -/
def Obligations.EveryStepKeepsTheClearance : Prop :=
  ∀ s t : Machine.State, s.clearanceKept = true → step s = .next t → t.clearanceKept = true

/-- Every step keeps a vault whose blocks do not act at rest: its lines, readers, doors, register, claims and sequencer stand
as after a reset (R62, R75, R93, R100, R143, R159, R187). -/
def Obligations.EveryStepKeepsIdleVaultsAtRest : Prop :=
  ∀ s t : Machine.State, s.restSound = true → step s = .next t → t.restSound = true

/-- Every step keeps an attempt in flight wherever the part is RUNNING with the supply GOOD and an entry is queued or the
erase pass runs (R31, R35, R42), and keeps the calendar instant and the counts of the time base in their ranges (R43, R44,
R48). -/
def Obligations.EveryStepKeepsProgrammingAndTime : Prop :=
  (∀ s t : Machine.State, s.programming = true → step s = .next t → t.programming = true)
    ∧ ∀ s t : Machine.State, s.timeSound = true → step s = .next t → t.timeSound = true

/-- An event of one vault leaves every record of every other vault, the store, the configuration, the time, the mode and the
link but for its attention causes as they were (the frame of the line changes and of the timers of a vault). -/
def Obligations.AVaultsEventTouchesThatVaultAlone : Prop :=
  ∀ (c : Instr) (d : Due) (v : Vault) (s : Machine.State), dueOf c = some d → d.vault = some v →
    ∃ t, exec c s = .next t ∧ s.vaultAlone t v

/-! ## Images, queue and alarm table -/

/-- The credential record image gives its record back, whatever the record, the FREE image gives FREE, and the schedule
record image gives its windows back (R213). -/
def Obligations.ImagesReadBack : Prop :=
  (∀ r : CredRecord, recordInRange r = true → (encodeSlot (some r)).length = 24 ∧ parseSlot (encodeSlot (some r)) = some (some r))
    ∧ (encodeSlot none).length = 24 ∧ parseSlot (encodeSlot none) = some none
    ∧ ∀ w : List Window, w.length ≤ 4 → (∀ x ∈ w, goodWindow x = true) →
      (encodeSchedule w).length = 22 ∧ parseSchedule (encodeSchedule w) = some w

/-- LOOKUP-CREDENTIAL and READ-SLOT hide the digits of a PIN and of a duress code: two states that differ only in the digits
that a slot's record holds, with the same lengths, answer these two requests alike (R2, R16, R17). -/
def Obligations.ReportsHideTheDigits : Prop :=
  ∀ (s t : Machine.State) (n : Nat) (r r' : CredRecord), s.ready → t.ready →
    s.slotContent n = .held r → t.slotContent n = .held r' → s.slotOf r.number = some n → t.slotOf r.number = some n →
    { r with pin := none, duress := none } = { r' with pin := none, duress := none } →
    (digitsOf r.pin).length = (digitsOf r'.pin).length → (digitsOf r.duress).length = (digitsOf r'.duress).length →
    s.cfg = t.cfg → s.failures = t.failures → s.link = t.link →
    (s.nva.queued (.slot n)).isSome = (t.nva.queued (.slot n)).isSome →
    ∃ u w, exec (.readSlot n) s = .next u ∧ exec (.readSlot n) t = .next w ∧ u.link = w.link
      ∧ ∃ u' w', exec (.lookupCredential r.number) s = .next u' ∧ exec (.lookupCredential r.number) t = .next w'
        ∧ u'.link = w'.link

/-- An image placed in the write queue replaces the image of its target in place with its attempts cleared, and otherwise
takes the last place; every other target's entry stands where it was (R28, R29). -/
def Obligations.PlacingCoalescesOrAppends : Prop :=
  ∀ (n : Nva) (i : Image), n.lawful = true →
    (n.place i).queued i.target = some { image := i, attempts := 0 }
      ∧ (∀ t, t ≠ i.target → (n.place i).queued t = n.queued t ∧ (n.place i).position t = n.position t)
      ∧ ((n.queued i.target).isSome = true →
          (n.place i).queue.length = n.queue.length ∧ (n.place i).position i.target = n.position i.target)
      ∧ (n.queued i.target = none →
          (n.place i).queue = n.queue ++ [{ image := i, attempts := 0 }]
            ∧ (n.place i).position i.target = n.queue.length + 1)

/-- What a raise does: it counts an occurrence on the record of its key, which returns to RAISED where it was CLEARED-UNACK;
it adds a record at the end where the table has a place; in a full table it takes the place of the oldest CLEARED-UNACK
record; without one, a kind of priority 1 takes the place of the oldest record of the lowest priority present, the site
EVACUATION record spared under a set latch; and where none may leave it counts the overflow and stores nothing (R189 to
R192). -/
def Obligations.RaisingAnAlarm : Prop :=
  ∀ (s : Machine.State) (key : AlarmKey), s.atu.lawful = true →
    (∀ r ∈ s.atu.table, r.key = key → r.state ≠ .clearedUnack →
      (raised key s).atu.table
        = s.atu.table.map (fun x => if x.id = r.id then { x with occurrences := min 255 (x.occurrences + 1) } else x))
    ∧ (∀ r ∈ s.atu.table, r.key = key → r.state = .clearedUnack →
      (raised key s).atu.table
        = s.atu.table.map (fun x => if x.id = r.id then
            { x with occurrences := min 255 (x.occurrences + 1), state := .raised, level := initialLevel key.kind
                     escalation := escalationFor s.cfg.site key.kind (initialLevel key.kind) } else x))
    ∧ ((∀ r ∈ s.atu.table, r.key ≠ key) → s.atu.table.length < 48 →
      ∃ id, (∀ r ∈ s.atu.table, r.id ≠ id)
        ∧ (raised key s).atu.table = s.atu.table ++
            [{ id := id, key := key, raisedAt := s.stamp, state := .raised, level := initialLevel key.kind
               occurrences := 1, escalation := escalationFor s.cfg.site key.kind (initialLevel key.kind) }])
    ∧ (∀ before r after, s.atu.table = before ++ r :: after → s.atu.table.length = 48 →
        (∀ x ∈ s.atu.table, x.key ≠ key) → (∀ x ∈ before, x.state ≠ .clearedUnack) → r.state = .clearedUnack →
      ∃ new, new.key = key ∧ new.state = .raised ∧ (raised key s).atu.table = before ++ after ++ [new])
    ∧ ((∀ x ∈ s.atu.table, x.key ≠ key ∧ x.state ≠ .clearedUnack) → s.atu.table.length = 48 → kindPriority key.kind = 1 →
        let may (x : AlarmRecord) : Prop :=
          2 ≤ kindPriority x.key.kind ∧ ¬ (s.atu.latch = true ∧ x.key = keyOf .evacuation none none)
        (∀ before r after, s.atu.table = before ++ r :: after → may r →
            (∀ x ∈ s.atu.table, may x → kindPriority x.key.kind ≤ kindPriority r.key.kind) →
            (∀ x ∈ before, may x → kindPriority x.key.kind ≠ kindPriority r.key.kind) →
          ∃ id, (∀ x ∈ before ++ after, x.id ≠ id)
            ∧ (raised key s).atu.table = before ++ after ++
                [{ id := id, key := key, raisedAt := s.stamp, state := .raised, level := 3, occurrences := 1
                   escalation := none }]
            ∧ (raised key s).atu.overflow = s.atu.overflow)
          ∧ ((∀ x ∈ s.atu.table, ¬ may x) →
            (raised key s).atu.table = s.atu.table ∧ (raised key s).atu.overflow = min 255 (s.atu.overflow + 1)))
    ∧ ((∀ r ∈ s.atu.table, r.key ≠ key ∧ r.state ≠ .clearedUnack) → s.atu.table.length = 48 →
        kindPriority key.kind ≠ 1 →
      (raised key s).atu.table = s.atu.table ∧ (raised key s).atu.overflow = min 255 (s.atu.overflow + 1))

/-! ## Credential requests -/

/-- LOOKUP-CREDENTIAL, READ-SLOT and FIND-FREE-SLOT report the effective content and change nothing (R15, R16, R17, R24). -/
def Obligations.CredentialReadsReportTheEffectiveContent : Prop :=
  ∀ s : Machine.State, s.ready →
    let report (n : Nat) (failures : Nat) (atLimit : Bool) : SlotReport :=
      { slot := n, inBand := decide (2048 - s.cfg.site.bandSize ≤ n), queued := (s.nva.queued (.slot n)).isSome
        image := reportBytes (s.slotContent n), revision := (s.slotContent n).revision, failures := failures
        atLimit := atLimit }
    let failuresOf (k : Nat) : Nat := ((s.failures.find? fun e => e.number = k).map FailureEntry.failures).getD 0
    let limited (k : Nat) : Bool := decide (0 < failuresOf k ∧ s.cfg.site.failureLimit ≤ failuresOf k)
    (∀ k n r, 0 < k → k ≤ 4294967294 → s.slotOf k = some n → s.slotContent n = .held r → r.number = k →
        (∀ e ∈ s.failures, 0 < e.failures) →
        exec (.lookupCredential k) s = .next (s.answered 1 .ok (.slot (report n (failuresOf k) (limited k)))))
      ∧ (∀ n r, n < 2048 → s.slotContent n = .held r → (∀ e ∈ s.failures, 0 < e.failures) →
        exec (.readSlot n) s = .next (s.answered 2 .ok (.slot (report n (failuresOf r.number) (limited r.number)))))
      ∧ (∀ n, n < 2048 → s.slotContent n = .free ∨ s.slotContent n = .damaged →
        exec (.readSlot n) s = .next (s.answered 2 .ok (.slot (report n 0 false))))
      ∧ (∀ n, n < 2048 - s.cfg.site.bandSize → s.slotContent n = .free → (∀ m, m < n → s.slotContent m ≠ .free) →
        exec .findFreeSlot s = .next (s.answered 10 .ok (.freeSlot n)))
      ∧ ((∀ n, n < 2048 - s.cfg.site.bandSize → s.slotContent n ≠ .free) →
        exec .findFreeSlot s = .next (s.answered 10 .notFound .empty))

/-- WRITE-CREDENTIAL, all checks passed, forms the record from its fields and the codes kept or given, with the next revision,
and queues it: the slot reads the record, every other slot reads as before, the number stands in the index at the slot with
the slot's old number gone, and both numbers leave the failure table (R3, R5, R11, R15, R18). -/
def Obligations.WriteCredentialFormsTheRecord : Prop :=
  ∀ (s : Machine.State) (w : CredentialWrite) (st : CredState) (pin duress : Option (List Nat)), s.ready →
    s.storeSound = true → w.slot < 2048 → (2048 - s.cfg.site.bandSize ≤ w.slot → s.mode = .maintenance) →
    0 < w.number → w.number ≤ 4294967294 → w.state = some st → (∀ n, w.schedule = some n → n < 32) →
    (∀ d, w.expiry = some d → d ≤ 65534) → (∀ u, w.uses = some u → 0 < u ∧ u ≤ 65535) →
    (w.escortRequired && w.mayEscort) = false →
    ((w.secrets = .keep ∧ ∃ old, s.slotContent w.slot = .held old ∧ pin = old.pin ∧ duress = old.duress)
      ∨ (w.secrets = .give pin duress ∧ (∀ p, pin = some p → goodCode p = true)
          ∧ (∀ d, duress = some d → goodCode d = true ∧ pin ≠ none ∧ pin ≠ some d))) →
    (∀ e, w.expected = some e → e = (s.slotContent w.slot).revision) →
    (∀ k, (s.slotContent w.slot).number = some k → k ≠ w.number → s.inUse k = false) →
    s.numberTaken w.number w.slot = false → s.storeBusy = false →
    let record : CredRecord :=
      { number := w.number, state := st, vaults := w.vaults, escortRequired := w.escortRequired
        mayEscort := w.mayEscort, schedule := w.schedule, expiry := w.expiry, uses := w.uses, pin := pin
        duress := duress
        revision := if (s.slotContent w.slot).revision = 255 then 1 else (s.slotContent w.slot).revision + 1 }
    ∃ t, exec (.writeCredential w) s = .next t
      ∧ t.slotContent w.slot = .held record
      ∧ (∀ m, m ≠ w.slot → t.slotContent m = s.slotContent m)
      ∧ t.slotOf w.number = some w.slot
      ∧ (∀ k, k ≠ w.number →
          t.slotOf k = if (s.slotContent w.slot).number = some k then none else s.slotOf k)
      ∧ t.failures = s.failures.filter (fun e => e.number ≠ w.number ∧ (s.slotContent w.slot).number ≠ some e.number)
      ∧ t.nva.queue = (s.nva.place (.slot w.slot (some record))).queue
      ∧ t.link = s.link.answered 3 .ok (.change w.slot record.revision (s.placing (.slot w.slot)))
      ∧ t = { s with nva := t.nva, index := t.index, failures := t.failures, link := t.link }

/-- GRANT-VAULTS and REVOKE-VAULTS give the union and the difference, and an unchanged set places no write. SUSPEND,
REINSTATE and RETIRE change the state of a record, keep every other field and remove the number's failure entry; REINSTATE of
an ACTIVE credential places no write (R19 to R22). -/
def Obligations.ChangesOfARecord : Prop :=
  (∀ (s : Machine.State) (n : Nat) (r : CredRecord) (x : VaultSet), s.ready → s.storeSound = true →
      0 < r.number → r.number ≤ 4294967294 → s.slotOf r.number = some n → s.slotContent n = .held r →
      (2048 - s.cfg.site.bandSize ≤ n → s.mode = .maintenance) →
      let rev := if r.revision = 255 then 1 else r.revision + 1
      (r.vaults ||| x = r.vaults →
          exec (.grantVaults r.number x) s = .next (s.answered 4 .ok (.vaultsChanged n r.vaults r.vaults r.revision 0)))
        ∧ (r.vaults &&& ~~~x = r.vaults →
          exec (.revokeVaults r.number x) s = .next (s.answered 5 .ok (.vaultsChanged n r.vaults r.vaults r.revision 0)))
        ∧ (r.vaults ||| x ≠ r.vaults → s.storeBusy = false →
          ∃ t, exec (.grantVaults r.number x) s = .next t
            ∧ s.recordQueued t n { r with vaults := r.vaults ||| x, revision := rev } ∧ t.failures = s.failures
            ∧ t.link = s.link.answered 4 .ok (.vaultsChanged n r.vaults (r.vaults ||| x) rev (s.placing (.slot n))))
        ∧ (r.vaults &&& ~~~x ≠ r.vaults → s.storeBusy = false →
          ∃ t, exec (.revokeVaults r.number x) s = .next t
            ∧ s.recordQueued t n { r with vaults := r.vaults &&& ~~~x, revision := rev } ∧ t.failures = s.failures
            ∧ t.link = s.link.answered 5 .ok (.vaultsChanged n r.vaults (r.vaults &&& ~~~x) rev (s.placing (.slot n)))))
    ∧ (∀ (s : Machine.State) (n : Nat) (r : CredRecord), s.ready → s.storeSound = true →
      0 < r.number → r.number ≤ 4294967294 → s.slotOf r.number = some n → s.slotContent n = .held r →
      (2048 - s.cfg.site.bandSize ≤ n → s.mode = .maintenance) → s.storeBusy = false →
      let rev := if r.revision = 255 then 1 else r.revision + 1
      let queued (code : Nat) (c : Instr) (st : CredState) : Prop :=
        ∃ t, exec c s = .next t ∧ s.recordQueued t n { r with state := st, revision := rev }
          ∧ t.failures = s.failuresWithout r.number
          ∧ t.link = s.link.answered code .ok (.change n rev (s.placing (.slot n)))
      (r.state = .active → queued 6 (.suspend r.number) .suspended)
        ∧ (r.state = .suspended → queued 7 (.reinstate r.number) .active)
        ∧ (r.state = .active → exec (.reinstate r.number) s =
            .next ({ s with failures := s.failuresWithout r.number }.answered 7 .ok (.change n r.revision 0)))
        ∧ (r.state ≠ .retired → queued 8 (.retire r.number) .retired))

/-- PURGE frees a slot that holds a record or is DAMAGED, and its number leaves the index and the failure table. The number
that the slot's array content holds stays taken for every other slot while the FREE image waits (R6, R23). -/
def Obligations.PurgeFreesTheSlot : Prop :=
  ∀ (s : Machine.State) (n : Nat), s.ready → s.storeSound = true → n < 2048 →
    (2048 - s.cfg.site.bandSize ≤ n → s.mode = .maintenance) → s.slotContent n ≠ .free →
    (∀ k, (s.slotContent n).number = some k → s.inUse k = false) → s.storeBusy = false →
    ∃ t, exec (.purge n) s = .next t
      ∧ t.slotContent n = .free
      ∧ (∀ m, m ≠ n → t.slotContent m = s.slotContent m)
      ∧ (∀ k, t.slotOf k = if (s.slotContent n).number = some k then none else s.slotOf k)
      ∧ t.failures = s.failures.filter (fun e => (s.slotContent n).number ≠ some e.number)
      ∧ t.nva.queue = (s.nva.place (.slot n none)).queue
      ∧ (∀ k, s.settledNumber n = some k → t.settledNumber n = some k ∧ ∀ m, m ≠ n → t.numberTaken k m = true)
      ∧ t.link = s.link.answered 9 .ok (.change n 0 (s.placing (.slot n)))
      ∧ t = { s with nva := t.nva, index := t.index, failures := t.failures, link := t.link }

/-! ## Store, calendar and schedule requests -/

/-- STORE-STATUS, READ-HOLIDAYS, READ-SCHEDULE, LIST-OCCUPANTS and GET-SUPPRESSION-STATUS report the records their rules
name, times in ticks and in seconds rounded up, and change nothing; a schedule above 31 or a vault above 7 is refused
BAD-FIELD (R36, R54, R56, R156, R185). -/
def Obligations.StatusRequestsReportTheRecords : Prop :=
  (∀ s : Machine.State, s.ready →
      exec .storeStatus s = .next (s.answered 11 .ok
        (.store
          (s.nva.queue.map fun e => (e.image.target, e.attempts,
            decide (s.nva.erase = none ∧ s.nva.inFlight.map (fun a => a.image.target) = some e.image.target)))
          (6 - s.nva.queue.length) s.supply s.cfg.site.maxAttempts s.nva.owed s.nva.damaged s.cfg.lock
          (s.nva.erase.map fun e => 2082 - e.next))))
    ∧ (∀ s : Machine.State, s.ready →
      exec .readHolidays s = .next (s.answered 17 .ok
          (.holidays s.cal.holidays (s.nva.queued .holidays).isSome (decide (Target.holidays ∈ s.nva.damaged))))
        ∧ (∀ n, n < 32 → exec (.readSchedule n) s = .next (s.answered 19 .ok
            (.schedule (s.cal.windows n) (s.nva.queued (.schedule n)).isSome
              (decide (Target.schedule n ∈ s.nva.damaged)))))
        ∧ ∀ n, 32 ≤ n → exec (.readSchedule n) s = .next (s.answered 19 .badField .empty))
    ∧ (∀ s : Machine.State, s.ready →
      (∀ n, 8 ≤ n → exec (.listOccupants n) s = .next (s.answered 28 .badField .empty))
        ∧ ∀ v : Vault,
          let o := s.occupancy v
          exec (.listOccupants v.num) s = .next (s.answered 28 .ok
            (.occupants
              (o.entries.map fun e =>
                { entry := e, checkIn := e.checkIn.map fun n => { ticks := n, seconds := (n + 99) / 100 }
                  escortLeft := e.wanted && decide (e.link = none), loneWorker := e.overdue })
              o.entries.length (o.entries.length + (s.entering v).length) (s.group v).limit o.certain
              (s.enabled v && decide (o.entries.length = 1) && (decide (s.mode ≠ .openHours) || (s.group v).allHours))
              (s.claimSet v).chirp (o.entries.filter Occupant.underDuress).length
              (Vault.all.map fun w => (s.occupancy w).entries.length).sum
              (Vault.all.map fun w => (s.occupancy w).entries.length + (s.entering w).length).sum)))
    ∧ (∀ s : Machine.State, s.ready →
      (∀ n, 8 ≤ n → exec (.getSuppressionStatus n) s = .next (s.answered 36 .badField .empty))
        ∧ ∀ v : Vault,
          let q := s.sequencer v
          let both (t : Option Nat) : Option Timed := t.map fun n => { ticks := n, seconds := (n + 99) / 100 }
          exec (.getSuppressionStatus v.num) s = .next (s.answered 36 .ok
            (.sequencer q (decide (q.path = some .manual)) (both q.remaining)
              (if q.committed.hMax = 0 then none else q.abortElapsed.map fun e => q.committed.hMax * 10 - e)
              [both q.pulse, both q.confirmWait, both q.soak] ((s.lines.get v).release.qualified.getD .intact)
              [(s.lineRecord v .detectorA).qualified, (s.lineRecord v .detectorB).qualified,
               (s.lineRecord v .manualRelease).qualified, (s.lineRecord v .abort).qualified,
               (s.lineRecord v .isolate).qualified, (s.lineRecord v .discharge).qualified,
               (s.lineRecord v .vaultContact).qualified]
              s.globalHold s.lqu.holdAll s.fire (decide (s.stagedSet v ≠ q.committed)))))

/-- WRITE-HOLIDAYS and WRITE-SCHEDULE take effect in the working copy at once and queue the new image; every other schedule
reads as before (R54, R56). -/
def Obligations.HolidayAndScheduleWrites : Prop :=
  ∀ s : Machine.State, s.ready → s.storeSound = true → s.storeBusy = false →
    (∀ days : List Nat, days.length ≤ 24 → (∀ d ∈ days, d ≤ 65535) → days.Pairwise (· < ·) →
      ∃ t, exec (.writeHolidays days) s = .next t
        ∧ t.cal = { s.cal with holidays := days }
        ∧ t.nva.queue = (s.nva.place (.holidays days)).queue
        ∧ t.link = s.link.answered 16 .ok (.position (s.placing .holidays))
        ∧ t = { s with cal := t.cal, nva := t.nva, link := t.link })
      ∧ ∀ (n : Nat) (w : List Window), n < 32 → w.length ≤ 4 →
        (∀ x ∈ w, x.mask ≠ 0 ∧ x.start ≤ 1439 ∧ x.stop ≤ 1439) →
        ∃ t, exec (.writeSchedule n w) s = .next t
          ∧ t.cal.windows n = w ∧ (∀ m, m ≠ n → t.cal.windows m = s.cal.windows m)
          ∧ t.cal = { s.cal with schedules := t.cal.schedules }
          ∧ t.nva.queue = (s.nva.place (.schedule n w)).queue
          ∧ t.link = s.link.answered 18 .ok (.position (s.placing (.schedule n)))
          ∧ t = { s with cal := t.cal, nva := t.nva, link := t.link }

/-- SET-COMMISSIONING-LOCK sets the lock and queues the configuration block; with the lock set already it writes nothing.
ERASE-ALL, in MAINTENANCE with every enabled vault ISOLATED and no number IN-USE, empties the index, the failure table, the
write queue, the holiday list and the schedules, gives every owner its default, starts the erase pass and leaves the array
for it; every slot reads FREE from then on. The site mode record stands (R40, R41, R42). -/
def Obligations.CommissioningRequests : Prop :=
  (∀ s : Machine.State, s.ready → s.storeSound = true →
      (s.cfg.lock = true → exec .setCommissioningLock s = .next (s.answered 12 .ok (.position 0)))
        ∧ (s.cfg.lock = false → s.storeBusy = true →
            exec .setCommissioningLock s = .next (s.answered 12 .storeBusy .empty))
        ∧ (s.cfg.lock = false → s.storeBusy = false →
            ∃ t, exec .setCommissioningLock s = .next t ∧ t.cfg = { s.cfg with lock := true } ∧ t.configQueued
              ∧ t.link = s.link.answered 12 .ok (.position (s.placing .config))
              ∧ t = { s with cfg := t.cfg, nva := t.nva, link := t.link }))
    ∧ (∀ s : Machine.State, s.ready → s.mode = .maintenance → s.nva.erase = none →
      (∀ v, s.enabled v = true → (s.sequencer v).state = .isolated) →
      (∀ v, (s.occupancy v).entries = [] ∧ s.pair v = none
        ∧ ∀ g, (s.door v).vaultGrant = some g → g.entering = [] ∧ g.exiting = []) →
      ∃ t, exec .eraseAll s = .next t
        ∧ (∀ n, t.slotContent n = .free) ∧ t.index = [] ∧ t.failures = [] ∧ t.nva.queue = [] ∧ t.nva.owed = false
        ∧ t.nva.damaged = [] ∧ t.nva.erase = some { next := 0, attempts := 0 } ∧ t.cfg = erasedConfig
        ∧ t.cal = { s.cal with schedules := [], holidays := [] } ∧ t.array = s.array ∧ t.mode = s.mode ∧ t.auto = s.auto
        ∧ (s.nva.inFlight = none → s.supply = .good →
            t.nva.inFlight = some { image := .slot 0 none, discard := false, spoiled := false })
        ∧ t.link.response = (s.link.answered 13 .ok .empty).response)

/-- SET-TIME sets the instant with the tick at 0, the calendar state by the tick source, and CLOCK; an automatic site mode is
evaluated at once, and no other mode is touched. A field out of range is refused BAD-FIELD (R49, R51, R59). -/
def Obligations.SetTimeSetsTheCalendar : Prop :=
  ∀ (s : Machine.State) (day minute second : Nat), s.ready →
    (65535 < day ∨ 1439 < minute ∨ 59 < second →
        exec (.setTime day minute second) s = .next (s.answered 14 .badField .empty))
      ∧ (day ≤ 65535 → minute ≤ 1439 → second ≤ 59 →
        let st : CalendarState := if s.tmb.source = .reference then .synchronised else .drifted
        let cal : Cal := { s.cal with
          instant := { day := day, minute := minute, second := second, tick := 0 }, state := st }
        (s.auto = false → exec (.setTime day minute second) s =
          .next ({ s with cal := cal, link := { s.link with waiting := { s.link.waiting with clock := true } } }.answered
            14 .ok (.calendarState st)))
        ∧ (s.auto = true → ∃ t, exec (.setTime day minute second) s = .next t ∧ t.cal = cal ∧ t.auto = true
            ∧ t.mode = (if (cal.windows s.cfg.site.siteSchedule).any
                  (fun w => windowContains cal.holidays w day minute) then .openHours else .afterHours)
            ∧ t.link.response = (s.link.answered 14 .ok (.calendarState st)).response ∧ t.link.waiting.clock = true
            ∧ t.cfg = s.cfg ∧ t.nva = s.nva ∧ t.array = s.array ∧ t.tmb = s.tmb))

/-- GET-TIME reports the calendar as it stands and changes nothing; while the scan runs it is answered NOT-READY (R52). -/
def Obligations.GetTimeReportsTheCalendar : Prop :=
  ∀ s : Machine.State,
    (s.ready → exec .getTime s = .next (s.answered 15 .ok
      (.time s.cal.instant ((s.cal.instant.day + 5) % 7)
        (if s.cal.instant.day ∈ s.cal.holidays then .holiday else .weekday ((s.cal.instant.day + 5) % 7))
        s.cal.state s.tmb.source s.cfg.site.trim)))
      ∧ (s.phase = .scanning → s.due = [] → exec .getTime s = .next (s.answered 15 .notReady .empty))
      ∧ ∀ (u : Machine.State) (day minute second : Nat), s.ready → day ≤ 65535 → minute ≤ 1439 → second ≤ 59 →
          exec (.setTime day minute second) s = .next u →
          ∃ w body, exec .getTime u = .next w ∧ w.link.response = some body
            ∧ body.body = .time { day := day, minute := minute, second := second, tick := 0 } ((day + 5) % 7)
                (if day ∈ s.cal.holidays then .holiday else .weekday ((day + 5) % 7))
                (if s.tmb.source = .reference then .synchronised else .drifted) s.tmb.source s.cfg.site.trim

/-! ## Field, reader and mode requests -/

/-- TEST-OUTPUT places the TEST claim with its clamped duration, which restarts the cadence where TEST then wins, and the
claim is withdrawn at the event where its remaining time reaches 0; a vault that is not enabled is refused STATE (R76, R78).
The winning kind is that of highest priority, and it drives SOUNDER by its tone and the intervals of its cadence, and STROBE
by its setting; both are off with no claim, and at a vault whose blocks do not act (R75 to R77). That the SSQ's claim is the
one its state gives, the premise here, is `EveryStepKeepsTheInterlock`. -/
def Obligations.TestClaimsBeginAndEnd : Prop :=
  let others (c : ClaimSet) : Bool := decide (c.ssq ≠ none) || c.siteEvacuate || c.outerForced || c.vaultForced || c.outerHeld
    || c.vaultHeld || c.chirp
  (∀ (s : Machine.State) (v : Vault) (k : Cadence) (t : Tone) (b : Bool) (seconds : Nat), s.ready → s.enabled v = true →
    (s.claimSet v).ssq = stateClaim (s.sequencer v).state →
    let d := max 1 (min 10 seconds)
    let c : ClaimSet := { s.claimSet v with test := some { cadence := k, tone := t, strobe := b, remaining := d * 100 } }
    exec (.testOutput v.num (some k) (some t) (some b) seconds) s =
      .next ((s.withClaimSet v { c with position := if others c then c.position else 0 }).answered 20 .ok
        (.test d (!others c))))
    ∧ (∀ (s : Machine.State) (v : Vault) (k t b) (seconds : Nat), s.ready → s.enabled v = false →
        exec (.testOutput v.num (some k) (some t) (some b) seconds) s = .next (s.answered 20 .state .empty))
    ∧ (∀ (s : Machine.State) (v : Vault), s.comes (.testClaim v) → s.enabled v = true →
        ∃ p, exec (.testClaimExpiry v) s =
          .next ((s.without (.testClaim v)).withClaimSet v { s.claimSet v with test := none, position := p })
          ∧ (p = 0 ∨ p = (s.claimSet v).position)
          ∧ ((s.claimSet v).ssq = stateClaim (s.sequencer v).state →
              p = if others (s.claimSet v) then (s.claimSet v).position else 0))
    ∧ ∀ (s : Machine.State) (v : Vault),
      let c := s.claimSet v
      let o := s.vaultOutputs v
      let winner : Option ClaimKind :=
        if c.ssq = some .evacuate ∨ c.siteEvacuate = true then some .evacuate
        else if c.ssq = some .discharge then some .discharge
        else if c.ssq = some .preDischarge then some .preDischarge
        else if c.ssq = some .alert then some .alert
        else if c.outerForced = true ∨ c.vaultForced = true then some .doorForced
        else if c.outerHeld = true ∨ c.vaultHeld = true then some .doorHeld
        else if c.chirp = true then some .chirp
        else c.test.map fun _ => .test
      let on (k : Cadence) : Bool :=
        match k with
        | .temporal => decide (c.position < 50 ∨ (100 ≤ c.position ∧ c.position < 150) ∨ (200 ≤ c.position ∧ c.position < 250))
        | .continuous => true
        | .fast => decide (c.position < 25)
        | .slow => decide (c.position < 100)
        | .chirp => decide (c.position < 10)
      let drives (k : Cadence) (tone : Tone) (strobe : Bool) : Prop :=
        o.sounder = (if on k then some tone else none) ∧ o.strobe = strobe
      c.winning = winner
        ∧ (winner = none → o.sounder = none ∧ o.strobe = false)
        ∧ (winner = some .evacuate → drives .temporal .high true)
        ∧ (winner = some .discharge → drives .continuous .high true)
        ∧ (winner = some .preDischarge → drives .fast .high true)
        ∧ (winner = some .alert → drives .slow .low true)
        ∧ (winner = some .doorForced → drives .continuous .low false)
        ∧ (winner = some .doorHeld → drives .slow .low false)
        ∧ (winner = some .chirp → drives .chirp .low false)
        ∧ (winner = some .test → ∀ x, c.test = some x → drives x.cadence x.tone x.strobe)
        ∧ (s.restSound = true → s.acts v = false → o.sounder = none ∧ o.strobe = false)

/-- GET-LINE-STATUS reports the lines, outputs and claims of a vault or the lines and outputs of the site, and
GET-READER-STATUS the reader records, each verdict by its place in the R91 table from 1; both change nothing, and a scope that
is neither is refused BAD-FIELD (R79, R94, R215). The
outputs follow the states: OUTER-LOCK, the bolt drives, RELEASE and ZONE-LAMP of a vault, FIRE, GUARD and MONITOR (R74, R123,
R162, R196). -/
def Obligations.LinesReadersAndOutputs : Prop :=
  (∀ s : Machine.State, s.ready →
      let line {α : Type} (q : Qualification α) (c : Nat) : LineReport α :=
        { qualified := q.qualified, last := q.last, candidate := q.candidate, run := q.run, lineClass := c }
      let verdicts : List Verdict :=
        [.granted, .grantedPair, .exitReleased, .exitUnlisted, .checkedIn, .waitSecond, .pinRequired, .starting, .escortNeeded,
          .doorBusy, .interlock, .storeBusy, .full, .pairLapsed, .notInside, .unknown, .retired, .suspended, .lockedOut,
          .lockdown, .expired, .notPermitted, .clock, .outOfHours, .pinWrong, .passback, .suppression]
      let coded (v : Verdict) (k : Option Nat) : VerdictReport :=
        { code := BitVec.ofNat 8 (verdicts.idxOf v + 1), number := k }
      let reader (a : ReaderAddress) : ReaderReport :=
        let r := s.reader a
        { inRound := s.enabled a.vault, status := r.status, misses := r.misses, presentation := r.presentation
          waiting := r.waiting.map fun i => coded i.verdict i.number
          inFlight := r.inFlight.map fun i => coded i.verdict i.number
          lastVerdict := r.lastVerdict.map fun l => (coded l.verdict l.number, l.time) }
      (∀ v : Vault, exec (.getLineStatus (.vault v.num)) s = .next (s.answered 21 .ok
          (.vaultLines (s.enabled v) (PerLine.make fun l => line (s.lineRecord v l) ((s.group v).classes.get l))
            (line (s.lines.get v).release 16) (s.vaultOutputs v) (s.claimSet v) (s.claimSet v).winning)))
        ∧ exec (.getLineStatus .site) s = .next (s.answered 21 .ok
            (.siteLines (PerSite.make fun i => (line (s.lqu.site.get i) 16, s.cfg.site.roles.get i)) s.lqu.stands
              s.lqu.count s.lqu.completed s.cfg.site.tComb s.lqu.holdAll s.guardOut s.monitorOut s.fire s.atu.latch
              s.atu.owed))
        ∧ (∀ n, 8 ≤ n → exec (.getLineStatus (.vault n)) s = .next (s.answered 21 .badField .empty))
        ∧ exec (.getLineStatus .other) s = .next (s.answered 21 .badField .empty)
        ∧ (∀ a : ReaderAddress, exec (.getReaderStatus (.address a.number)) s =
            .next (s.answered 22 .ok (.readers [reader a] none)))
        ∧ exec (.getReaderStatus .all) s =
            .next (s.answered 22 .ok (.readers (allReaders.map reader) (some s.rline.address)))
        ∧ (∀ n, 24 ≤ n → exec (.getReaderStatus (.address n)) s = .next (s.answered 22 .badField .empty))
        ∧ exec (.getReaderStatus .other) s = .next (s.answered 22 .badField .empty))
    ∧ (∀ s : Machine.State,
      (∀ v : Vault, let d := s.door v; let q := (s.sequencer v).state; let o := s.vaultOutputs v
        (o.outerLock = true ↔ d.outer = .unlocked ∨ d.outer = .emergencyUnlocked)
          ∧ (o.boltRetract = true ↔ d.vault = .retracting ∨ (d.vault = .emergencyReleased ∧ d.travel ≠ none))
          ∧ (o.boltExtend = true ↔ d.vault = .extending)
          ∧ (o.release = true ↔ q = .releasing)
          ∧ (o.zoneLamp = true ↔ q ≠ .quiet ∧ q ≠ .alert ∧ q ≠ .inhibited ∧ q ≠ .isolated))
        ∧ (s.fire = true ↔ ∃ v, s.enabled v = true ∧ (s.sequencer v).state ≠ .quiet ∧ (s.sequencer v).state ≠ .isolated)
        ∧ (s.guardOut = true ↔ ∃ r ∈ s.atu.table, r.state = .raised ∧ 2 ≤ r.level)
        ∧ (s.monitorOut = true ↔ ∃ r ∈ s.atu.table, r.level = 3))

/-- SET-SITE-MODE sets the mode and the auto flag by the R97 table, stores the requested value in the configuration block and
queues that block, or owes it where it has no place; LOCKDOWN and OPEN-HOURS drop every pending pair, and LOCKDOWN leaves
band credentials alone in the entering lists (R30, R97, R99, R100). A value outside the table is refused WRONG-MODE. -/
def Obligations.SetSiteModeSetsTheRecord : Prop :=
  ∀ s : Machine.State, s.ready → s.storeSound = true →
    exec (.setSiteMode none) s = .next (s.answered 23 .wrongMode .empty)
      ∧ ∀ m : ModeValue, ∃ t, exec (.setSiteMode (some m)) s = .next t
        ∧ t.mode = (match m with
            | .openHours => .openHours
            | .afterHours => .afterHours
            | .lockdown => .lockdown
            | .maintenance => .maintenance
            | .auto => if s.cal.containment s.cfg.site.siteSchedule = .contained then .openHours else .afterHours)
        ∧ t.auto = decide (m = .auto)
        ∧ t.cfg = { s.cfg with site := { s.cfg.site with stored :=
              { mode := if m = .auto then .afterHours else t.mode, auto := decide (m = .auto) } } }
        ∧ ((s.nva.erase = none ∧ ((s.nva.queued .config).isSome = true ∨ s.nva.queue.length < 8)) → t.configQueued)
        ∧ (¬ (s.nva.erase = none ∧ ((s.nva.queued .config).isSome = true ∨ s.nva.queue.length < 8)) →
            t.nva = { s.nva with owed := true })
        ∧ t.link.response = (s.link.answered 23 .ok (.siteMode t.mode t.auto (t.nva.position .config))).response
        ∧ ((s.mode ≠ t.mode ∨ s.auto ≠ t.auto) → t.link.waiting.mode = true)
        ∧ (s.mode ≠ t.mode → t.mode = .lockdown ∨ t.mode = .openHours → ∀ v, t.pair v = none)
        ∧ (s.mode ≠ t.mode → t.mode = .lockdown → ∀ v, ∀ k ∈ t.entering v, s.bandCredential k = true)
        ∧ t.array = s.array ∧ t.index = s.index ∧ t.failures = s.failures ∧ t.cal = s.cal ∧ t.tmb = s.tmb
        ∧ t.ssq = s.ssq ∧ t.lqu = s.lqu ∧ t.lines = s.lines ∧ t.rline = s.rline

/-! ## Door requests -/

/-- RELEASE-DOOR records a HOST grant: at the outer door it unlocks, and at the vault door the bolts are withdrawn, or a door
in RELOCK-WAIT is RELEASED; a listed number whose credential is escort-required carries the escort link of R115. It is turned
away with the reason of the first of the nine checks that fails, with nothing changed (R125, R126, R139). -/
def Obligations.ReleaseDoorGivesAHostGrant : Prop :=
  (∀ (s : Machine.State) (v : Vault), s.ready → s.registerSound = true → s.enabled v = true →
      (s.sequencer v).state = .quiet ∨ (s.sequencer v).state = .isolated → (s.door v).outer = .locked →
      ((s.door v).vault = .secured →
        let g : OuterGrant := { origin := .host, lapse := (s.group v).tOuter * 100 }
        ∃ t, exec (.releaseDoor v.num (some .outer) none) s = .next t
          ∧ t.door v = { s.door v with outer := .unlocked, outerGrant := some g }
          ∧ t.link.response = (s.link.answered 24 .ok (.outerGrant (some g))).response
          ∧ t.link.waiting.doors = true ∧ s.othersKept t v ∧ s.doorsAlone t
          ∧ t = { s with doors := t.doors, link := t.link })
        ∧ ∀ numbers : List Nat, numbers.length ≤ 2 → numbers.Nodup → (∀ k ∈ numbers, 0 < k ∧ k ≤ 4294967294) →
          (s.door v).vaultGrant = none → (s.door v).egress = none →
          (s.door v).vault = .secured ∨ (s.door v).vault = .relockWait ∨ (s.door v).vault = .extending →
          (∀ k ∈ numbers, s.atLimit k = false) → (s.mode = .lockdown → ∀ k ∈ numbers, s.bandCredential k = true) →
          (∀ k ∈ numbers, k ∉ s.placedNumbers) → s.load v + numbers.length ≤ (s.group v).limit →
          s.siteLoad + numbers.length ≤ 64 →
          ∃ t g, exec (.releaseDoor v.num (some .vault) (some numbers)) s = .next t
            ∧ (t.door v).vaultGrant = some g ∧ g.origin = .host ∧ g.exiting = [] ∧ g.unrecorded = false
            ∧ g.lapse = some ((s.group v).tGrant * 100)
            ∧ (let inside := ((s.occupancy v).entries.find? fun e => s.mayEscort e.number).map Occupant.number
              g.entering = numbers.map fun k =>
                { number := k, duress := false
                  link := if s.escortRequired k = false then none
                    else match numbers.find? fun j => decide (j ≠ k) with
                      | some j => if s.mayEscort j then some j else inside
                      | none => inside })
            ∧ (t.door v).vault = (if (s.door v).vault = .relockWait then .released else s.retractsTo v)
            ∧ (t.door v).outer = .locked
            ∧ t.link.response = (s.link.answered 24 .ok (.vaultGrant g)).response
            ∧ t.link.waiting.doors = true ∧ s.othersKept t v ∧ s.doorsAlone t)
    ∧ (∀ (s : Machine.State) (v : Vault) (which : Door) (entering : Option (List Nat)), s.ready →
      (which = .outer → entering = none) →
      let numbers : List Nat := entering.getD []
      numbers.length ≤ 2 → numbers.Nodup → (∀ k ∈ numbers, 0 < k ∧ k ≤ 4294967294) →
      let c : Instr := .releaseDoor v.num (some which) entering
      let because (x : Verdict) : Prop := exec c s = .next (s.answered 24 .state (.reason x))
      let d := s.door v
      let may : Prop := (s.sequencer v).state = .quiet ∨ (s.sequencer v).state = .isolated
      let takes : Prop := (which = .outer → d.outer = .locked)
        ∧ (which = .vault → d.vaultGrant = none ∧ d.egress = none
            ∧ (d.vault = .secured ∨ d.vault = .relockWait ∨ d.vault = .extending))
      let other : Prop := (which = .outer → d.vault = .secured) ∧ (which = .vault → d.outer = .locked)
      (s.enabled v = false → exec c s = .next (s.answered 24 .state .empty))
        ∧ (s.enabled v = true → ¬ may → because .suppression)
        ∧ (s.enabled v = true → may → ¬ takes → because .doorBusy)
        ∧ (s.enabled v = true → may → takes → ¬ other → because .interlock)
        ∧ (s.enabled v = true → may → takes → other →
          ((∃ k ∈ numbers, s.atLimit k = true) → because .lockedOut)
          ∧ ((∀ k ∈ numbers, s.atLimit k = false) →
            (s.mode = .lockdown → (∃ k ∈ numbers, s.bandCredential k = false) → because .lockdown)
            ∧ ((s.mode = .lockdown → ∀ k ∈ numbers, s.bandCredential k = true) →
              ((∃ k ∈ numbers, k ∈ s.placedNumbers) → because .passback)
              ∧ ((∀ k ∈ numbers, k ∉ s.placedNumbers) →
                (s.group v).limit < s.load v + numbers.length ∨ 64 < s.siteLoad + numbers.length → because .full)))))
    ∧ ∀ s : Machine.State, s.ready →
      let badField (c : Instr) : Prop := exec c s = .next (s.answered 24 .badField .empty)
      (∀ n which entering, 8 ≤ n → badField (.releaseDoor n which entering))
        ∧ (∀ v : Vault, ∀ entering, badField (.releaseDoor v.num none entering))
        ∧ (∀ v : Vault, ∀ numbers, badField (.releaseDoor v.num (some .outer) (some numbers)))
        ∧ ∀ (v : Vault) (numbers : List Nat),
            2 < numbers.length ∨ (∃ k ∈ numbers, k = 0 ∨ 4294967294 < k) ∨ ¬ numbers.Nodup →
            badField (.releaseDoor v.num (some .vault) (some numbers))

/-- SECURE-DOOR withdraws an entry grant of the outer door, and at the vault door it empties the entering list, discards a
grant left without exits and extends the bolts where nothing is left outstanding; a jammed door is tried again (R140).
HOLD-DOOR sets the held timer of an open door to the clamped extension; a door that is not OPEN or already reported held is
refused STATE (R141). -/
def Obligations.SecureDoorAndHoldDoor : Prop :=
  (∀ (s : Machine.State) (v : Vault), s.ready → s.enabled v = true → (s.door v).emergency = false →
      (∃ t, exec (.secureDoor v.num (some .outer)) s = .next t
          ∧ (t.door v).outerGrant = (s.door v).outerGrant.filter (fun g => g.origin = .egress)
          ∧ (t.door v).outer = (match (s.door v).outerGrant with
              | none => (s.door v).outer
              | some g => if g.origin ≠ .egress ∧ (s.door v).outer = .unlocked then .locked else (s.door v).outer)
          ∧ (t.door v).vault = (s.door v).vault ∧ (t.door v).vaultGrant = (s.door v).vaultGrant
          ∧ t.link.response = (s.link.answered 25 .ok (.doorStates (t.door v).outer (t.door v).vault)).response
          ∧ s.othersKept t v ∧ s.doorsAlone t)
        ∧ ∃ t, exec (.secureDoor v.num (some .vault)) s = .next t
          ∧ (t.door v).vaultGrant = (match (s.door v).vaultGrant with
              | none => none
              | some g => if g.exiting = [] ∧ g.unrecorded = false then none else some { g with entering := [], origin := .exit })
          ∧ (t.door v).egress = (s.door v).egress
          ∧ (t.door v).vault = (match (s.door v).vault with
              | .retracting => if (t.door v).vaultGrant = none ∧ (s.door v).egress = none then s.extendsTo v else .retracting
              | .released => if (t.door v).vaultGrant = none ∧ (s.door v).egress = none then s.extendsTo v else .released
              | .jammed => if (t.door v).vaultGrant = none ∧ (s.door v).egress = none then s.extendsTo v else s.retractsTo v
              | other => other)
          ∧ (t.door v).outer = (s.door v).outer
          ∧ t.link.response = (s.link.answered 25 .ok (.doorStates (t.door v).outer (t.door v).vault)).response
          ∧ s.othersKept t v ∧ s.doorsAlone t)
    ∧ (∀ (s : Machine.State) (v : Vault) (seconds : Nat), s.ready → s.enabled v = true →
      let e := max 1 (min 900 seconds)
      ((s.door v).outer = .opened → (s.door v).outerHeldStands = false →
          exec (.holdDoor v.num (some .outer) seconds) s =
            .next ((s.withDoor v { s.door v with outerHeld := some (e * 100) }).answered 26 .ok (.extension e)))
        ∧ ((s.door v).vault = .opened → (s.door v).vaultHeldStands = false →
          exec (.holdDoor v.num (some .vault) seconds) s =
            .next ((s.withDoor v { s.door v with vaultHeld := some (e * 100) }).answered 26 .ok (.extension e)))
        ∧ ((s.door v).outer ≠ .opened ∨ (s.door v).outerHeldStands = true →
          exec (.holdDoor v.num (some .outer) seconds) s = .next (s.answered 26 .state .empty))
        ∧ ((s.door v).vault ≠ .opened ∨ (s.door v).vaultHeldStands = true →
          exec (.holdDoor v.num (some .vault) seconds) s = .next (s.answered 26 .state .empty)))

/-- GET-DOOR-STATUS reports the door record, its times in ticks and in seconds rounded up, the causes of the emergency
condition, the standing conditions and the qualified door lines, and changes nothing; a vault above 7 is refused BAD-FIELD
(R142). A vault that is not enabled reads as a reset leaves it (R143). That UNBADGED-EGRESS is read from the alarm table is the
model's choice (notes/assumptions/39.md). -/
def Obligations.GetDoorStatusReportsTheDoors : Prop :=
  ∀ s : Machine.State, s.ready →
    (∀ n, 8 ≤ n → exec (.getDoorStatus n) s = .next (s.answered 27 .badField .empty))
      ∧ ∀ v : Vault,
        let d := s.door v
        let both (t : Option Nat) : Option Timed := t.map fun n => { ticks := n, seconds := (n + 99) / 100 }
        exec (.getDoorStatus v.num) s = .next (s.answered 27 .ok
          (.doors d
            [both (d.outerGrant.map OuterGrant.lapse), both (d.vaultGrant.bind VaultGrant.lapse), both d.egress,
             both d.travel, both d.relock, both d.outerHeld, both d.vaultHeld]
            (s.enabled v && s.atu.latch) (decide ((s.sequencer v).state = .inhibited))
            (s.conditionStands (keyOf .unbadgedEgress (some v) none))
            [(s.lineRecord v .outerContact).qualified, (s.lineRecord v .vaultContact).qualified,
             (s.lineRecord v .boltsThrown).qualified, (s.lineRecord v .boltsWithdrawn).qualified]))
        ∧ (s.restSound = true → s.enabled v = false → d = resetDoor)

/-! ## Occupancy requests -/

/-- ADD-OCCUPANT adds an entry at the end of the vault's list, and REMOVE-OCCUPANT takes one out, wherever it stands; neither
changes the certainty, and no other vault is touched (R158, R159). Each settles the escort links and ESCORT-LEFT (R154, R155)
and reports to the SSQ: an addition takes an automatic countdown to INHIBITED (R173). CONFIRM-OCCUPANCY makes a vault with its
door shut CERTAIN and leaves the list as it stands; an INHIBITED vault that is empty then begins its countdown. With
VAULT-CONTACT ACTIVE it is refused STATE (R148, R153, R165). -/
def Obligations.OccupancyRequests : Prop :=
  (∀ (s : Machine.State) (v : Vault) (k : Nat), s.ready → s.enabled v = true → 0 < k → k ≤ 4294967294 →
      (∀ link : Option Nat, (∀ j, link = some j → 0 < j ∧ j ≤ 4294967294 ∧ j ≠ k ∧
            ∃ e ∈ (s.occupancy v).entries, e.number = j) →
          k ∉ s.placedNumbers → s.load v + 1 ≤ (s.group v).limit → s.siteLoad + 1 ≤ 64 →
          ∃ t e, exec (.addOccupant v.num k link) s = .next t
            ∧ (t.occupancy v).entries.map Occupant.number = (s.occupancy v).entries.map Occupant.number ++ [k]
            ∧ (t.occupancy v).entries.getLast? = some e ∧ e.number = k ∧ e.entered = s.cal.instant ∧ e.underDuress = false
            ∧ e.wanted = (link.isSome || s.escortRequired k) ∧ (∀ j, link = some j → e.link = some j)
            ∧ (t.occupancy v).certain = (s.occupancy v).certain
            ∧ (((s.occupancy v).entries.map Occupant.number).Nodup →
                ∀ x ∈ (s.occupancy v).entries ++ [s.newOccupant { number := k, duress := false, link := link } s.cal.instant],
                  s.linkSettled t v ((s.occupancy v).entries.map Occupant.number ++ [k]) [k] x)
            ∧ (let q := s.sequencer v
              let counts : Prop := (q.state = .countdown ∨ q.state = .held ∨ q.state = .awaitClosure) ∧ q.path = some .automatic
              (counts → s.inhibits t v) ∧ (¬ counts → t.sequencer v = { q with clear := false }))
            ∧ t.link.response = (s.link.answered 29 .ok
                (.occupantAdded (some e) ((s.occupancy v).entries.length + 1))).response
            ∧ t.link.waiting.occupancy = true ∧ s.othersKept t v ∧ t.nva = s.nva ∧ t.index = s.index ∧ t.array = s.array
            ∧ t.cfg = s.cfg ∧ t.cal = s.cal ∧ t.mode = s.mode)
        ∧ (s.registerSound = true → (∃ e ∈ (s.occupancy v).entries, e.number = k) →
          ∃ t, exec (.removeOccupant k) s = .next t
            ∧ (t.occupancy v).entries.map Occupant.number = ((s.occupancy v).entries.map Occupant.number).filter (· ≠ k)
            ∧ (t.occupancy v).certain = (s.occupancy v).certain
            ∧ (∀ x ∈ (s.occupancy v).entries,
                (x.number ≠ k → s.linkSettled t v (((s.occupancy v).entries.map Occupant.number).filter (· ≠ k)) [] x)
                  ∧ (x.number = k → s.atu.lawful = true →
                    (x.overdue = true → t.conditionStands (loneWorkerKey v k) = false)
                      ∧ (x.wanted = true → x.link = none → t.conditionStands (escortLeftKey v k) = false)))
            ∧ ((s.sequencer v).state = .inhibited → (s.occupancy v).certain = true → (s.occupancy v).entries.length = 1 →
                ((t.sequencer v).state = .countdown ∨ (t.sequencer v).state = .held)
                  ∧ (t.sequencer v).path = some .automatic ∧ (t.sequencer v).committed = s.stagedSet v)
            ∧ t.link.response = (s.link.answered 30 .ok
                (.occupantRemoved v ((s.occupancy v).entries.length - 1))).response
            ∧ t.link.waiting.occupancy = true ∧ s.othersKept t v ∧ t.nva = s.nva ∧ t.index = s.index ∧ t.array = s.array
            ∧ t.cfg = s.cfg ∧ t.cal = s.cal ∧ t.mode = s.mode)
        ∧ ((∀ w, ∀ e ∈ (s.occupancy w).entries, e.number ≠ k) →
          exec (.removeOccupant k) s = .next (s.answered 30 .notFound .empty)))
    ∧ (∀ (s : Machine.State) (v : Vault), s.ready → s.enabled v = true →
      ((s.lineRecord v .vaultContact).qualified = some .active →
          exec (.confirmOccupancy v.num) s = .next (s.answered 31 .state .empty))
        ∧ ((s.lineRecord v .vaultContact).qualified ≠ some .active →
          ∃ t, exec (.confirmOccupancy v.num) s = .next t
            ∧ t.occupancy v = { s.occupancy v with certain := true }
            ∧ t.link.response = (s.link.answered 31 .ok (.occupancy (s.occupancy v).entries.length true)).response
            ∧ ((s.occupancy v).certain = true → t = s.answered 31 .ok (.occupancy (s.occupancy v).entries.length true))
            ∧ ((s.occupancy v).certain = false → t.link.waiting.occupancy = true
                ∧ (t.sequencer v).clear = decide ((s.occupancy v).entries = []))
            ∧ ((s.occupancy v).certain = false → (s.sequencer v).state = .inhibited → (s.occupancy v).entries = [] →
                0 < (s.stagedSet v).dAuto →
                ((t.sequencer v).state = .countdown ∨ (t.sequencer v).state = .held)
                  ∧ (t.sequencer v).path = some .automatic ∧ (t.sequencer v).committed = s.stagedSet v)
            ∧ s.othersKept t v ∧ t.nva = s.nva ∧ t.index = s.index ∧ t.array = s.array ∧ t.cfg = s.cfg ∧ t.cal = s.cal
            ∧ t.mode = s.mode))

/-! ## Suppression requests -/

/-- GLOBAL-HOLD sets the one setting of the site; set to ON it holds every countdown of an enabled vault that runs, set to
OFF it frees the countdowns that no other source holds, and it leaves the site HOLD-ALL input, the register and the doors'
records alone. A value that is neither is refused BAD-FIELD (R167, R170, R171). -/
def Obligations.GlobalHoldHoldsTheCountdowns : Prop :=
  ∀ s : Machine.State, s.ready →
    exec (.globalHold none) s = .next (s.answered 32 .badField .empty)
      ∧ (∃ t, exec (.globalHold (some true)) s = .next t ∧ t.globalHold = true ∧ t.lqu = s.lqu
          ∧ t.link.response = (s.link.answered 32 .ok (.hold true s.lqu.holdAll)).response
          ∧ (∀ v, (s.sequencer v).state = .countdown ∨ (s.sequencer v).state = .awaitClosure →
              (t.sequencer v).state = .held ∧ (t.sequencer v).holdHoldAll = true
                ∧ (t.sequencer v).remaining = (s.sequencer v).remaining)
          ∧ (∀ v, (s.sequencer v).state = .quiet ∨ (s.sequencer v).state = .releasing →
              t.sequencer v = s.sequencer v)
          ∧ t.occ = s.occ ∧ t.doors = s.doors ∧ t.nva = s.nva ∧ t.cfg = s.cfg ∧ t.array = s.array)
      ∧ ∃ t, exec (.globalHold (some false)) s = .next t ∧ t.globalHold = false ∧ t.lqu = s.lqu
          ∧ t.link.response = (s.link.answered 32 .ok (.hold false s.lqu.holdAll)).response
          ∧ (∀ v, (s.sequencer v).state = .held → s.lqu.holdAll = false → (s.sequencer v).egress = .none →
              (s.sequencer v).abortElapsed = none → s.resumes t v)
          ∧ t.occ = s.occ ∧ t.doors = s.doors ∧ t.nva = s.nva ∧ t.cfg = s.cfg ∧ t.array = s.array

/-- SET-SUPPRESSION-PARAMS stages the clamped set of one vault and queues the configuration block; the committed sets stand
(R181, R182). -/
def Obligations.SetSuppressionParamsStagesTheSet : Prop :=
  ∀ (s : Machine.State) (v : Vault) (p : SuppressionWrite) (m : ResumeMode), s.ready → s.storeSound = true →
    p.resume = some m → (s.cfg.lock = true → s.mode = .maintenance) →
    (s.cfg.lock = true → s.enabled v = true → (s.sequencer v).state = .isolated) → s.storeBusy = false →
    let dAuto := max 100 (min 600 p.dAuto)
    let set : SuppressionSet :=
      { dAuto := dAuto, dMan := max 100 (min 600 p.dMan), floor := min dAuto p.floor, hMax := min 3000 p.hMax, resume := m
        pulse := max 5 (min 50 p.pulse), soak := max 1 (min 240 p.soak) }
    ∃ t, exec (.setSuppressionParams v.num p) s = .next t
      ∧ t.cfg = { s.cfg with suppression := s.cfg.suppression.set v set } ∧ t.stagedSet v = set
      ∧ (∀ w, w ≠ v → t.stagedSet w = s.stagedSet w) ∧ t.configQueued
      ∧ t.link = s.link.answered 33 .ok
          (.staged set (decide (set ≠ (s.sequencer v).committed)) (s.placing .config))
      ∧ t = { s with cfg := t.cfg, nva := t.nva, link := t.link }

/-- READ-SUPPRESSION-PARAMS reports the committed and the staged set of a vault and changes nothing (R183). -/
def Obligations.ReadSuppressionParamsReportsBothSets : Prop :=
  ∀ s : Machine.State,
    (s.ready → ∀ n, 8 ≤ n → exec (.readSuppressionParams n) s = .next (s.answered 34 .badField .empty))
      ∧ (s.ready → ∀ v : Vault, exec (.readSuppressionParams v.num) s = .next (s.answered 34 .ok
          (.suppressionSets (s.sequencer v).committed (s.stagedSet v)
            (decide (s.stagedSet v ≠ (s.sequencer v).committed))
            ((s.nva.queued .config).isSome || s.nva.owed))))
      ∧ (s.phase = .scanning → s.due = [] →
          ∀ n, exec (.readSuppressionParams n) s = .next (s.answered 34 .notReady .empty))

/-- RESET-SUPPRESSION by the table of R184: QUIET stands; a sequence that has not released returns to QUIET where no detector
and no manual release stands; RELEASING, VERIFYING and ISOLATED are refused; DISCHARGED waits for the soak and for
DISCHARGE, and then commits the staged set. -/
def Obligations.ResetSuppressionFollowsItsTable : Prop :=
  ∀ (s : Machine.State) (v : Vault), s.ready → s.enabled v = true →
    let q := s.sequencer v
    let c : Instr := .resetSuppression v.num
    let counts (l : Line) : Prop := (s.lineRecord v l).qualified = some .active
    let manualNormal : Prop := (s.lineRecord v .manualRelease).qualified = none
      ∨ (s.lineRecord v .manualRelease).qualified = some .normal
    (q.state = .quiet → exec c s = .next (s.answered 35 .ok (.sequencerState .quiet)))
      ∧ (q.state = .alert ∨ q.state = .inhibited ∨ q.state = .countdown ∨ q.state = .held ∨ q.state = .awaitClosure →
          (¬ counts .detectorA ∧ ¬ counts .detectorB ∧ manualNormal →
            ∃ t, exec c s = .next t ∧ (t.sequencer v).state = .quiet ∧ (t.sequencer v).path = none
              ∧ (t.sequencer v).remaining = none ∧ (t.sequencer v).abortElapsed = none
              ∧ (t.sequencer v).committed = q.committed ∧ (t.claimSet v).ssq = none
              ∧ t.link.response = (s.link.answered 35 .ok (.sequencerState .quiet)).response
              ∧ t.link.waiting.suppression = true ∧ s.othersKept t v ∧ t.occ = s.occ ∧ t.nva = s.nva ∧ t.cfg = s.cfg)
          ∧ (counts .detectorA ∨ counts .detectorB ∨ ¬ manualNormal → exec c s = .next (s.answered 35 .state .empty)))
      ∧ (q.state = .releasing ∨ q.state = .verifying ∨ q.state = .isolated →
          exec c s = .next (s.answered 35 .state .empty))
      ∧ (q.state = .discharged → q.soak ≠ none → exec c s = .next (s.answered 35 .soakActive .empty))
      ∧ (q.state = .discharged → q.soak = none → counts .discharge → exec c s = .next (s.answered 35 .state .empty))
      ∧ (q.state = .discharged → q.soak = none → ¬ counts .discharge → ¬ counts .detectorA → ¬ counts .detectorB →
          ∃ t, exec c s = .next t
            ∧ (t.sequencer v).state = (if s.countsActive v .isolate then .isolated else .quiet)
            ∧ (t.sequencer v).committed = s.stagedSet v ∧ (t.sequencer v).detail = none
            ∧ t.link.response = (s.link.answered 35 .ok (.sequencerState (t.sequencer v).state)).response
            ∧ t.link.waiting.suppression = true ∧ s.othersKept t v ∧ t.occ = s.occ ∧ t.nva = s.nva ∧ t.cfg = s.cfg)

/-! ## Alarm requests -/

/-- ACK-ALARM by the table of R198: a RAISED record becomes ACKNOWLEDGED with its level kept and its escalation stopped, an
ACKNOWLEDGED one stands, and a CLEARED-UNACK one retires; id 0 and an id in no record are refused. CLEAR-ALARM ends the
condition of a host-clear record: RAISED becomes CLEARED-UNACK at level 0, ACKNOWLEDGED retires. A condition kind is refused
STATE, and so is the site EVACUATION record while the combination stands; accepted for that record, it ends the latch and the
emergency condition of every enabled vault that is not INHIBITED (R137, R193, R198, R199). -/
def Obligations.AckAndClearFollowTheirTables : Prop :=
  (∀ (s : Machine.State), s.ready → s.atu.lawful = true →
      exec (.ackAlarm 0) s = .next (s.answered 37 .badField .empty)
        ∧ (∀ id, 0 < id → (∀ r ∈ s.atu.table, r.id ≠ id) → exec (.ackAlarm id) s = .next (s.answered 37 .notFound .empty))
        ∧ ∀ r ∈ s.atu.table, 0 < r.id →
          (r.state = .raised →
            ∃ t, exec (.ackAlarm r.id) s = .next t
              ∧ t.atu = { s.atu with table := s.atu.table.map fun x =>
                  if x.id = r.id then { x with state := .acknowledged, escalation := none } else x }
              ∧ t.link.response = (s.link.answered 37 .ok (.alarmState (some .acknowledged))).response
              ∧ t.link.waiting = { s.link.waiting with alarms := true }
              ∧ ((∀ v d, r.key ≠ keyOf .doorForced (some v) (some (.door d))
                  ∧ r.key ≠ keyOf .doorHeld (some v) (some (.door d))) → r.key.credential = none → t.claims = s.claims)
              ∧ t = { s with atu := t.atu, claims := t.claims, link := t.link })
          ∧ (r.state = .acknowledged →
              exec (.ackAlarm r.id) s = .next (s.answered 37 .ok (.alarmState (some .acknowledged))))
          ∧ (r.state = .clearedUnack → s.atu.owed = false →
            ∃ t, exec (.ackAlarm r.id) s = .next t
              ∧ t.atu = { s.atu with table := s.atu.table.filter fun x => x.id ≠ r.id }
              ∧ t.link.response = (s.link.answered 37 .ok (.alarmState none)).response
              ∧ t = { s with atu := t.atu, link := t.link }))
    ∧ (∀ (s : Machine.State), s.ready → s.atu.lawful = true → ∀ r ∈ s.atu.table, 0 < r.id →
      (hostClear r.key = false → exec (.clearAlarm r.id) s = .next (s.answered 38 .state .empty))
        ∧ (hostClear r.key = true → r.key ≠ keyOf .evacuation none none → r.state = .raised →
            ∃ t, exec (.clearAlarm r.id) s = .next t
              ∧ t.atu = { s.atu with table := s.atu.table.map fun x =>
                  if x.id = r.id then { x with state := .clearedUnack, level := 0, escalation := none } else x }
              ∧ t.link.response = (s.link.answered 38 .ok (.alarmState (some .clearedUnack))).response
              ∧ t = { s with atu := t.atu, link := t.link })
        ∧ (hostClear r.key = true → r.key ≠ keyOf .evacuation none none → r.state = .acknowledged → s.atu.owed = false →
            ∃ t, exec (.clearAlarm r.id) s = .next t
              ∧ t.atu = { s.atu with table := s.atu.table.filter fun x => x.id ≠ r.id }
              ∧ t.link.response = (s.link.answered 38 .ok (.alarmState none)).response
              ∧ t = { s with atu := t.atu, link := t.link })
        ∧ (hostClear r.key = true → r.key ≠ keyOf .evacuation none none → r.state = .clearedUnack →
            exec (.clearAlarm r.id) s = .next (s.answered 38 .ok (.alarmState (some .clearedUnack))))
        ∧ (r.key = keyOf .evacuation none none → s.lqu.stands = true →
            exec (.clearAlarm r.id) s = .next (s.answered 38 .state .empty))
        ∧ (r.key = keyOf .evacuation none none → s.lqu.stands = false → r.state ≠ .acknowledged →
            ∃ t, exec (.clearAlarm r.id) s = .next t ∧ t.atu.latch = false ∧ t.atu.owed = false
              ∧ t.link.response = (s.link.answered 38 .ok (.alarmState (some .clearedUnack))).response
              ∧ (∀ v, s.enabled v = true → (t.claimSet v).siteEvacuate = false)
              ∧ (∀ v, s.enabled v = true → (s.sequencer v).state ≠ .inhibited → (t.door v).emergency = false)
              ∧ t.occ = s.occ ∧ t.nva = s.nva ∧ t.cfg = s.cfg ∧ t.lqu = s.lqu))

/-- LIST-ALARMS reports the head of the table and at most eight records from its start position on, with the silent kinds
passed over under AUDIBLE, and sets the overflow count to 0 after reporting it (R188, R200). That the next page begins at the
next record that the filter lets through is the model's choice (notes/assumptions/29.md). -/
def Obligations.ListAlarmsGivesAPage : Prop :=
  ∀ s : Machine.State, s.ready →
    (∀ start, exec (.listAlarms start none) s = .next (s.answered 39 .badField .empty))
      ∧ (∀ f start, start = 0 ∨ 48 < start → exec (.listAlarms start (some f)) s = .next (s.answered 39 .badField .empty))
      ∧ ∀ (f : AlarmFilter) (start : Nat), 1 ≤ start → start ≤ 48 →
        let rows := (s.atu.table.zipIdx 1).filter fun (e : AlarmRecord × Nat) =>
          decide (start ≤ e.2 ∧ (f = .all ∨ (e.1.key.kind ≠ .duressButton ∧ e.1.key.kind ≠ .duressCode)))
        exec (.listAlarms start (some f)) s =
          .next ({ s with atu := { s.atu with overflow := 0 } }.answered 39 .ok
            (.alarms s.atu.table.length s.atu.overflow s.guardOut s.monitorOut s.atu.latch s.atu.counter
              ((rows.take 8).map fun (e : AlarmRecord × Nat) => alarmImage e.2 e.1) (((rows.drop 8).head?.map fun (e : AlarmRecord × Nat) => e.2).getD 0)))

/-- READ-ALARM reports one record with its position, its kind's priority and maximum level and its escalation, and changes
nothing; id 0 is refused BAD-FIELD and an id in no record NOT-FOUND, and while the scan runs it is NOT-READY. Neither it nor
LIST-ALARMS clears an attention cause, and GET-ATTENTION clears ALARMS (R201). -/
def Obligations.ReadAlarmReportsOneRecord : Prop :=
  ∀ s : Machine.State,
    (s.ready → exec (.readAlarm 0) s = .next (s.answered 40 .badField .empty))
      ∧ (s.ready → ∀ id, 0 < id → (∀ r ∈ s.atu.table, r.id ≠ id) →
          exec (.readAlarm id) s = .next (s.answered 40 .notFound .empty))
      ∧ (s.phase = .scanning → s.due = [] → ∀ id, exec (.readAlarm id) s = .next (s.answered 40 .notReady .empty))
      ∧ (s.ready → ∀ (before : List AlarmRecord) (r : AlarmRecord) (after : List AlarmRecord),
          s.atu.table = before ++ r :: after → (∀ x ∈ before, x.id ≠ r.id) → 0 < r.id →
          exec (.readAlarm r.id) s = .next (s.answered 40 .ok
            (.alarm (alarmImage (before.length + 1) r) (kindPriority r.key.kind) (maxLevel r.key.kind)
              (r.escalation.map fun n => { ticks := n, seconds := (n + 99) / 100 }))))
      ∧ (s.ready → ∀ (start : Nat) (f : Option AlarmFilter), ∃ t, exec (.listAlarms start f) s = .next t
          ∧ t.link.waiting = s.link.waiting)
      ∧ (s.ready → ∃ t, exec .getAttention s = .next t ∧ t.link.waiting.alarms = false)

/-! ## Link requests -/

/-- GET-ATTENTION reports both sets and empties the pending set, and SET-ATTENTION-ENABLE sets the enable set. GET-SITE-STATUS
and GET-RESET-CAUSE report the part and change nothing; these two and GET-ATTENTION are answered during the scan as well. An
accepted RESTART arranges the reset and answers OK. ATTN is driven low exactly while some cause is both pending and enabled
(R206, R207, R210). -/
def Obligations.AttentionSiteStatusAndRestart : Prop :=
  (∀ s : Machine.State, s.awake →
      exec .getAttention s = .next ({ s with link := { s.link with waiting := {} } }.answered 41 .ok
          (.attention s.link.waiting s.link.enabled))
        ∧ (s.phase = .running → ∀ e : Causes, exec (.setAttentionEnable e) s =
            .next ({ s with link := { s.link with enabled := e } }.answered 42 .ok (.attention s.link.waiting e)))
        ∧ (s.attnLow = true ↔
            (s.link.waiting.alarms = true ∧ s.link.enabled.alarms = true)
              ∨ (s.link.waiting.occupancy = true ∧ s.link.enabled.occupancy = true)
              ∨ (s.link.waiting.suppression = true ∧ s.link.enabled.suppression = true)
              ∨ (s.link.waiting.doors = true ∧ s.link.enabled.doors = true)
              ∨ (s.link.waiting.store = true ∧ s.link.enabled.store = true)
              ∨ (s.link.waiting.mode = true ∧ s.link.enabled.mode = true)
              ∨ (s.link.waiting.verdict = true ∧ s.link.enabled.verdict = true)
              ∨ (s.link.waiting.clock = true ∧ s.link.enabled.clock = true)))
    ∧ (∀ s : Machine.State, s.awake →
      exec .getResetCause s = .next (s.answered 47 .ok (.resetCause s.resetKind s.phase))
        ∧ exec .getSiteStatus s = .next (s.answered 43 .ok
            (.siteStatus s.phase s.resetKind s.mode s.auto s.cal.state s.cal.instant s.tmb.source s.link.waiting
              s.link.enabled s.supply s.nva.queue.length s.nva.owed (decide (s.nva.damaged ≠ [])) s.cfg.lock
              (decide (s.nva.erase ≠ none)) s.atu.table.length s.atu.overflow s.atu.latch s.atu.owed s.guardOut s.monitorOut
              s.fire s.globalHold s.lqu.holdAll
              (PerVault.make fun v =>
                { enabled := s.enabled v, ssq := (s.sequencer v).state, outer := (s.door v).outer, vault := (s.door v).vault
                  count := (s.occupancy v).entries.length, certain := (s.occupancy v).certain
                  pairStands := decide (s.pair v ≠ none) })))
        ∧ (s.phase = .running → exec .restart s =
            .next ({ s with link := { s.link with restartArranged := true } }.answered 46 .ok .empty)))

/-- WRITE-PARAMS clamps the group, gives its values to their owners, queues the configuration block and carries the group as
stored. In the order of R208, a group or a value out of its list is refused BAD-FIELD, a change that the commissioning lock
forbids LOCKED, an L_v that is below the load once clamped IN-USE, and a write without a place STORE-BUSY (R27, R208). A vault
that ceases to be enabled is as a reset leaves it. One that becomes enabled is UNCERTAIN with an empty list, its committed set is
taken from the staged set, and its doors extend or, under the latch, are released (R143, R159, R187); that their first drive has
the T_bolt in force before is the model's inference (notes/assumptions/28.md). A pair flag cleared drops the pending pair and
hands PAIR-LAPSED (R100). -/
def Obligations.WriteParamsStoresTheGroup : Prop :=
  ∀ s : Machine.State, s.ready → s.storeSound = true →
    (∀ (w : SiteWrite) (roles : PerSite Role), w.bandSize % 64 = 0 → w.bandSize ≤ 512 → w.siteSchedule < 32 →
      w.roles = ⟨some roles.s0, some roles.s1, some roles.s2, some roles.s3⟩ →
      (s.cfg.lock = true → s.mode ≠ .maintenance → w.bandSize = s.cfg.site.bandSize) → s.storeBusy = false →
      let g : SiteGroup :=
        { failureLimit := max 3 (min 9 w.failureLimit), forgiveness := max 1 (min 255 w.forgiveness)
          bandSize := w.bandSize, maxAttempts := max 1 (min 20 w.maxAttempts), trim := max (-127) (min 127 w.trim)
          siteSchedule := w.siteSchedule, stored := s.cfg.site.stored, pairWindow := max 5 (min 60 w.pairWindow)
          roles := roles, tComb := max 1 (min 10 w.tComb), e1 := max 10 (min 600 w.e1), e2 := max 10 (min 1800 w.e2) }
      ∃ t, exec (.writeParams (.site w)) s = .next t ∧ t.cfg = { s.cfg with site := g } ∧ t.configQueued
        ∧ t.link.response = (s.link.answered 44 .ok (.siteWritten g (s.placing .config))).response
        ∧ t.lqu.stands = t.lqu.combination roles ∧ t.lqu.holdAll = t.lqu.holdAllInput roles
        ∧ t.array = s.array ∧ t.occ = s.occ ∧ t.cal = s.cal ∧ t.mode = s.mode)
      ∧ (∀ (v : Vault) (w : VaultWrite) (e p a : Bool), w.enabled = some e → w.pairFlag = some p → w.allHours = some a →
        (∀ l, goodClass (w.classes.get l) = true) →
        (s.cfg.lock = true → s.mode ≠ .maintenance → e = s.enabled v ∧ w.classes = (s.group v).classes) →
        s.load v ≤ max 1 (min 16 w.limit) → s.storeBusy = false →
        let g : VaultGroup :=
          { enabled := e, pairFlag := p, allHours := a, limit := max 1 (min 16 w.limit)
            loneInterval := max 5 (min 120 w.loneInterval), tBolt := max 2 (min 20 w.tBolt)
            tGrant := max 3 (min 30 w.tGrant), relock := min 10 w.relock, tHeld := max 10 (min 600 w.tHeld)
            tOuter := max 3 (min 30 w.tOuter), classes := w.classes }
        ∃ t, exec (.writeParams (.vault v.num w)) s = .next t
          ∧ t.cfg = { s.cfg with vaults := s.cfg.vaults.set v g } ∧ t.configQueued
          ∧ t.link.response = (s.link.answered 44 .ok (.vaultWritten g (s.placing .config))).response
          ∧ (e = false → s.enabled v = true → t.door v = resetDoor ∧ (t.occupancy v).entries = [] ∧ t.pair v = none
              ∧ t.lines.get v = resetLines ∧ t.claimSet v = noClaims ∧ (t.sequencer v).state = .quiet
              ∧ (t.occupancy v).certain = true)
          ∧ (e = true → s.enabled v = false →
              t.sequencer v = { resetSsq (s.stagedSet v) with clear := false } ∧ (t.occupancy v).certain = false
                ∧ (s.atu.latch = true → (t.door v).emergency = true ∧ (t.door v).outer = .emergencyUnlocked
                    ∧ (t.door v).vault = .emergencyReleased ∧ (t.claimSet v).siteEvacuate = true
                    ∧ ∃ g, (t.door v).vaultGrant = some g ∧ g.origin = .emergency)
                ∧ (s.restSound = true → (t.occupancy v).entries = [] ∧ t.pair v = none ∧ t.lines.get v = resetLines
                    ∧ (t.door v).travel = some ((s.group v).tBolt * 100)
                    ∧ (s.atu.latch = false →
                        t.door v = { resetDoor with vault := .extending, travel := some ((s.group v).tBolt * 100) })))
          ∧ (e = true → s.enabled v = true →
              (∀ pr, (s.group v).pairFlag = true → p = false → s.pair v = some pr →
                let r := s.reader ⟨v, .inner⟩
                let verdict : Indication := { verdict := .pairLapsed, number := some pr.first }
                t.pair v = none ∧ t.link.waiting.verdict = true
                  ∧ t.reader ⟨v, .inner⟩ = { r with
                      lastVerdict := some { verdict := .pairLapsed, number := some pr.first, time := s.stamp }
                      waiting := if r.status = .silent then r.waiting else some verdict })
                ∧ ((s.group v).pairFlag = false ∨ p = true ∨ s.pair v = none → t.pair v = s.pair v ∧ t.readers = s.readers))
          ∧ t.array = s.array ∧ t.cal = s.cal ∧ t.mode = s.mode ∧ t.lqu = s.lqu)
      ∧ exec (.writeParams .other) s = .next (s.answered 44 .badField .empty)
      ∧ (∀ (n : Nat) (w : VaultWrite), 8 ≤ n → exec (.writeParams (.vault n w)) s = .next (s.answered 44 .badField .empty))
      ∧ (∀ (v : Vault) (w : VaultWrite), w.enabled = none ∨ w.pairFlag = none ∨ w.allHours = none →
          exec (.writeParams (.vault v.num w)) s = .next (s.answered 44 .badField .empty))
      ∧ (∀ (v : Vault) (w : VaultWrite), (∃ l, w.classes.get l ∉ [4, 8, 16, 32, 64]) →
          exec (.writeParams (.vault v.num w)) s = .next (s.answered 44 .badField .empty))
      ∧ (∀ w : SiteWrite, w.bandSize % 64 ≠ 0 ∨ 512 < w.bandSize ∨ 32 ≤ w.siteSchedule ∨ (∃ i, w.roles.get i = none) →
          exec (.writeParams (.site w)) s = .next (s.answered 44 .badField .empty))
      ∧ (∀ w : SiteWrite, w.bandSize % 64 = 0 → w.bandSize ≤ 512 → w.siteSchedule < 32 → (∀ i, w.roles.get i ≠ none) →
        (s.cfg.lock = true → s.mode ≠ .maintenance → w.bandSize ≠ s.cfg.site.bandSize →
            exec (.writeParams (.site w)) s = .next (s.answered 44 .locked .empty))
          ∧ ((s.cfg.lock = true → s.mode ≠ .maintenance → w.bandSize = s.cfg.site.bandSize) → s.storeBusy = true →
            exec (.writeParams (.site w)) s = .next (s.answered 44 .storeBusy .empty)))
      ∧ ∀ (v : Vault) (w : VaultWrite) (e : Bool), w.enabled = some e → w.pairFlag ≠ none → w.allHours ≠ none →
        (∀ l, w.classes.get l ∈ [4, 8, 16, 32, 64]) →
        let kept : Prop := e = s.enabled v ∧ w.classes = (s.group v).classes
        (s.cfg.lock = true → s.mode ≠ .maintenance → ¬ kept →
            exec (.writeParams (.vault v.num w)) s = .next (s.answered 44 .locked .empty))
          ∧ ((s.cfg.lock = true → s.mode ≠ .maintenance → kept) → max 1 (min 16 w.limit) < s.load v →
            exec (.writeParams (.vault v.num w)) s = .next (s.answered 44 .inUse .empty))
          ∧ ((s.cfg.lock = true → s.mode ≠ .maintenance → kept) → s.load v ≤ max 1 (min 16 w.limit) → s.storeBusy = true →
            exec (.writeParams (.vault v.num w)) s = .next (s.answered 44 .storeBusy .empty))

/-- READ-PARAMS reports a group as in force, whether a configuration write is queued or owed, whether the block is damaged
and the lock, and changes nothing; any other group is refused BAD-FIELD (R209). -/
def Obligations.ReadParamsReportsTheGroup : Prop :=
  ∀ s : Machine.State, s.ready →
    let waiting : Bool := (s.nva.queued .config).isSome || s.nva.owed
    let damaged : Bool := decide (Target.config ∈ s.nva.damaged)
    exec (.readParams .site) s = .next (s.answered 45 .ok (.siteParams s.cfg.site waiting damaged s.cfg.lock))
      ∧ (∀ v : Vault, exec (.readParams (.vault v.num)) s =
          .next (s.answered 45 .ok (.vaultParams (s.cfg.vaults.get v) waiting damaged s.cfg.lock)))
      ∧ (∀ n, 8 ≤ n → exec (.readParams (.vault n)) s = .next (s.answered 45 .badField .empty))
      ∧ exec (.readParams .other) s = .next (s.answered 45 .badField .empty)

/-- The link's transactions (R203, R205, R210): a REQUEST is taken, or discarded with the overrun mark while one is in
processing; a RESPONSE returns NOT-READY, the frame or 0xFF and marks a frame read whole; any other opening is ignored. With
a RESTART arranged, the next REQUEST or the reading of the response begins the reset. -/
def Obligations.LinkTransactions : Prop :=
  ∀ s : Machine.State, s.awake →
    (∀ rest : List Byte, s.link.restartArranged = false →
      let out := List.replicate (rest.length + 1) 0xFF#8
      (s.link.processing = true → exec (.requestTransaction rest) s =
          .next { s with link := { s.link with overrun := true, dataOut := out } })
        ∧ (s.link.processing = false → exec (.requestTransaction rest) s =
          .next { s with link := { s.link with
            request := some (0xA5#8 :: rest), processing := true
            response := if s.link.read then s.link.response else none, dataOut := out } }))
      ∧ (∀ rest : List Byte, s.link.restartArranged = true →
        ∃ t, exec (.requestTransaction rest) s = .next t ∧ t.phase = .reset ∧ t.resetKind = .restart)
      ∧ (∀ n : Nat, 1 ≤ n → s.link.processing = true → exec (.responseTransaction n) s =
          .next { s with link := { s.link with dataOut := 0xFF#8 :: List.replicate (n - 1) 0#8 } })
      ∧ (∀ n : Nat, 1 ≤ n → s.link.processing = false → s.link.response = none ∨ s.link.read = true →
          exec (.responseTransaction n) s =
            .next { s with link := { s.link with dataOut := List.replicate n 0xFF#8 } })
      ∧ (∀ (n : Nat) (r : Response), 1 ≤ n → s.link.processing = false → s.link.response = some r → s.link.read = false →
          let whole : Bool := decide ((responseFrame r).length + 1 ≤ n)
          ((s.link.restartArranged && whole) = false → exec (.responseTransaction n) s =
            .next { s with link := { s.link with
              read := whole, dataOut := (0xFF#8 :: (responseFrame r ++ List.replicate n 0xFF#8)).take n } })
          ∧ ((s.link.restartArranged && whole) = true →
            ∃ t, exec (.responseTransaction n) s = .next t ∧ t.phase = .reset ∧ t.resetKind = .restart))
      ∧ (∀ (first : Byte) (n : Nat), first ≠ 0xA5#8 → first ≠ 0x5A#8 → exec (.ignoredTransaction first n) s =
          .next { s with link := { s.link with dataOut := List.replicate n 0xFF#8 } })

/-- The completion of processing answers a frame that fails a check with the status of the first that fails, and hands any
other to its owner, whose request it then is. The frame checks stand in the order of R204, on frames written out byte by
byte, with the request that a sound frame of a request without fields carries; a response frame is the start byte, code, tag,
status with the overrun flag, length, body and CRC-16 (R203, R204, R212). That a body is at most 240 bytes where its layout
would be longer is the model's cut (notes/assumptions/5.md). -/
def Obligations.FramesAreCheckedAndRun : Prop :=
  (∀ s : Machine.State, s.awake →
      (∀ (frame : List Byte) (st : Status), s.link.processing = true → s.link.request = some frame →
          frameRequest frame = .error st →
          exec .completionOfProcessing s = .next (s.answered (frame.getD 1 0).toNat st .empty))
        ∧ (∀ (frame : List Byte) (code : Nat) (c : Instr), s.link.processing = true → s.link.request = some frame →
          frameRequest frame = .ok (code, c) →
          requestCode c = some code ∧ exec .completionOfProcessing s = exec c s)
        ∧ (s.link.processing = false → exec .completionOfProcessing s = .next s))
    ∧ ((∀ frame : List Byte, frame.length < 6 → frameRequest frame = .error .badFrame)
      ∧ (∀ (code tag len : Byte) (rest : List Byte), 2 ≤ rest.length → 240 < len.toNat →
          frameRequest (0xA5#8 :: code :: tag :: len :: rest) = .error .badLength)
      ∧ (∀ (code tag len : Byte) (rest : List Byte), 2 ≤ rest.length → len.toNat ≤ 240 → rest.length < len.toNat + 2 →
          frameRequest (0xA5#8 :: code :: tag :: len :: rest) = .error .badFrame)
      ∧ (∀ (code tag : Byte) (body : List Byte) (hi lo : Byte) (extra : List Byte), body.length ≤ 240 →
          let head := 0xA5#8 :: code :: tag :: BitVec.ofNat 8 body.length :: body
          let frame := head ++ hi :: lo :: extra
          (hi ++ lo ≠ crc16 head → frameRequest frame = .error .badFrame)
            ∧ (hi ++ lo = crc16 head → code = 0#8 ∨ 47 < code.toNat → frameRequest frame = .error .unknownRequest)
            ∧ (hi ++ lo = crc16 head → ∀ c, fieldlessRequest code.toNat = some c →
                (body = [] → frameRequest frame = .ok (code.toNat, c))
                  ∧ (body ≠ [] → frameRequest frame = .error .badLength)))
      ∧ ∀ r : Response, ∃ head, responseFrame r = head ++ [(crc16 head).extractLsb' 8 8, (crc16 head).extractLsb' 0 8]
          ∧ head = [0xA5#8, BitVec.ofNat 8 r.code, r.tag, BitVec.ofNat 8 (statusCode r.status + if r.overrun then 128 else 0),
              BitVec.ofNat 8 (bodyBytes r.body).length] ++ bodyBytes r.body
          ∧ (bodyBytes r.body).length ≤ 240)

/-! ## The start-up scan and the programming of the array -/

/-- The start-up integrity scan (R25, R38, R39, R101, R143, R160, R211). The configuration read gives the stored values
clamped, or the default configuration with the lock set and the block damaged; the site mode record resumes a stored LOCKDOWN
or MAINTENANCE with auto no and is AFTER-HOURS with auto yes otherwise, which the stored mode in force follows, and the blocks
of every vault begin. The later reads take the holiday list and the schedules or damage them, and a slot is
damaged where its check fails or a lower slot holds its number. The read of slot 2047 ends the scan with the index built. -/
def Obligations.TheScanReadsTheArray : Prop :=
  (∀ s : Machine.State, s.phase = .scanning → s.due = [] → s.scanPos = 0 → s.restSound = true → s.atu.latch = false →
      s.atu.lawful = true → s.alarmRoom →
      (∀ b, s.array.config = .content b → structured b = true →
        let c := clampConfig b
        let m : StoredMode := if b.site.stored.auto = false ∧ (b.site.stored.mode = .lockdown ∨ b.site.stored.mode = .maintenance)
          then b.site.stored else { mode := .afterHours, auto := true }
        ∃ t, exec .configurationRead s = .next t ∧ t.cfg = { c with site := { c.site with stored := m } }
          ∧ t.nva = s.nva ∧ t.atu = s.atu)
        ∧ ((s.array.config = .checkFails ∨ ∃ b, s.array.config = .content b ∧ structured b = false) →
          ∃ t, exec .configurationRead s = .next t ∧ t.cfg = defaultConfig true ∧ Target.config ∈ t.nva.damaged
            ∧ t.conditionStands (keyOf .storeFault none (some (.store .config))) = true)
        ∧ ∃ t, exec .configurationRead s = .next t ∧ t.phase = .scanning ∧ t.scanPos = 1 ∧ t.array = s.array
          ∧ t.mode = t.cfg.site.stored.mode ∧ t.auto = t.cfg.site.stored.auto
          ∧ ∀ v, (t.sequencer v).committed = t.stagedSet v ∧ (t.sequencer v).state = .quiet
            ∧ (t.occupancy v).certain = ((s.occupancy v).certain || !t.enabled v)
            ∧ (t.enabled v = false → t.door v = resetDoor)
            ∧ (t.enabled v = true →
                t.door v = { resetDoor with vault := .extending, travel := some ((t.group v).tBolt * 100) }
                  ∧ t.rline.phase = .partFrame))
    ∧ (∀ s : Machine.State, s.phase = .scanning → s.due = [] → s.atu.lawful = true → s.alarmRoom →
      (s.scanPos = 1 → ∀ days, s.array.holidays = .content days → days.Pairwise (· < ·) →
        exec .scanTargetRead s = .next { s with cal := { s.cal with holidays := days }, scanPos := 2 })
        ∧ (s.scanPos = 1 → (s.array.holidays = .checkFails ∨ ∃ days, s.array.holidays = .content days ∧ ¬ days.Pairwise (· < ·)) →
          ∃ t, exec .scanTargetRead s = .next t ∧ t.cal.holidays = [] ∧ Target.holidays ∈ t.nva.damaged
            ∧ t.conditionStands (keyOf .storeFault none (some (.store .holidays))) = true ∧ t.scanPos = 2)
        ∧ (∀ n, n < 32 → s.scanPos = 2 + n → ∀ w, cellWindows (s.array.scheduleCell n) = some w →
          ∃ t, exec .scanTargetRead s = .next t ∧ t.scanPos = 3 + n
            ∧ t = { s with cal := { s.cal with schedules := t.cal.schedules }, scanPos := t.scanPos }
            ∧ (Sys2Proof.Machine.canonical [] s.cal.schedules = true →
                t.cal.windows n = w ∧ ∀ m, m ≠ n → t.cal.windows m = s.cal.windows m))
        ∧ (∀ n, n < 32 → s.scanPos = 2 + n → cellWindows (s.array.scheduleCell n) = none →
          ∃ t, exec .scanTargetRead s = .next t ∧ t.scanPos = 3 + n ∧ Target.schedule n ∈ t.nva.damaged
            ∧ t.conditionStands (keyOf .storeFault none (some (.store (.schedule n)))) = true
            ∧ (Sys2Proof.Machine.canonical [] s.cal.schedules = true → t.cal.windows n = []))
        ∧ (∀ n, n < 2047 → s.scanPos = 34 + n →
          let lowerHolds (r : CredRecord) : Prop := ∃ m r', m < n ∧ m ∉ s.nva.damagedSlots
            ∧ s.array.slotCell m = .content (encodeSlot (some r')) ∧ r'.number = r.number
          (∀ r, s.array.slotCell n = .content (encodeSlot (some r)) → recordInRange r = true →
              (∀ m r', m < n → m ∉ s.nva.damagedSlots → s.array.canonical = true →
                cellRecord (s.array.slotCell m) = some (some r') → r'.number ≠ r.number) →
              s.array.canonical = true → exec .scanTargetRead s = .next { s with scanPos := 35 + n })
            ∧ (s.array.slotCell n = .content (encodeSlot none) →
                exec .scanTargetRead s = .next { s with scanPos := 35 + n })
            ∧ (s.array.slotCell n = .checkFails
                ∨ (∃ r, s.array.slotCell n = .content (encodeSlot (some r)) ∧ recordInRange r = true ∧ lowerHolds r
                    ∧ ∀ m r', s.array.slotCell m = .content (encodeSlot (some r')) → recordInRange r' = true) →
              ∃ t, exec .scanTargetRead s = .next t ∧ n ∈ t.nva.damagedSlots ∧ t.scanPos = 35 + n
                ∧ t.conditionStands (keyOf .storeFault none (some (.store (.slot n)))) = true ∧ t.phase = .scanning
                ∧ t.array = s.array ∧ t.cal = s.cal ∧ t.cfg = s.cfg))
        ∧ (s.scanPos = 2081 → ∃ t, exec .scanTargetRead s = .next t ∧ t.phase = .running ∧ t.scanPos = 2082
            ∧ t.array = s.array
            ∧ (s.array.canonical = true → ∀ n r, n ∉ t.nva.damagedSlots → cellRecord (s.array.slotCell n) = some (some r) →
                (∀ m r', m ∉ t.nva.damagedSlots → cellRecord (s.array.slotCell m) = some (some r') →
                  r'.number = r.number → m = n) →
                t.slotOf r.number = some n)))

/-- Programming attempts (R31 to R35, R42). A matching verify settles the oldest entry; a failed one counts, and at the
maximum damages the target: it leaves the queue, STORE-FAULT is raised and a slot's number leaves the index and the failure
table. The result of a discarded attempt is not counted, and one that failed leaves content whose check fails. Until a write
settles, the slot keeps the number it held for the DUPLICATE check (R6, R32; notes/assumptions/41.md). The erase pass
goes on through its targets. WRITE-LOW spoils the attempt in flight, and the return of the supply starts the next one. -/
def Obligations.AttemptsSettleRetryAndDamage : Prop :=
  ∀ s : Machine.State, s.awake → s.storeSound = true → s.atu.lawful = true →
    let next (rest : List QueueEntry) : Option Attempt :=
      if s.phase = .running ∧ s.supply = .good then
        rest.head?.map fun e => { image := e.image, discard := false, spoiled := false }
      else none
    let leaves (a : Attempt) (o : AttemptOutcome) : NvArray :=
      match o with
      | .verifyMatches => s.array.program a.image
      | .verifyDiffers left => s.array.leave a.image left
    (∀ (a : Attempt) (e : QueueEntry) (rest : List QueueEntry), s.nva.inFlight = some a → a.discard = false →
      s.nva.erase = none → s.nva.queue = e :: rest → s.nva.owed = false →
      (a.spoiled = false →
        ∃ t, exec (.attemptCompletion .verifyMatches) s = .next t ∧ t.array = s.array.program a.image
          ∧ t.nva.queue = rest ∧ t.nva.inFlight = next rest
          ∧ (∀ n, e.image.target = .slot n → t.nva.damagedSlots = s.nva.damagedSlots.erase n ∧ t.nva.damaged = s.nva.damaged)
          ∧ ((∀ n, e.image.target ≠ .slot n) →
              t.nva.damaged = s.nva.damaged.erase e.image.target ∧ t.nva.damagedSlots = s.nva.damagedSlots)
          ∧ (rest = [] → t.link.waiting.store = true)
          ∧ (a.image = e.image → ∀ n,
              (e.image = .slot n none → t.settledNumber n = none)
                ∧ (e.image.target ≠ .slot n → t.settledNumber n = s.settledNumber n))
          ∧ t = { s with array := t.array, nva := t.nva, link := t.link })
        ∧ (∀ o, o ≠ .verifyMatches ∨ a.spoiled = true → e.attempts + 1 < s.cfg.site.maxAttempts →
          ∃ t, exec (.attemptCompletion o) s = .next t ∧ t.array = leaves a o
            ∧ t.nva.queue = { e with attempts := e.attempts + 1 } :: rest ∧ t.nva.inFlight = next (e :: rest)
            ∧ (∀ n, t.settledNumber n = s.settledNumber n)
            ∧ t = { s with array := t.array, nva := t.nva })
        ∧ (∀ o, o ≠ .verifyMatches ∨ a.spoiled = true → s.cfg.site.maxAttempts ≤ e.attempts + 1 → s.alarmRoom →
          ∃ t, exec (.attemptCompletion o) s = .next t ∧ t.array = leaves a o ∧ t.nva.queue = rest
            ∧ t.nva.inFlight = next rest
            ∧ t.conditionStands (keyOf .storeFault none (some (.store e.image.target))) = true
            ∧ (∀ n r, e.image = .slot n r →
                t.slotContent n = .damaged ∧ t.settledNumber n = none
                  ∧ (∀ k, r.map CredRecord.number = some k → t.slotOf k = none ∧ t.failures = s.failuresWithout k))
            ∧ ((∀ n, e.image.target ≠ .slot n) → e.image.target ∈ t.nva.damaged)))
      ∧ (∀ (a : Attempt) (o : AttemptOutcome), s.nva.inFlight = some a → a.discard = true → s.nva.erase = none →
        ∃ t, exec (.attemptCompletion o) s = .next t
          ∧ t.array = (if o = .verifyMatches ∧ a.spoiled = false then s.array.program a.image
              else s.array.spoil a.image.target)
          ∧ (∀ n, t.settledNumber n = s.settledNumber n)
          ∧ t = { s with
              array := t.array
              nva := { s.nva with inFlight := next s.nva.queue, unsettled := t.nva.unsettled } })
      ∧ (∀ (a : Attempt) (e : ErasePass), s.nva.inFlight = some a → a.discard = false → s.nva.erase = some e →
        (a.spoiled = false → e.next < 2081 →
          ∃ t, exec (.attemptCompletion .verifyMatches) s = .next t ∧ t.array = s.array.program a.image
            ∧ t.nva.erase = some { next := e.next + 1, attempts := 0 })
          ∧ (a.spoiled = false → e.next = 2081 → s.nva.owed = false →
            ∃ t, exec (.attemptCompletion .verifyMatches) s = .next t ∧ t.array = s.array.program a.image
              ∧ t.nva.erase = none ∧ t.link.waiting.store = true)
          ∧ (∀ o, o ≠ .verifyMatches ∨ a.spoiled = true → e.attempts < 7 →
            ∃ t, exec (.attemptCompletion o) s = .next t ∧ t.array = leaves a o
              ∧ t.nva.erase = some { e with attempts := e.attempts + 1 }))
      ∧ (s.supply = .good → exec .writeLow s = .next { s with
          supply := .writeLow, nva := { s.nva with inFlight := s.nva.inFlight.map fun a => { a with spoiled := true } } })
      ∧ (s.supply = .writeLow → s.phase = .running → s.nva.inFlight = none → s.nva.erase = none →
          exec .supplyGood s = .next { s with
            supply := .good
            nva := { s.nva with
              inFlight := s.nva.queue.head?.map fun e => { image := e.image, discard := false, spoiled := false } } })
      ∧ (s.supply = .writeLow → s.phase = .scanning → exec .supplyGood s = .next { s with supply := .good })

/-! ## Time -/

/-- The tick event (R43, R44, R46 to R48, R62, R63, R68, R72, R77, R78, R87, R110, R123, R124, R133, R151, R166, R168, R175,
R176, R178, R194). The calendar and the time base advance, every reader's presentation ages, every timer of a vault, pending
pair, TEST claim, occupant, sequencer and alarm record counts down, the ABORT elapsed time, the start-up count, the
combination count and the cadence positions count up, and the lines and release circuits of the enabled vaults and the site
lines are sampled from the configuration read on. The rest of every record stands. That a timer's end, the minute and a
qualified change wait for their own commands, a timer at its last tick keeping its value until then, is the model's form
(notes/assumptions/2.md, 12.md), and so are the position of a CONTINUOUS cadence (15.md) and the saturation of the ABORT
elapsed time (26.md). -/
def Obligations.TheTickAdvancesTime : Prop :=
  ∀ (s : Machine.State) (r : Readings), s.awake → s.timeSound = true →
    let i := s.cal.instant
    let last : Prop := i.tick = 99 ∧ i.second = 59 ∧ i.minute = 1439 ∧ i.day = 65535
    let down (n : Nat) : Nat := if n ≤ 1 then n else n - 1
    let sampled {α : Type} (now : Instant) (q q' : Qualification α) (x : α) : Prop :=
      (q.qualified = some x → q' = { q with candidate := none, run := 0, start := none, last := some x })
        ∧ (q.qualified ≠ some x → q.candidate = some x → q' = { q with run := q.run + 1, last := some x })
        ∧ (q.qualified ≠ some x → q.candidate ≠ some x →
            q' = { q with candidate := some x, run := 1, start := some now, last := some x })
    let completes : Prop := s.configured = true ∧ s.lqu.stands = true ∧ s.lqu.completed = false
      ∧ s.cfg.site.tComb * 100 ≤ s.lqu.count + 1
    ∃ t, exec (.tickEvent r) s = .next t
      ∧ (i.tick < 99 → t.cal.instant = { i with tick := i.tick + 1 })
      ∧ (i.tick = 99 → i.second < 59 → t.cal.instant = { i with second := i.second + 1, tick := 0 })
      ∧ (i.tick = 99 → i.second = 59 → i.minute < 1439 →
          t.cal.instant = { i with minute := i.minute + 1, second := 0, tick := 0 })
      ∧ (i.tick = 99 → i.second = 59 → i.minute = 1439 → i.day < 65535 →
          t.cal.instant = { day := i.day + 1, minute := 0, second := 0, tick := 0 })
      ∧ (last → t.cal = { s.cal with instant := zeroInstant, state := .unsynchronised } ∧ t.link.waiting.clock = true)
      ∧ (¬ last → t.cal = { s.cal with instant := t.cal.instant } ∧ t.link = s.link)
      ∧ (Due.minute ∈ t.due ↔ i.tick = 99 ∧ i.second = 59)
      ∧ t.tmb.subTick = (s.tmb.subTick + 1) % 100
      ∧ t.tmb.seconds = (if s.tmb.subTick = 99 then (s.tmb.seconds + 1) % 64 else s.tmb.seconds)
      ∧ (s.tmb.source = .rc → t.tmb.source = .rc ∧ t.tmb.accumulator = s.tmb.accumulator)
      ∧ (s.tmb.source ≠ .rc → t.tmb.source = .reference ∧ t.tmb.accumulator = (s.tmb.accumulator + 68) % 100
          ∧ t.tmb.length = some ((if 32 ≤ s.tmb.accumulator then 328 else 327)
              + if t.tmb.subTick = 99 ∧ t.tmb.seconds = 63 then s.cfg.site.trim else 0))
      ∧ t.tmb.startUp = (s.tmb.startUp.map fun n => if 99 ≤ n then n else n + 1)
      ∧ (Due.startUpTimeout ∈ t.due ↔ s.tmb.startUp = some 99)
      ∧ (∀ a : ReaderAddress, t.reader a = { s.reader a with
          presentation := (s.reader a).presentation.map fun p => { p with age := min 200 (p.age + 1) } })
      ∧ (∀ v, let d := s.door v
          t.door v = { d with
              outerGrant := d.outerGrant.map fun g => { g with lapse := down g.lapse }
              vaultGrant := d.vaultGrant.map fun g => { g with lapse := g.lapse.map down }
              egress := d.egress.map down, travel := d.travel.map down, relock := d.relock.map down
              outerHeld := d.outerHeld.map down, vaultHeld := d.vaultHeld.map down }
            ∧ (Due.outerGrant v ∈ t.due ↔ d.outerGrant.map OuterGrant.lapse = some 1)
            ∧ (Due.vaultGrant v ∈ t.due ↔ d.vaultGrant.bind VaultGrant.lapse = some 1)
            ∧ (Due.egressRelease v ∈ t.due ↔ d.egress = some 1) ∧ (Due.travel v ∈ t.due ↔ d.travel = some 1)
            ∧ (Due.relock v ∈ t.due ↔ d.relock = some 1) ∧ (Due.held v .outer ∈ t.due ↔ d.outerHeld = some 1)
            ∧ (Due.held v .vault ∈ t.due ↔ d.vaultHeld = some 1))
      ∧ (∀ v, let q := s.sequencer v
          let lapses (e : Nat) : Prop := 0 < q.committed.hMax ∧ q.committed.hMax * 10 ≤ e + 1
          t.sequencer v = { q with
              remaining := if q.state = .countdown then q.remaining.map down else q.remaining
              abortElapsed := q.abortElapsed.map fun e =>
                if 0 < q.committed.hMax ∧ q.committed.hMax * 10 ≤ e + 1 then e else min 30000 (e + 1)
              pulse := q.pulse.map down, confirmWait := q.confirmWait.map down, soak := q.soak.map down }
            ∧ (Due.countdown v ∈ t.due ↔ q.state = .countdown ∧ q.remaining = some 1)
            ∧ (Due.abortHold v ∈ t.due ↔ ∃ e, q.abortElapsed = some e ∧ lapses e)
            ∧ (Due.pulse v ∈ t.due ↔ q.pulse = some 1) ∧ (Due.confirmWait v ∈ t.due ↔ q.confirmWait = some 1)
            ∧ (Due.soak v ∈ t.due ↔ q.soak = some 1))
      ∧ (∀ v, let worker := (s.occupancy v).entries.find? fun e => e.checkIn.isSome
          t.occupancy v = { s.occupancy v with entries := (s.occupancy v).entries.map fun e =>
              { e with checkIn := e.checkIn.map fun n => if n = 6001 then n else down n } }
            ∧ (Due.chirp v ∈ t.due ↔ worker.bind Occupant.checkIn = some 6001)
            ∧ (Due.loneWorker v ∈ t.due ↔ worker.bind Occupant.checkIn = some 1))
      ∧ (∀ v, t.pair v = ((s.pair v).map fun p => { p with window := down p.window })
          ∧ (Due.pairWindow v ∈ t.due ↔ (s.pair v).map PendingPair.window = some 1))
      ∧ (∀ v, let c := s.claimSet v
          let p := c.position + 1
          t.claimSet v = { c with
              test := c.test.map fun x => { x with remaining := down x.remaining }
              position := match c.drive with
                | none => c.position
                | some (.temporal, _) => p % 400
                | some (.continuous, _) => p
                | some (.fast, _) => p % 50
                | some (.slow, _) => p % 200
                | some (.chirp, _) => p % 1000 }
            ∧ (Due.testClaim v ∈ t.due ↔ c.test.map TestClaim.remaining = some 1))
      ∧ t.atu = { s.atu with table := s.atu.table.map fun x => { x with escalation := x.escalation.map down } }
      ∧ (∀ id, Due.escalation id ∈ t.due ↔ ∃ x ∈ s.atu.table, x.id = id ∧ x.escalation = some 1)
      ∧ t.lqu = { s.lqu with
          site := t.lqu.site
          count := if s.configured = true ∧ s.lqu.stands = true ∧ s.lqu.completed = false
              ∧ s.lqu.count + 1 < s.cfg.site.tComb * 100
            then s.lqu.count + 1 else s.lqu.count }
      ∧ (Due.evacuation ∈ t.due ↔ completes)
      ∧ (∀ v, s.configured = true → s.enabled v = true →
          let q := (t.lines.get v).release
          (∀ l, readable l ((r.vaults.get v).lines.get l) = true →
              sampled t.cal.instant (s.lineRecord v l) (t.lineRecord v l) ((r.vaults.get v).lines.get l))
            ∧ (∀ l, Due.line v l ∈ t.due ↔
                (t.lineRecord v l).candidate ≠ none ∧ (s.group v).classes.get l ≤ (t.lineRecord v l).run)
            ∧ sampled t.cal.instant (s.lines.get v).release q (r.vaults.get v).release
            ∧ (Due.release v ∈ t.due ↔ q.candidate ≠ none ∧ 16 ≤ q.run))
      ∧ (s.configured = true → ∀ j, let q := t.lqu.site.get j
          sampled t.cal.instant (s.lqu.site.get j) q (r.site.get j)
            ∧ (Due.siteLine j ∈ t.due ↔ q.candidate ≠ none ∧ 16 ≤ q.run))
      ∧ (∀ v, s.configured = false ∨ s.enabled v = false → t.lines.get v = s.lines.get v)
      ∧ (s.configured = false → t.lqu = s.lqu)
      ∧ t.array = s.array ∧ t.nva = s.nva ∧ t.index = s.index ∧ t.failures = s.failures ∧ t.cfg = s.cfg
      ∧ t.mode = s.mode ∧ t.auto = s.auto ∧ t.supply = s.supply ∧ t.phase = s.phase ∧ t.rline = s.rline
      ∧ t.globalHold = s.globalHold

/-- REFERENCE-LOST and its start-up form put the tick on RC, raise CLOCK-FAULT, set CLOCK and leave the calendar DRIFTED where
it was SYNCHRONISED; REFERENCE-RETURNED makes the return pending and ends CLOCK-FAULT (R45 to R47, R49). The minute event
ages the failure table, and after the scan end it evaluates an automatic site mode and repeats an owed lockout: the suspension
is made where its write has a place, with the next revision and the entry forgotten, and the entry is forgotten alone where the
record is not ACTIVE or gone, and kept where there is no place (R10, R12, R14, R48, R59, R117). -/
def Obligations.ReferenceAndMinuteEvents : Prop :=
  ∀ s : Machine.State, s.atu.lawful = true → s.alarmRoom →
    let lost (t : Machine.State) : Prop :=
      t.tmb = { s.tmb with source := .rc, length := none, startUp := none }
        ∧ t.cal = { s.cal with state := if s.cal.state = .unsynchronised then .unsynchronised else .drifted }
        ∧ t.conditionStands (keyOf .clockFault none (some (.sub .reference))) = true ∧ t.link.waiting.clock = true
        ∧ t = { s with tmb := t.tmb, cal := t.cal, atu := t.atu, link := t.link, due := t.due }
    (s.awake → s.tmb.source ≠ .rc → ∃ t, exec .referenceLost s = .next t ∧ lost t)
      ∧ (s.awake → s.tmb.source = .rc → exec .referenceLost s = .next s)
      ∧ (s.comes .startUpTimeout → ∃ t, exec .startUpReferenceTimeout s = .next t ∧ lost t)
      ∧ (s.awake → s.tmb.source = .rc → ∃ t, exec .referenceReturned s = .next t
          ∧ t.tmb = { s.tmb with source := .rcReturnPending, startUp := none } ∧ t.cal = s.cal
          ∧ (s.tmb.startUp = none → s.atu.owed = false →
              t.conditionStands (keyOf .clockFault none (some (.sub .reference))) = false)
          ∧ (s.tmb.startUp ≠ none → t.atu = s.atu) ∧ t.link.waiting.clock = true
          ∧ t = { s with tmb := t.tmb, atu := t.atu, link := t.link })
      ∧ (s.comes .minute →
          let aged := (s.failures.map fun e => { e with age := min 255 (e.age + 1) }).filter fun e =>
            decide (s.cfg.site.failureLimit ≤ e.failures ∨ e.age < s.cfg.site.forgiveness)
          (s.phase = .scanning → exec .minuteEvent s = .next { s.without .minute with failures := aged })
            ∧ (s.phase = .running → s.auto = false → (∀ e ∈ aged, e.failures < s.cfg.site.failureLimit) →
                exec .minuteEvent s = .next { s.without .minute with failures := aged })
            ∧ (s.phase = .running → s.auto = true → (∀ e ∈ aged, e.failures < s.cfg.site.failureLimit) →
                ∃ t, exec .minuteEvent s = .next t ∧ t.failures = aged ∧ t.auto = true
                  ∧ t.mode = (if s.cal.containment s.cfg.site.siteSchedule = .contained then .openHours else .afterHours)
                  ∧ t.cal = s.cal ∧ t.nva = s.nva ∧ t.cfg = s.cfg ∧ t.array = s.array)
            ∧ (s.phase = .running → s.auto = false → s.storeSound = true →
                ∀ e ∈ aged, aged.filter (fun x => decide (s.cfg.site.failureLimit ≤ x.failures)) = [e] →
              let rest := aged.filter fun x => decide (x.number ≠ e.number)
              (∀ n r, s.slotOf e.number = some n → s.slotContent n = .held r → r.number = e.number → r.state = .active →
                  s.devicePlace (.slot n) = true →
                  ∃ t, exec .minuteEvent s = .next t ∧ t.failures = rest
                    ∧ (s.without .minute).recordQueued t n
                        { r with state := .suspended, revision := if r.revision = 255 then 1 else r.revision + 1 })
                ∧ (∀ n r, s.slotOf e.number = some n → s.slotContent n = .held r → r.state = .active →
                    s.devicePlace (.slot n) = false →
                    exec .minuteEvent s = .next { s.without .minute with failures := aged })
                ∧ ((s.slotOf e.number = none
                      ∨ ∃ n r, s.slotOf e.number = some n ∧ s.slotContent n = .held r ∧ r.state ≠ .active) →
                    exec .minuteEvent s = .next { s.without .minute with failures := rest })))

/-! ## The doors of a vault -/

/-- The outer door (R125, R133, R138): it opens on its contact, FORCED from LOCKED unless the contact was UNQUALIFIED, closes
to LOCKED, unlocks on a press of OUTER-EGRESS, locks again at the lapse of its grant, and is reported held when a held timer
ends. Nothing else of the vault changes. -/
def Obligations.OuterDoorEvents : Prop :=
  ∀ (s : Machine.State) (v : Vault), s.atu.lawful = true →
    let d := s.door v
    let ticks := (s.group v).tHeld * 100
    (∀ new, s.changes v .outerContact new →
      let first : Prop := (s.lineRecord v .outerContact).qualified = none
      ∃ t, exec (.outerContact v) s = .next t ∧ s.lineQualified t v .outerContact new ∧ s.doorsAlone t
        ∧ (new = .active → d.outer = .locked → first → t.door v = { d with outer := .opened, outerHeld := some ticks })
        ∧ (new = .active → d.outer = .locked → ¬ first →
            t.door v = { d with outer := .opened, outerHeld := some ticks, outerForcedStands := true }
              ∧ (s.alarmRoom → t.conditionStands (keyOf .doorForced (some v) (some (.door .outer))) = true))
        ∧ (new = .active → d.outer = .unlocked →
            t.door v = { d with outer := .opened, outerGrant := none, outerHeld := some ticks })
        ∧ (new ≠ .active → (s.lineRecord v .outerContact).qualified = some .active → d.outer = .opened →
            t.door v = { d with
              outer := .locked, outerHeld := none, outerHeldStands := false, outerForcedStands := false })
        ∧ (d.outer = .emergencyUnlocked → t.door v = d))
      ∧ (∀ new, s.changes v .outerEgress new →
        ∃ t, exec (.outerEgress v) s = .next t ∧ s.lineQualified t v .outerEgress new ∧ s.doorsAlone t
          ∧ t.door v = (if new = .active ∧ (d.outer = .locked ∨ d.outer = .unlocked) then
              { d with outer := .unlocked
                       outerGrant := some { origin := .egress, lapse := (s.group v).tOuter * 100 } }
            else d))
      ∧ (s.comes (.outerGrant v) →
        ∃ t, exec (.outerGrantLapse v) s = .next t ∧ s.doorsAlone t ∧ t.lines = s.lines
          ∧ (d.outer = .unlocked → t.door v = { d with outer := .locked, outerGrant := none, outerForcedStands := false })
          ∧ (d.outer ≠ .unlocked → t.door v = { d with outerGrant := none }))
      ∧ ∀ which, s.comes (.held v which) →
        ∃ t, exec (.heldTimerExpiry v which) s = .next t ∧ s.doorsAlone t ∧ t.lines = s.lines
          ∧ t.door v = (match which with
              | .outer => { d with outerHeld := none, outerHeldStands := true }
              | .vault => { d with vaultHeld := none, vaultHeldStands := true })
          ∧ (s.alarmRoom → t.conditionStands (keyOf .doorHeld (some v) (some (.door which))) = true)

/-- The bolts and the permissions of the vault door (R127 to R130, R137, R169): the bolt contacts end a drive, a travel timer
that ends jams the door with DOOR-FAULT, the relock timer and the lapse of the last permission extend the bolts, and a press
of VAULT-EGRESS withdraws them and holds a countdown. -/
def Obligations.BoltsPermissionsAndEgress : Prop :=
  ∀ (s : Machine.State) (v : Vault), s.atu.lawful = true →
    let d := s.door v
    let out : Prop := d.vaultGrant ≠ none ∨ d.egress ≠ none
    (s.changes v .boltsWithdrawn .active →
      ∃ t, exec (.boltsWithdrawn v) s = .next t ∧ s.lineQualified t v .boltsWithdrawn .active ∧ s.doorsAlone t
        ∧ (d.vault = .retracting → (t.door v).vault = .released ∧ (t.door v).travel = none)
        ∧ (d.vault = .jammed → out → (t.door v).vault = .released)
        ∧ (d.vault = .jammed → ¬ out → (t.door v).vault = s.extendsTo v)
        ∧ (d.vault = .emergencyReleased → t.door v = { d with travel := none })
        ∧ (d.vault = .secured ∨ d.vault = .released ∨ d.vault = .opened ∨ d.vault = .relockWait ∨ d.vault = .extending →
            t.door v = d)
        ∧ (t.door v).vaultGrant = d.vaultGrant ∧ (t.door v).egress = d.egress ∧ (t.door v).outer = d.outer)
      ∧ (∀ new, new ≠ .active → s.changes v .boltsWithdrawn new →
        ∃ t, exec (.boltsWithdrawn v) s = .next t ∧ s.lineQualified t v .boltsWithdrawn new ∧ t.doors = s.doors
          ∧ s.doorsAlone t)
      ∧ (s.changes v .boltsThrown .active →
        ∃ t, exec (.boltsThrown v) s = .next t ∧ s.lineQualified t v .boltsThrown .active ∧ s.doorsAlone t
          ∧ (d.vault = .extending → (t.door v).vault = .secured ∧ (t.door v).travel = none)
          ∧ (d.vault = .jammed → ¬ out → (t.door v).vault = .secured)
          ∧ (d.vault = .jammed → out → (t.door v).vault = s.retractsTo v)
          ∧ (d.vault = .secured ∨ d.vault = .retracting ∨ d.vault = .released ∨ d.vault = .opened ∨ d.vault = .relockWait
              ∨ d.vault = .emergencyReleased → t.door v = d)
          ∧ (t.door v).vaultGrant = d.vaultGrant ∧ (t.door v).egress = d.egress ∧ (t.door v).outer = d.outer)
      ∧ (∀ new, new ≠ .active → s.changes v .boltsThrown new →
        ∃ t, exec (.boltsThrown v) s = .next t ∧ s.lineQualified t v .boltsThrown new ∧ s.doorsAlone t
          ∧ (d.vault = .secured → (s.lineRecord v .boltsThrown).qualified = some .active →
              (t.door v).vault = .extending ∧ (t.door v).travel = some ((s.group v).tBolt * 100)
                ∧ ∀ g, (t.door v).outerGrant = some g → g.origin = .egress)
          ∧ (d.vault ≠ .secured ∨ (s.lineRecord v .boltsThrown).qualified ≠ some .active → t.door v = d))
      ∧ (s.comes (.travel v) →
        ∃ t, exec (.travelTimerExpiry v) s = .next t ∧ s.doorsAlone t
          ∧ (d.vault = .retracting → t.door v = { d with travel := none, vault := .jammed, retractFaultStands := true }
              ∧ (s.alarmRoom → t.conditionStands (keyOf .doorFault (some v) (some (.drive .retract))) = true))
          ∧ (d.vault = .extending → t.door v = { d with travel := none, vault := .jammed, extendFaultStands := true }
              ∧ (s.alarmRoom → t.conditionStands (keyOf .doorFault (some v) (some (.drive .extend))) = true))
          ∧ (d.vault = .emergencyReleased → t.door v = { d with travel := none, retractFaultStands := true }
              ∧ (s.alarmRoom → t.conditionStands (keyOf .doorFault (some v) (some (.drive .retract))) = true)))
      ∧ (s.comes (.relock v) → d.vault = .relockWait →
        ∃ t, exec (.relockTimerExpiry v) s = .next t ∧ s.doorsAlone t ∧ (t.door v).vault = s.extendsTo v
          ∧ (t.door v).relock = none
          ∧ (s.extendsTo v = .extending → (t.door v).travel = some ((s.group v).tBolt * 100)))
      ∧ (s.comes (.vaultGrant v) →
        ∃ t, exec (.vaultGrantLapse v) s = .next t ∧ s.doorsAlone t ∧ (t.door v).vaultGrant = none
          ∧ (t.door v).egress = d.egress
          ∧ (t.door v).vault = (if d.egress = none ∧ (d.vault = .retracting ∨ d.vault = .released) then s.extendsTo v
              else d.vault))
      ∧ (s.comes (.egressRelease v) →
        ∃ t, exec (.egressReleaseLapse v) s = .next t ∧ (t.door v).egress = none ∧ (t.door v).vaultGrant = d.vaultGrant
          ∧ (t.door v).vault = (if d.vaultGrant = none ∧ (d.vault = .retracting ∨ d.vault = .released) then s.extendsTo v
              else d.vault)
          ∧ (t.sequencer v).egress = (if (s.sequencer v).egress = .pressed then .none else (s.sequencer v).egress)
          ∧ t.occ = s.occ)
      ∧ (s.changes v .vaultEgress .active →
        ∃ t, exec (.vaultEgress v) s = .next t ∧ s.lineQualified t v .vaultEgress .active ∧ t.occ = s.occ
          ∧ (d.vault = .opened → t.door v = d)
          ∧ (d.vault ≠ .opened → (t.door v).egress = some ((s.group v).tGrant * 100))
          ∧ (d.vault = .secured ∨ d.vault = .extending ∨ d.vault = .jammed → (t.door v).vault = s.retractsTo v)
          ∧ (d.vault = .relockWait → (t.door v).vault = .released)
          ∧ (d.vault = .retracting ∨ d.vault = .released ∨ d.vault = .emergencyReleased → (t.door v).vault = d.vault)
          ∧ (t.sequencer v).egress = (if (s.sequencer v).egress = .opened ∨ s.countsActive v .vaultContact = true then .opened
              else .pressed)
          ∧ ((s.sequencer v).state = .countdown ∨ (s.sequencer v).state = .awaitClosure →
              (t.sequencer v).state = .held ∧ (t.sequencer v).holdEgress = true
                ∧ (t.sequencer v).remaining = (s.sequencer v).remaining))
      ∧ ∀ new, new ≠ .active → s.changes v .vaultEgress new →
        ∃ t, exec (.vaultEgress v) s = .next t ∧ s.lineQualified t v .vaultEgress new ∧ t.doors = s.doors ∧ t.ssq = s.ssq
          ∧ t.occ = s.occ

/-- The vault door opens (R131, R132, R137): what is outstanding is consumed, the entering numbers join the list, the exiting
ones leave it, and the vault becomes UNCERTAIN where an exit is unrecorded or an egress release is used while somebody is
inside; with nothing outstanding the door is FORCED and the vault UNCERTAIN. A first qualified state of ACTIVE raises no DOOR-FORCED
(R143); that it leaves a CERTAIN vault CERTAIN is the model's choice (notes/assumptions/44.md). An opening under a grant settles
the escort links and ESCORT-LEFT of the list that it leaves (R155). In an automatic countdown, an opening that leaves the vault
NOT-CLEAR takes the SSQ to INHIBITED, and an egress from a clear vault holds the countdown (R169, R173). It closes (R128, R169, R172): the relock timer
starts, an opened egress ends, and a countdown that awaits the closure releases. -/
def Obligations.TheVaultDoorOpensAndCloses : Prop :=
  ∀ (s : Machine.State) (v : Vault), s.atu.lawful = true →
    let d := s.door v
    let q := s.lineRecord v .vaultContact
    let numbers : List Nat := (s.occupancy v).entries.map Occupant.number
    let inside (g : VaultGrant) : List Nat :=
      (numbers ++ g.entering.map EnteringEntry.number).filter fun k => decide (k ∉ g.exiting)
    let calm : Prop := (s.sequencer v).state ≠ .countdown ∧ (s.sequencer v).state ≠ .held
      ∧ (s.sequencer v).state ≠ .awaitClosure
    (s.changes v .vaultContact .active → calm →
      ∃ t, exec (.vaultContactOpen v) s = .next t ∧ s.lineQualified t v .vaultContact .active
        ∧ ((s.sequencer v).state ≠ .inhibited →
            d.vault = .retracting ∨ d.vault = .released ∨ (d.vault = .jammed ∧ (d.vaultGrant ≠ none ∨ d.egress ≠ none)) →
            (t.door v).vault = .opened ∧ (t.door v).vaultGrant = none ∧ (t.door v).egress = none
              ∧ (t.door v).travel = none ∧ (t.door v).vaultHeld = some ((s.group v).tHeld * 100)
              ∧ (t.door v).outer = d.outer
              ∧ (∀ g, d.vaultGrant = some g →
                  (t.occupancy v).entries.map Occupant.number = inside g
                    ∧ ((t.occupancy v).certain = true ↔ (s.occupancy v).certain = true ∧ g.unrecorded = false
                        ∧ (g.origin = .host → g.entering ≠ []) ∧ (d.egress ≠ none → inside g = []))
                    ∧ ((numbers ++ g.entering.map EnteringEntry.number).Nodup →
                        ∀ x ∈ (s.occupancy v).entries
                            ++ g.entering.map (fun e => s.newOccupant e (q.start.getD s.cal.instant)), x.number ∉ g.exiting →
                          s.linkSettled t v (inside g) (g.entering.map EnteringEntry.number) x))
              ∧ (d.vaultGrant = none → (t.occupancy v).entries = (s.occupancy v).entries
                  ∧ ((t.occupancy v).certain = true ↔ (s.occupancy v).certain = true ∧ (d.egress ≠ none → numbers = []))))
        ∧ ((s.sequencer v).state ≠ .inhibited →
            d.vault = .secured ∨ d.vault = .extending ∨ d.vault = .relockWait
              ∨ (d.vault = .jammed ∧ d.vaultGrant = none ∧ d.egress = none) →
            (t.door v).vault = .opened ∧ (t.door v).vaultHeld = some ((s.group v).tHeld * 100)
              ∧ (t.occupancy v).entries = (s.occupancy v).entries
              ∧ (q.qualified = none → (t.occupancy v).certain = (s.occupancy v).certain
                  ∧ (t.door v).vaultForcedStands = d.vaultForcedStands)
              ∧ (q.qualified ≠ none → (t.occupancy v).certain = false ∧ (t.door v).vaultForcedStands = true
                  ∧ (s.alarmRoom → t.conditionStands (keyOf .doorForced (some v) (some (.door .vault))) = true)))
        ∧ (d.vault = .emergencyReleased →
            (t.door v).vault = .emergencyReleased ∧ (t.door v).egress = none ∧ (t.occupancy v).certain = false
              ∧ (t.occupancy v).entries.map Occupant.number
                = numbers.filter (fun k => decide (∀ g, d.vaultGrant = some g → k ∉ g.exiting))
              ∧ ∃ g, (t.door v).vaultGrant = some g ∧ g.origin = .emergency ∧ g.entering = [] ∧ g.exiting = []
                  ∧ g.lapse = none))
      ∧ (s.changes v .vaultContact .active → s.enabled v = true → ¬ calm → (s.sequencer v).path = some .automatic →
          (s.occupancy v).certain = true →
          let out : Prop := d.vault = .retracting ∨ d.vault = .released ∨ d.vault = .jammed
          ∃ t, exec (.vaultContactOpen v) s = .next t ∧ s.lineQualified t v .vaultContact .active
            ∧ (d.vault = .secured ∨ d.vault = .extending ∨ d.vault = .relockWait
                  ∨ (d.vault = .jammed ∧ d.vaultGrant = none ∧ d.egress = none) →
                q.qualified ≠ none → s.inhibits t v ∧ (t.occupancy v).certain = false)
            ∧ (out → d.vaultGrant = none → d.egress ≠ none → numbers ≠ [] →
                s.inhibits t v ∧ (t.occupancy v).certain = false)
            ∧ (out → d.vaultGrant = none → d.egress ≠ none → numbers = [] → (s.sequencer v).egress = .pressed →
                (t.sequencer v).state = .held ∧ (t.sequencer v).egress = .opened ∧ (t.sequencer v).holdEgress = true
                  ∧ (t.sequencer v).remaining = (s.sequencer v).remaining
                  ∧ (t.occupancy v).certain = true ∧ (t.occupancy v).entries = (s.occupancy v).entries)
            ∧ (∀ g, out → d.vaultGrant = some g →
                g.unrecorded = true ∨ (g.origin = .host ∧ g.entering = []) ∨ (d.egress ≠ none ∧ inside g ≠ [])
                  ∨ (numbers = [] ∧ inside g ≠ []) → s.inhibits t v))
      ∧ ∀ new, new ≠ .active → s.changes v .vaultContact new →
        ∃ t, exec (.vaultContactClose v) s = .next t ∧ s.lineQualified t v .vaultContact new ∧ t.occ = s.occ
          ∧ (q.qualified = some .active → d.vault = .opened →
              (t.door v).vaultHeld = none ∧ (t.door v).vaultHeldStands = false
                ∧ ((s.group v).relock = 0 → (t.door v).vault = s.extendsTo v)
                ∧ ((s.group v).relock ≠ 0 → (t.door v).vault = .relockWait
                    ∧ (t.door v).relock = some ((s.group v).relock * 100)))
          ∧ (q.qualified ≠ some .active ∨ d.vault ≠ .opened → t.door v = d)
          ∧ (q.qualified = some .active →
              (t.sequencer v).egress = (if (s.sequencer v).egress = .opened then .none else (s.sequencer v).egress))
          ∧ (q.qualified = some .active → (s.sequencer v).state = .awaitClosure → s.globalHold = false →
              s.lqu.holdAll = false → (s.sequencer v).abortElapsed = none →
              (t.sequencer v).state = .releasing
                ∧ (t.sequencer v).pulse = some ((s.sequencer v).committed.pulse * 10))
          ∧ (q.qualified ≠ some .active → t.ssq = s.ssq)

/-! ## The suppression sequence of a vault -/

/-- The lines of the suppression sequencer: the detectors give ALERT, confirmation or rest (R163, R164), the manual release
puts the sequence on the manual path (R174), ABORT holds and releases the automatic path (R168, R171), ISOLATE isolates what
has not released (R179, R180), and DISCHARGE is confirmed, or uncommanded (R175 to R178). -/
def Obligations.SuppressionLineChanges : Prop :=
  ∀ (s : Machine.State) (v : Vault), s.atu.lawful = true →
    let q := s.sequencer v
    let abortReady : Prop :=
      (s.lineRecord v .abort).qualified = some .active ∧ q.abortSpent = false ∧ q.abortCut = false
    (∀ (second : Bool) (new : Reading),
      let l : Line := if second then .detectorB else .detectorA
      let other : Line := if second then .detectorA else .detectorB
      s.changes v l new →
      ∃ t, exec (.detectorChange v second) s = .next t ∧ s.lineQualified t v l new
        ∧ (q.state = .quiet → new ≠ .active → t.ssq = s.ssq ∧ t.doors = s.doors)
        ∧ (q.state = .quiet → new = .active → s.countsActive v other = false →
            (t.sequencer v).state = .alert ∧ (t.sequencer v).committed = q.committed ∧ t.pair v = none
              ∧ (s.enabled v = true → (t.claimSet v).ssq = some .alert)
              ∧ (s.alarmRoom → t.conditionStands (keyOf .suppressionAlert (some v) (some (.sub .detection))) = true))
        ∧ (q.state = .quiet ∨ q.state = .alert → new = .active → s.countsActive v other = true → q.clear = true →
            (t.sequencer v).committed = s.stagedSet v ∧ (t.sequencer v).path = some .automatic
              ∧ (t.sequencer v).remaining = some ((s.stagedSet v).dAuto * 10)
              ∧ (s.unheld v → ¬ abortReady → (t.sequencer v).state = .countdown)
              ∧ (¬ s.unheld v ∨ abortReady → (t.sequencer v).state = .held))
        ∧ (q.state = .quiet ∨ q.state = .alert → new = .active → s.countsActive v other = true → q.clear = false →
            (t.sequencer v).committed = s.stagedSet v ∧ (t.sequencer v).state = .inhibited
              ∧ (t.door v).emergency = true
              ∧ (s.alarmRoom → t.conditionStands (keyOf .evacuation (some v) none) = true))
        ∧ (q.state = .alert → new = .normal → s.countsNormal v other = true → (t.sequencer v).state = .quiet)
        ∧ (q.state ≠ .quiet → q.state ≠ .alert → t.ssq = s.ssq ∧ t.doors = s.doors)
        ∧ t.occ = s.occ)
      ∧ (s.changes v .manualRelease .active →
        ∃ t, exec (.manualRelease v) s = .next t ∧ s.lineQualified t v .manualRelease .active ∧ t.occ = s.occ
          ∧ (q.state = .quiet ∨ q.state = .alert ∨ (q.state = .inhibited ∧ (s.door v).egress = none) →
              (t.sequencer v).path = some .manual ∧ (t.sequencer v).committed = s.stagedSet v
                ∧ (t.sequencer v).remaining = some ((s.stagedSet v).dMan * 10)
                ∧ (s.unheld v → (t.sequencer v).state = .countdown) ∧ (¬ s.unheld v → (t.sequencer v).state = .held)
                ∧ (s.alarmRoom → t.conditionStands (keyOf .suppressionAlert (some v) (some (.sub .manual))) = true))
          ∧ (q.state = .countdown → q.path = some .automatic → s.unheld v → ∀ n, q.remaining = some n →
              (t.sequencer v).state = .countdown ∧ (t.sequencer v).path = some .manual
                ∧ (t.sequencer v).remaining = some (min n (q.committed.dMan * 10)))
          ∧ (q.state = .releasing ∨ q.state = .verifying ∨ q.state = .discharged ∨ q.state = .isolated → t.ssq = s.ssq))
      ∧ (∀ new, new ≠ .active → s.changes v .manualRelease new →
        ∃ t, exec (.manualRelease v) s = .next t ∧ s.lineQualified t v .manualRelease new ∧ t.ssq = s.ssq
          ∧ t.doors = s.doors ∧ t.occ = s.occ)
      ∧ (∀ new, s.changes v .abort new →
        ∃ t, exec (.abortChange v) s = .next t ∧ s.lineQualified t v .abort new ∧ t.doors = s.doors ∧ t.occ = s.occ
          ∧ (new = .active → q.state = .countdown → q.path = some .automatic → q.abortSpent = false → q.abortCut = false →
              q.abortElapsed = none →
              (t.sequencer v).state = .held ∧ (t.sequencer v).abortElapsed = some 0
                ∧ (t.sequencer v).remaining = q.remaining)
          ∧ (new = .active → q.path = some .manual → t.ssq = s.ssq)
          ∧ (new = .normal → (t.sequencer v).abortElapsed = none ∧ (t.sequencer v).abortSpent = false)
          ∧ (new ≠ .active → q.state = .held → s.unheld v → ∀ n, q.remaining = some n → 0 < n →
              (t.sequencer v).state = .countdown
                ∧ (t.sequencer v).remaining = some (if q.path = some .automatic ∧ q.committed.resume = .restartFloor then
                    max n (q.committed.floor * 10) else n)))
      ∧ (∀ new, s.changes v .isolate new →
        ∃ t, exec (.isolateChange v) s = .next t ∧ s.lineQualified t v .isolate new ∧ t.occ = s.occ
          ∧ (new = .active → q.state ≠ .releasing → q.state ≠ .verifying → q.state ≠ .discharged →
              (t.sequencer v).state = .isolated)
          ∧ (new = .active → q.state = .releasing ∨ q.state = .verifying ∨ q.state = .discharged ∨ q.state = .isolated →
              t.ssq = s.ssq)
          ∧ (new ≠ .active → (s.lineRecord v .isolate).qualified = some .active → q.state = .isolated →
              s.countsActive v .detectorA = false → s.countsActive v .detectorB = false →
              (t.sequencer v).state = .quiet)
          ∧ (new ≠ .active → (s.lineRecord v .isolate).qualified = some .active → q.state = .isolated →
              s.countsActive v .detectorA ≠ s.countsActive v .detectorB → (t.sequencer v).state = .alert)
          ∧ (new ≠ .active → (s.lineRecord v .isolate).qualified ≠ some .active → t.ssq = s.ssq))
      ∧ (s.changes v .discharge .active →
        ∃ t, exec (.dischargeChange v) s = .next t ∧ s.lineQualified t v .discharge .active ∧ t.occ = s.occ
          ∧ (q.state = .releasing → t.sequencer v = { q with dischargeSeen := some true })
          ∧ (q.state = .verifying →
              (t.sequencer v).state = .discharged ∧ (t.sequencer v).detail = some .confirmed
                ∧ (t.sequencer v).soak = some (q.committed.soak * 6000)
                ∧ (s.alarmRoom → t.conditionStands (keyOf .discharge (some v) (some (.sub .confirmed))) = true))
          ∧ (q.state ≠ .releasing → q.state ≠ .verifying → q.state ≠ .discharged →
              (t.sequencer v).state = .discharged ∧ (t.sequencer v).detail = some .uncommanded
                ∧ (s.alarmRoom → t.conditionStands (keyOf .discharge (some v) (some (.sub .uncommanded))) = true))
          ∧ (q.state = .discharged → t.ssq = s.ssq))
      ∧ ∀ new, new ≠ .active → s.changes v .discharge new →
        ∃ t, exec (.dischargeChange v) s = .next t ∧ s.lineQualified t v .discharge new ∧ t.ssq = s.ssq
          ∧ t.doors = s.doors ∧ t.occ = s.occ

/-- The timers of the suppression sequencer: a countdown that ends releases behind a closed door and awaits the closure of an
open one (R172, R175), the hold limit ends an ABORT hold (R168, R171), the pulse ends in VERIFYING or DISCHARGED (R175, R176),
the confirm wait in DISCHARGED UNCONFIRMED (R178), and the soak ends with nothing else (R178). -/
def Obligations.SuppressionTimerEvents : Prop :=
  ∀ (s : Machine.State) (v : Vault), s.atu.lawful = true →
    let q := s.sequencer v
    (s.comes (.countdown v) →
      ∃ t, exec (.countdownExpiry v) s = .next t ∧ t.doors = s.doors ∧ t.occ = s.occ ∧ t.lines = s.lines
        ∧ (s.countsNormal v .vaultContact = true →
            (t.sequencer v).state = .releasing ∧ (t.sequencer v).pulse = some (q.committed.pulse * 10)
              ∧ (t.sequencer v).dischargeSeen = some false ∧ (t.sequencer v).remaining = none
              ∧ (t.vaultOutputs v).release = true)
        ∧ (s.countsNormal v .vaultContact = false →
            (t.sequencer v).state = .awaitClosure ∧ (t.sequencer v).remaining = some 0))
      ∧ (s.comes (.abortHold v) →
        ∃ t, exec (.abortHoldLapse v) s = .next t ∧ t.doors = s.doors ∧ t.occ = s.occ ∧ t.lines = s.lines
          ∧ (t.sequencer v).abortElapsed = none ∧ (t.sequencer v).abortSpent = true
          ∧ (q.state = .held → s.unheld v → ∀ n, q.remaining = some n → 0 < n →
              (t.sequencer v).state = .countdown
                ∧ (t.sequencer v).remaining = some (if q.path = some .automatic ∧ q.committed.resume = .restartFloor then
                    max n (q.committed.floor * 10) else n))
          ∧ (q.state = .held → ¬ s.unheld v → (t.sequencer v).state = .held ∧ (t.sequencer v).remaining = q.remaining))
      ∧ (s.comes (.pulse v) → q.state = .releasing →
        ∃ t, exec (.releasePulseEnd v) s = .next t ∧ t.doors = s.doors ∧ t.occ = s.occ ∧ t.lines = s.lines
          ∧ (t.vaultOutputs v).release = false
          ∧ (q.dischargeSeen = some true →
              (t.sequencer v).state = .discharged ∧ (t.sequencer v).detail = some .confirmed
                ∧ (t.sequencer v).soak = some (q.committed.soak * 6000)
                ∧ (s.alarmRoom → t.conditionStands (keyOf .discharge (some v) (some (.sub .confirmed))) = true))
          ∧ (q.dischargeSeen ≠ some true →
              (t.sequencer v).state = .verifying ∧ (t.sequencer v).confirmWait = some 1000
                ∧ (t.sequencer v).pulse = none))
      ∧ (s.comes (.confirmWait v) → q.state = .verifying →
        ∃ t, exec (.confirmWaitExpiry v) s = .next t ∧ t.doors = s.doors ∧ t.occ = s.occ ∧ t.lines = s.lines
          ∧ (t.sequencer v).state = .discharged ∧ (t.sequencer v).detail = some .unconfirmed
          ∧ (t.sequencer v).soak = some (q.committed.soak * 6000) ∧ (t.sequencer v).confirmWait = none
          ∧ (s.alarmRoom → t.conditionStands (keyOf .discharge (some v) (some (.sub .unconfirmed))) = true))
      ∧ (s.comes (.soak v) →
        exec (.soakEnd v) s = .next ((s.without (.soak v)).withSequencer v { q with soak := none }))

/-! ## People, alarms and the site -/

/-- A duress button raises DURESS-BUTTON at level 3 and does nothing else (R61, R189). The lone worker's timing: a check-in
restarts it, the chirp sounds at 6,000 ticks, and its end raises LONE-WORKER and restarts it (R150 to R152). A pair whose
window ends is dropped and its inner reader is given PAIR-LAPSED (R110). An escalation that ends raises the level of its
record by 1 (R194). -/
def Obligations.PeopleAndAlarmEvents : Prop :=
  (∀ (s : Machine.State) (v : Vault) (vestibule : Bool) (new : Reading), s.atu.lawful = true →
      let l : Line := if vestibule then .duressVestibule else .duressVault
      s.changes v l new →
      ∃ t, exec (.duressButton v vestibule) s = .next t ∧ s.lineQualified t v l new
        ∧ (new = .active → s.alarmRoom →
            ∃ r ∈ t.atu.table, r.key = keyOf .duressButton (some v) (some (.line (.vaultLine v l))) ∧ r.state ≠ .clearedUnack
              ∧ ((∀ x ∈ s.atu.table, x.key ≠ r.key) → r.state = .raised ∧ r.level = 3 ∧ r.escalation = none))
        ∧ (new = .opened ∨ new = .shorted → s.alarmRoom →
            t.conditionStands (keyOf .lineFault (some v) (some (.line (.vaultLine v l)))) = true)
        ∧ t.claims = s.claims ∧ t.doors = s.doors ∧ t.occ = s.occ ∧ t.ssq = s.ssq)
    ∧ (∀ (s : Machine.State) (v : Vault) (e : Occupant), s.atu.lawful = true → (s.occupancy v).entries = [e] →
      s.enabled v = true →
      let full := (s.group v).loneInterval * 6000
      (∀ n, s.changes v .checkIn .active → e.checkIn = some n →
        ∃ t, exec (.checkInButton v) s = .next t ∧ s.lineQualified t v .checkIn .active
          ∧ t.occupancy v = { s.occupancy v with entries := [{ e with checkIn := some full, overdue := false }] }
          ∧ (t.claimSet v).chirp = false ∧ t.doors = s.doors ∧ t.ssq = s.ssq)
        ∧ (∀ new, new ≠ .active ∨ e.checkIn = none → s.changes v .checkIn new →
          ∃ t, exec (.checkInButton v) s = .next t ∧ s.lineQualified t v .checkIn new ∧ t.occ = s.occ
            ∧ t.claims = s.claims ∧ t.doors = s.doors ∧ t.ssq = s.ssq)
        ∧ (s.comes (.chirp v) →
          ∃ t, exec (.loneWorkerChirp v) s = .next t
            ∧ t.occupancy v = { s.occupancy v with entries := [{ e with checkIn := some 6000 }] }
            ∧ (t.claimSet v).chirp = true ∧ t.atu = s.atu ∧ t.doors = s.doors ∧ t.ssq = s.ssq)
        ∧ (s.comes (.loneWorker v) →
          ∃ t, exec (.loneWorkerExpiry v) s = .next t
            ∧ t.occupancy v = { s.occupancy v with entries := [{ e with checkIn := some full, overdue := true }] }
            ∧ (s.alarmRoom → t.conditionStands
                { kind := .loneWorker, vault := some v, credential := some e.number, detail := none } = true)
            ∧ t.doors = s.doors ∧ t.ssq = s.ssq))
    ∧ (∀ (s : Machine.State) (v : Vault) (p : PendingPair), s.comes (.pairWindow v) → s.pair v = some p →
      s.enabled v = true →
      ∃ t, exec (.pairWindowExpiry v) s = .next t ∧ t.pair v = none
        ∧ (t.reader ⟨v, .inner⟩).lastVerdict = some { verdict := .pairLapsed, number := some p.first, time := s.stamp }
        ∧ ((s.reader ⟨v, .inner⟩).status ≠ .silent →
            (t.reader ⟨v, .inner⟩).waiting = some { verdict := .pairLapsed, number := some p.first })
        ∧ t.link.waiting.verdict = true
        ∧ t = { s with pairs := t.pairs, readers := t.readers, link := t.link, due := t.due })
    ∧ ∀ (s : Machine.State) (r : AlarmRecord), s.atu.lawful = true → r ∈ s.atu.table → s.comes (.escalation r.id) →
      ∃ t, exec (.escalationExpiry r.id) s = .next t ∧ t.link.waiting.alarms = true
        ∧ t.atu = { s.atu with table := s.atu.table.map fun x => if x.id = r.id then
            { x with level := x.level + 1
                     escalation := if x.level + 1 < maxLevel x.key.kind then some (100 * s.cfg.site.e2) else none }
            else x }
        ∧ t = { s with atu := t.atu, link := t.link, due := t.due }

/-- A site line's qualified change is judged by its role: HOLD-ALL gives the site input, which holds the countdowns that run
and, at its end, frees those that no other source holds (R171), and an evacuation member gives the combination, whose change starts its count again (R67, R70 to R72). A broken release
circuit raises LINE-FAULT and an intact one ends it (R68). The combination's completion raises the site EVACUATION record,
sets the latch, and puts every enabled vault under EVACUATE and in the emergency condition (R72, R73, R136, R199). -/
def Obligations.SiteLinesAndEvacuation : Prop :=
  (∀ (s : Machine.State) (i : SiteLine) (new : Reading), s.atu.lawful = true → s.comes (.siteLine i) →
      (s.lqu.site.get i).candidate = some new →
      let q := s.lqu.site.get i
      let role (j : SiteLine) : Role := s.cfg.site.roles.get j
      ∃ t, exec (.siteLineChange i) s = .next t
        ∧ t.lqu.site.get i = { q with qualified := some new, candidate := none, run := 0, start := none }
        ∧ (∀ j, j ≠ i → t.lqu.site.get j = s.lqu.site.get j)
        ∧ (role i = .none → t.atu = s.atu ∧ t.ssq = s.ssq
            ∧ t.lqu = { s.lqu with site := t.lqu.site })
        ∧ (role i = .holdAll →
            (t.lqu.holdAll = true ↔ ∃ j, role j = .holdAll ∧ (t.lqu.site.get j).qualified = some .active)
              ∧ t.lqu.stands = s.lqu.stands
              ∧ (t.lqu.holdAll = true → s.lqu.holdAll = false → ∀ v,
                  (s.sequencer v).state = .countdown ∨ (s.sequencer v).state = .awaitClosure →
                  (t.sequencer v).state = .held ∧ (t.sequencer v).holdHoldAll = true
                    ∧ (t.sequencer v).remaining = (s.sequencer v).remaining)
              ∧ (t.lqu.holdAll = false → s.lqu.holdAll = true → s.globalHold = false → ∀ v, (s.sequencer v).state = .held →
                  ((s.sequencer v).egress = .none → (s.sequencer v).abortElapsed = none → s.resumes t v)
                    ∧ ((s.sequencer v).egress ≠ .none ∨ (s.sequencer v).abortElapsed ≠ none →
                        (t.sequencer v).state = .held ∧ (t.sequencer v).holdHoldAll = false
                          ∧ (t.sequencer v).remaining = (s.sequencer v).remaining)))
        ∧ (role i = .evacuateMember →
            (t.lqu.stands = true ↔ ∀ j, role j = .evacuateMember → (t.lqu.site.get j).qualified = some .active)
              ∧ t.lqu.holdAll = s.lqu.holdAll ∧ t.ssq = s.ssq
              ∧ (t.lqu.stands ≠ s.lqu.stands → t.lqu.count = 0 ∧ t.lqu.completed = false)
              ∧ (t.lqu.stands = s.lqu.stands → t.lqu.count = s.lqu.count ∧ t.lqu.completed = s.lqu.completed))
        ∧ (role i ≠ .none → new = .opened ∨ new = .shorted → s.alarmRoom →
            t.conditionStands (keyOf .lineFault none (some (.line (.siteLine i)))) = true)
        ∧ t.occ = s.occ ∧ t.nva = s.nva ∧ t.cfg = s.cfg ∧ t.doors = s.doors ∧ t.lines = s.lines)
    ∧ (∀ (s : Machine.State) (v : Vault) (new : Circuit), s.atu.lawful = true → s.atu.owed = false →
      s.comes (.release v) → (s.lines.get v).release.candidate = some new →
      ∃ t, exec (.releaseCircuitChange v) s = .next t
        ∧ (t.lines.get v).release
          = { (s.lines.get v).release with qualified := some new, candidate := none, run := 0, start := none }
        ∧ (new = .broken → s.alarmRoom →
            t.conditionStands (keyOf .lineFault (some v) (some (.line (.release v)))) = true)
        ∧ (new = .intact → t.conditionStands (keyOf .lineFault (some v) (some (.line (.release v)))) = false)
        ∧ t.ssq = s.ssq ∧ t.doors = s.doors ∧ t.occ = s.occ ∧ t.claims = s.claims)
    ∧ ∀ s : Machine.State, s.atu.lawful = true → s.comes .evacuation →
      ∃ t, exec .evacuationCombinationCompletion s = .next t ∧ t.atu.latch = true ∧ t.lqu.completed = true
        ∧ (s.alarmRoom → t.conditionStands (keyOf .evacuation none none) = true)
        ∧ (s.atu.latch = false → ∀ v, s.enabled v = true →
            (t.claimSet v).siteEvacuate = true ∧ (t.door v).emergency = true
              ∧ ((s.door v).emergency = false → (t.door v).vault = .emergencyReleased
                  ∧ (t.door v).outer = .emergencyUnlocked ∧ (t.vaultOutputs v).outerLock = true))
        ∧ (s.atu.latch = true → t.doors = s.doors ∧ t.claims = s.claims)
        ∧ t.occ = s.occ ∧ t.ssq = s.ssq ∧ t.nva = s.nva ∧ t.cfg = s.cfg ∧ t.lines = s.lines ∧ t.cal = s.cal

/-! ## The readers and the access decisions -/

/-- The reader line (R81 to R88, R92): a transaction begins with the next reader in address order, INDICATE where an
indication waits and POLL otherwise; the window opens and the reply begins; a window that ends is a miss, and the third makes
the reader SILENT; a good reply ends the faults it answers, and a PRESENT within 2 s of the last of the same number is
dropped. A taken PRESENT is decided and its verdict handed to the reader (R89, R90). That the last verdict holds the number
presented with every verdict, UNKNOWN and STARTING among them, is the model's choice (notes/assumptions/27.md). -/
def Obligations.TheReaderLinePolls : Prop :=
  ∀ (s : Machine.State) (a : ReaderAddress), s.awake → s.atu.lawful = true →
    let r := s.reader a
    let fault (f : ReaderFault) : AlarmKey := keyOf .readerFault (some a.vault) (some (.reader a f))
    let first : Prop := ∀ b : ReaderAddress, s.enabled b.vault = true → a.number ≤ b.number
    let next : Prop := s.enabled a.vault = true ∧ (s.rline.last = none → first)
      ∧ ∀ l, s.rline.last = some l →
        (l.number < a.number ∧ ∀ b : ReaderAddress, s.enabled b.vault = true → l.number < b.number → a.number ≤ b.number)
          ∨ ((∀ b : ReaderAddress, s.enabled b.vault = true → b.number ≤ l.number) ∧ first)
    (s.rline.phase = .settling → next →
      exec .pollTransactionStart s = .next { (s.withReader a { r with waiting := none, inFlight := r.waiting }) with
        rline := { phase := .partFrame, address := some a, discard := false, last := some a
                   frame := match r.waiting with
                     | some w => indicateFrame a w.verdict
                     | none => pollFrame a } })
      ∧ (s.rline.phase = .partFrame → exec .replyWindowOpen s = .next { s with rline := { s.rline with phase := .window } })
      ∧ (s.rline.phase = .window → exec .readerReplyBegun s = .next { s with rline := { s.rline with phase := .reply } })
      ∧ (s.rline.phase = .window → s.polls a →
        (r.status = .silent → exec .replyWindowExpiry s =
            .next { (s.withReader a { r with waiting := none, inFlight := none }) with rline := s.rline.ended })
          ∧ (r.status ≠ .silent → r.misses < 2 → exec .replyWindowExpiry s =
            .next { (s.withReader a { r with
                misses := r.misses + 1, inFlight := none
                waiting := if r.waiting = none then r.inFlight else r.waiting }) with rline := s.rline.ended })
          ∧ (r.status ≠ .silent → 2 ≤ r.misses →
            ∃ t, exec .replyWindowExpiry s = .next t ∧ t.rline = s.rline.ended
              ∧ t.reader a = { r with status := .silent, misses := 3, waiting := none, inFlight := none }
              ∧ (s.alarmRoom → t.conditionStands (fault .silent) = true)
              ∧ (r.status = .tampered → s.atu.owed = false → t.conditionStands (fault .tamper) = false)))
      ∧ (∀ bytes, s.rline.phase = .reply → s.polls a → s.atu.owed = false →
        (parseReply a bytes = some .idle →
          ∃ t, exec (.readerReplyComplete bytes) s = .next t ∧ t.rline = s.rline.ended
            ∧ t.reader a = { r with misses := 0, inFlight := none, status := .online }
            ∧ (r.status = .silent → t.conditionStands (fault .silent) = false)
            ∧ (r.status = .tampered → t.conditionStands (fault .tamper) = false))
          ∧ (parseReply a bytes = some .tamper →
            ∃ t, exec (.readerReplyComplete bytes) s = .next t ∧ t.rline = s.rline.ended
              ∧ t.reader a = { r with misses := 0, inFlight := none, status := .tampered }
              ∧ (r.status = .silent → t.conditionStands (fault .silent) = false)
              ∧ (r.status ≠ .tampered → s.alarmRoom → t.conditionStands (fault .tamper) = true))
          ∧ (parseReply a bytes = none → r.status ≠ .silent → r.misses < 2 →
            ∃ t, exec (.readerReplyComplete bytes) s = .next t ∧ t.rline = s.rline.ended
              ∧ (t.reader a).misses = r.misses + 1)
          ∧ (∀ k purpose digits p, parseReply a bytes = some (.present k purpose digits) → r.presentation = some p →
              p.number = k → p.age < 200 → r.status = .online →
            exec (.readerReplyComplete bytes) s = .next { (s.withReader a { r with
              misses := 0, inFlight := none, presentation := some { number := k, age := 0 } }) with rline := s.rline.ended })
          ∧ (∀ k purpose digits, parseReply a bytes = some (.present k purpose digits) →
              (∀ p, r.presentation = some p → p.number ≠ k ∨ 200 ≤ p.age) → r.status = .online →
            let u := s.withReader a { r with
              misses := 0, inFlight := none, presentation := some { number := k, age := 0 } }
            let verdict := (decidePresentation a k (if a.position = .exit then purpose else .entry) digits u).2
            ∃ t, exec (.readerReplyComplete bytes) s = .next t ∧ t.rline = s.rline.ended
              ∧ (t.reader a).presentation = some { number := k, age := 0 }
              ∧ (t.reader a).lastVerdict = some { verdict := verdict, number := some k, time := s.stamp }
              ∧ t.link.waiting.verdict = true))

/-- The checks of an entry come in the order of R103, and the first that fails gives the verdict with nothing changed but a
recorded PIN failure. That failure is counted in the number's entry, or makes a new one, for which a full table gives up its
oldest entry below the limit, if any (R9). A presentation at an outer reader that passes them unlocks the outer door. A credential with uses
remaining spends one at its grant, in a write with the next revision, is RETIRED with the last one, and is refused STORE-BUSY
where that write has no place (R13, R106, R116). The duress code raises DURESS-CODE and is decided as the PIN is (R104). After
the verdict, which is handed with the number (the model's choice, notes/assumptions/27.md), a number that stands at the
failure limit is suspended, and its failure entry forgotten, where the write has a place (R14, R117). During the scan every presentation is answered STARTING (R102 to R106). -/
def Obligations.EntryChecksComeInOrder : Prop :=
  ∀ (s : Machine.State) (v : Vault) (k : Nat) (digits : List Nat) (purpose : Purpose),
    let a : ReaderAddress := ⟨v, .outer⟩
    let decided := decidePresentation a k purpose digits s
    let next (r : CredRecord) : Nat := if r.revision = 255 then 1 else r.revision + 1
    (∀ b : ReaderAddress, s.phase ≠ .running → decidePresentation b k purpose digits s = (s, .starting))
      ∧ (let u := handVerdict a decided.2 (some k) decided.1
        let t := present a k purpose digits s
        (u.atLimit k = false → t = u)
        ∧ (u.atLimit k = true → u.slotOf k = none → t = { u with failures := u.failuresWithout k })
        ∧ ∀ slot r, u.atLimit k = true → u.slotOf k = some slot → u.slotContent slot = .held r →
          (r.state ≠ .active → t = { u with failures := u.failuresWithout k })
          ∧ (r.state = .active → u.devicePlace (.slot slot) = false → t = u)
          ∧ (r.state = .active → r.number = k → u.storeSound = true → u.devicePlace (.slot slot) = true →
              u.recordQueued t slot { r with state := .suspended, revision := next r } ∧ t.failures = u.failuresWithout k))
      ∧ (s.phase = .running →
        ((s.sequencer v).state ≠ .quiet → (s.sequencer v).state ≠ .isolated → decided = (s, .suppression))
        ∧ ((s.sequencer v).state = .quiet ∨ (s.sequencer v).state = .isolated →
          (s.slotOf k = none → decided = (s, .unknown))
          ∧ ∀ slot r, s.slotOf k = some slot → s.slotContent slot = .held r →
            let band : Bool := decide (2048 - s.cfg.site.bandSize ≤ slot)
            (r.state = .retired → decided = (s, .retired))
            ∧ (r.state = .suspended → decided = (s, .suspended))
            ∧ (r.state = .active → s.atLimit k = true → decided = (s, .lockedOut))
            ∧ (r.state = .active → s.atLimit k = false →
              (s.mode = .lockdown → band = false → decided = (s, .lockdown))
              ∧ ((s.mode = .lockdown → band = true) →
                (∀ e, r.expiry = some e → e < s.cal.instant.day → decided = (s, .expired))
                ∧ ((∀ e, r.expiry = some e → s.cal.instant.day ≤ e) →
                  (r.vaults.getLsbD v.num = false → decided = (s, .notPermitted))
                  ∧ (r.vaults.getLsbD v.num = true →
                    let hours : Prop := s.mode = .openHours ∨ band = true
                      ∨ ∃ n, r.schedule = some n ∧ s.cal.containment n = .contained
                    (s.mode ≠ .openHours → band = false → ∀ n, r.schedule = some n → s.cal.containment n = .noTime →
                        decided = (s, .clock))
                    ∧ (s.mode ≠ .openHours → band = false →
                        (r.schedule = none ∨ ∃ n, r.schedule = some n ∧ s.cal.containment n = .notContained) →
                        decided = (s, .outOfHours))
                    ∧ (hours → ∀ pin, r.pin = some pin → digits = [] → decided = (s, .pinRequired))
                    ∧ (hours → ∀ pin, r.pin = some pin → digits ≠ [] → digits ≠ pin → r.duress ≠ some digits →
                        let failed (f : List FailureEntry) : Prop := decided = ({ s with failures := f }, .pinWrong)
                        let fresh : FailureEntry := { number := k, failures := 1, age := 0 }
                        let below (e : FailureEntry) : Prop := e.failures < s.cfg.site.failureLimit
                        (∀ e, s.failureEntry k = some e →
                            failed ({ e with failures := min 9 (e.failures + 1), age := 0 } :: s.failuresWithout k))
                          ∧ (s.failureEntry k = none →
                            (s.failures.length < 32 → failed (fresh :: s.failures))
                              ∧ (32 ≤ s.failures.length →
                                (∀ before e after, s.failures = before ++ e :: after → below e → (∀ x ∈ after, ¬ below x) →
                                    failed (fresh :: (before ++ after)))
                                  ∧ ((∀ x ∈ s.failures, ¬ below x) → failed s.failures))))
                    ∧ (hours → ∀ pin, r.pin = some pin → pin ≠ [] → r.duress ≠ some pin → r.duress = some digits →
                        digits ≠ [] →
                        let plain := decidePresentation a k purpose pin s
                        decided.2 = plain.2
                          ∧ decided.1 = { plain.1 with atu := decided.1.atu, link := decided.1.link }
                          ∧ (s.atu.lawful = true → s.alarmRoom → decided.1.conditionStands
                              { kind := .duressCode, vault := some v, credential := some k, detail := none } = true))
                    ∧ (hours → r.pin = none ∨ (∃ pin, r.pin = some pin ∧ pin ≠ [] ∧ digits = pin ∧ r.duress ≠ some digits) →
                      (k ∈ s.placedNumbers → decided = (s, .passback))
                      ∧ (k ∉ s.placedNumbers →
                        ((s.group v).limit < s.load v + 1 ∨ 64 < s.siteLoad + 1 → decided = (s, .full))
                        ∧ (s.load v + 1 ≤ (s.group v).limit → s.siteLoad + 1 ≤ 64 →
                          ((s.door v).vault ≠ .secured ∨ (s.door v).outer ≠ .locked → decided = (s, .interlock))
                          ∧ ((s.door v).vault = .secured → (s.door v).outer = .locked → r.uses = none →
                            decided.2 = .granted
                              ∧ decided.1.door v = { s.door v with
                                  outer := .unlocked
                                  outerGrant := some { origin := .entry, lapse := (s.group v).tOuter * 100 } }
                              ∧ decided.1.nva = s.nva ∧ decided.1.occ = s.occ ∧ decided.1.ssq = s.ssq)
                          ∧ (∀ n, (s.door v).vault = .secured → (s.door v).outer = .locked → r.uses = some n →
                            s.nva.queued (.slot slot) = none → 8 ≤ s.nva.queue.length → decided = (s, .storeBusy))
                          ∧ (∀ n, (s.door v).vault = .secured → (s.door v).outer = .locked → r.uses = some n →
                            s.devicePlace (.slot slot) = true →
                            let used : CredRecord := { r with
                              uses := some (n - 1), state := if n ≤ 1 then .retired else .active, revision := next r }
                            decided.2 = .granted ∧ decided.1.slotContent slot = .held used
                              ∧ (∀ m, m ≠ slot → decided.1.slotContent m = s.slotContent m)
                              ∧ decided.1.nva.queue = (s.nva.place (.slot slot (some used))).queue
                              ∧ decided.1.door v = { s.door v with
                                  outer := .unlocked
                                  outerGrant := some { origin := .entry, lapse := (s.group v).tOuter * 100 } }
                              ∧ decided.1.occ = s.occ ∧ decided.1.ssq = s.ssq ∧ decided.1.array = s.array))))))))))

/-- At an inner reader a credential that passes the checks, with no PIN and no uses to spend, is decided by the tables of R109
to R113. With no pair pending it is admitted alone where it needs neither an escort nor a second, waits where pairing is in
force, and is told ESCORT-NEEDED elsewhere. With the pair of another that passes its re-evaluation, it is admitted with the
first where each that needs an escort finds one in the other, alone where only it needs no partner, and is told ESCORT-NEEDED
otherwise; a first that fails is dropped and the credential decided as with no pair. The first again waits on, or is admitted
alone. Each number admitted carries the escort link of R115. At an exit
reader an ENTRY presentation is never refused: it releases the door and lists the number, joins an outstanding grant, or
leaves at once through an open door; a CHECK-IN is answered by whether the number is inside (R118, R119, R126, R131). -/
def Obligations.InnerAndExitPresentations : Prop :=
  ∀ (s : Machine.State) (v : Vault) (k : Nat), s.phase = .running →
    let d := s.door v
    let inner := decidePresentation ⟨v, .inner⟩ k .entry [] s
    let leave := decidePresentation ⟨v, .exit⟩ k .entry [] s
    let checked := decidePresentation ⟨v, .exit⟩ k .checkIn [] s
    let free : Prop := d.vaultGrant = none ∧ d.egress = none
      ∧ (d.vault = .secured ∨ d.vault = .relockWait ∨ d.vault = .extending) ∧ d.outer = .locked
    let plain (n : Nat) : Prop := ∃ slot r, gate s v n = .ok (slot, r) ∧ r.pin = none ∧ r.uses = none
    let pairs : Prop := s.mode ≠ .openHours ∧ (s.group v).pairFlag = true
    let escort : Option Nat := ((s.occupancy v).entries.find? fun e => s.mayEscort e.number).map Occupant.number
    let needs (n : Nat) : Prop := s.escortRequired n = true ∧ escort = none
    let two (n : Nat) : Prop := pairs ∧ s.bandCredential n = false ∧ (s.occupancy v).entries = []
    let link (n : Nat) (partner : Option Nat) : Option Nat :=
      if s.escortRequired n = false then none
      else match partner with
        | some j => if s.mayEscort j then some j else escort
        | none => escort
    let listed (n : Nat) : Prop := n ∈ (s.withPair v none).placedNumbers
    let grant (e : List EnteringEntry) : VaultGrant :=
      { origin := .entry, entering := e, exiting := [], unrecorded := false, lapse := some ((s.group v).tGrant * 100) }
    let freed : VaultState := if d.vault = .relockWait then .released else s.retractsTo v
    let admitted (verdict : Verdict) (set : List EnteringEntry) (pair : Option PendingPair) : Prop :=
      inner.2 = verdict ∧ (inner.1.door v).vaultGrant = some (grant set) ∧ (inner.1.door v).vault = freed
        ∧ inner.1.pair v = pair ∧ inner.1.nva = s.nva ∧ inner.1.occ = s.occ
    let alone : List EnteringEntry := [{ number := k, duress := false, link := link k none }]
    (plain k → ¬ listed k → s.load v + 1 ≤ (s.group v).limit → s.siteLoad + 1 ≤ 64 →
      (d.vaultGrant ≠ none ∨ d.egress ≠ none ∨ (d.vault ≠ .secured ∧ d.vault ≠ .relockWait ∧ d.vault ≠ .extending) →
          inner = (s, .doorBusy))
        ∧ (d.vaultGrant = none → d.egress = none → d.vault = .secured ∨ d.vault = .relockWait ∨ d.vault = .extending →
            d.outer ≠ .locked → inner = (s, .interlock))
        ∧ (free → s.nva.queue.length ≤ 8 →
          (s.pair v = none →
            (¬ needs k → ¬ two k → admitted .granted alone none)
              ∧ (needs k ∨ two k → pairs →
                  inner = (s.withPair v (some { first := k, duress := false, window := s.cfg.site.pairWindow * 100 }),
                    .waitSecond))
              ∧ (needs k → ¬ pairs → inner = (s, .escortNeeded)))
            ∧ (∀ p, s.pair v = some p → p.first = k →
                (needs k ∨ two k → inner = (s, .waitSecond)) ∧ (¬ needs k → ¬ two k → admitted .granted alone none))
            ∧ ∀ p, s.pair v = some p → p.first ≠ k →
                ((∀ c, gate s v p.first ≠ .ok c) ∨ listed p.first →
                    inner = decidePresentation ⟨v, .inner⟩ k .entry [] (s.withPair v none))
                  ∧ (plain p.first → ¬ listed p.first →
                    let met : Prop := (needs p.first → s.mayEscort k = true) ∧ (needs k → s.mayEscort p.first = true)
                    (met → s.load v + 2 ≤ (s.group v).limit → s.siteLoad + 2 ≤ 64 →
                        admitted .grantedPair [{ number := p.first, duress := p.duress, link := link p.first (some k) },
                          { number := k, duress := false, link := link k (some p.first) }] none)
                      ∧ (met → (s.group v).limit < s.load v + 2 ∨ 64 < s.siteLoad + 2 → inner = (s, .full))
                      ∧ (¬ met → needs k ∨ two k → inner = (s, .escortNeeded))
                      ∧ (¬ met → ¬ needs k → ¬ two k → admitted .granted alone (some p)))))
      ∧ (let inside : Prop := ∃ e ∈ (s.occupancy v).entries, e.number = k
        (leave.2 = .exitReleased ↔ inside) ∧ (leave.2 = .exitUnlisted ↔ ¬ inside)
        ∧ (d.vaultGrant = none → d.vault ≠ .opened →
            ∃ g, (leave.1.door v).vaultGrant = some g ∧ g.origin = .exit ∧ g.entering = [] ∧ g.unrecorded = false
              ∧ g.lapse = some ((s.group v).tGrant * 100)
              ∧ (inside → g.exiting = [k]) ∧ (¬ inside → g.exiting = [])
              ∧ (d.vault = .secured ∨ d.vault = .extending ∨ d.vault = .jammed → (leave.1.door v).vault = s.retractsTo v)
              ∧ (d.vault = .relockWait → (leave.1.door v).vault = .released)
              ∧ leave.1.occ = s.occ ∧ leave.1.ssq = s.ssq)
        ∧ (∀ g, d.vaultGrant = some g → inside → d.vault ≠ .emergencyReleased →
            leave.1 = s.withDoor v { d with vaultGrant := some (if k ∈ g.exiting then g
              else if g.exiting.length < 4 then { g with exiting := g.exiting ++ [k] } else { g with unrecorded := true }) })
        ∧ (d.vaultGrant ≠ none → ¬ inside → leave.1 = s)
        ∧ (d.vaultGrant = none → d.vault = .opened → inside →
            (leave.1.occupancy v).entries.map Occupant.number
              = ((s.occupancy v).entries.map Occupant.number).filter fun n => decide (n ≠ k))
        ∧ (inside → checked.2 = .checkedIn) ∧ (¬ inside → checked = (s, .notInside)))
end

