-- ==== Sys2Proof/Laws/State.lean ====
section
/-!
SUPPORT. One lemma for each field of the state under each update of `Machine/Ops.lean`, and the laws of reading back a
record of a vault, a line or a site line. No later proof unfolds an update.
-/

namespace Sys2Proof

/-- Reading a vault's value after a write: the value written there, and the old one at every other vault. -/
theorem PerVault.get_set {α : Type} (p : PerVault α) (v w : Vault) (a : α) :
    (p.set v a).get w = if v = w then a else p.get w := by
  cases v <;> cases w <;> rfl

@[simp] theorem PerVault.get_set_self {α : Type} (p : PerVault α) (v : Vault) (a : α) : (p.set v a).get v = a := by
  cases v <;> rfl

theorem PerVault.get_set_of_ne {α : Type} (p : PerVault α) {v w : Vault} (a : α) (h : v ≠ w) :
    (p.set v a).get w = p.get w := by
  rw [PerVault.get_set, if_neg h]

@[simp] theorem PerVault.get_make {α : Type} (f : Vault → α) (v : Vault) : (PerVault.make f).get v = f v := by
  cases v <;> rfl

@[simp] theorem PerVault.get_replicate {α : Type} (a : α) (v : Vault) : (PerVault.replicate a).get v = a := by
  cases v <;> rfl

@[simp] theorem PerVault.set_get {α : Type} (p : PerVault α) (v : Vault) : p.set v (p.get v) = p := by
  cases v <;> rfl

@[simp] theorem PerVault.set_set {α : Type} (p : PerVault α) (v : Vault) (a b : α) :
    (p.set v a).set v b = p.set v b := by
  cases v <;> rfl

/-- Reading a line's value after a write. -/
theorem PerLine.get_set {α : Type} (p : PerLine α) (l m : Line) (a : α) :
    (p.set l a).get m = if l = m then a else p.get m := by
  cases l <;> cases m <;> rfl

@[simp] theorem PerLine.get_set_self {α : Type} (p : PerLine α) (l : Line) (a : α) : (p.set l a).get l = a := by
  cases l <;> rfl

@[simp] theorem PerLine.get_make {α : Type} (f : Line → α) (l : Line) : (PerLine.make f).get l = f l := by
  cases l <;> rfl

/-- Reading a site line's value after a write. -/
theorem PerSite.get_set {α : Type} (p : PerSite α) (i j : SiteLine) (a : α) :
    (p.set i a).get j = if i = j then a else p.get j := by
  cases i <;> cases j <;> rfl

@[simp] theorem PerSite.get_make {α : Type} (f : SiteLine → α) (i : SiteLine) : (PerSite.make f).get i = f i := by
  cases i <;> rfl

/-- The vault of a vault's number is that vault. -/
@[simp] theorem Vault.ofNum_num (v : Vault) : Vault.ofNum v.num = some v := by cases v <;> rfl

theorem Vault.num_lt (v : Vault) : v.num < 8 := by cases v <;> decide

theorem Vault.mem_all (v : Vault) : v ∈ Vault.all := by cases v <;> decide

/-- A number names a vault exactly up to 7. -/
theorem Vault.ofNum_eq_none {n : Nat} (h : 8 ≤ n) : Vault.ofNum n = none := by
  match n, h with
  | n + 8, _ => rfl

end Sys2Proof

namespace Sys2Proof.Machine

/-- Reading a reader record after a write to its vault's readers. -/
@[simp] theorem VaultReaders.at_put_self (r : VaultReaders) (p : Position) (a : ReaderRecord) : (r.put p a).at p = a := by
  cases p <;> rfl


/-! ### withDoor -/

@[simp] theorem State.withDoor_phase (s : State) (v : Vault) (d : DoorRecord) : (s.withDoor v d).phase = s.phase := rfl
@[simp] theorem State.withDoor_scanPos (s : State) (v : Vault) (d : DoorRecord) : (s.withDoor v d).scanPos = s.scanPos := rfl
@[simp] theorem State.withDoor_resetKind (s : State) (v : Vault) (d : DoorRecord) : (s.withDoor v d).resetKind = s.resetKind := rfl
@[simp] theorem State.withDoor_supply (s : State) (v : Vault) (d : DoorRecord) : (s.withDoor v d).supply = s.supply := rfl
@[simp] theorem State.withDoor_link (s : State) (v : Vault) (d : DoorRecord) : (s.withDoor v d).link = s.link := rfl
@[simp] theorem State.withDoor_array (s : State) (v : Vault) (d : DoorRecord) : (s.withDoor v d).array = s.array := rfl
@[simp] theorem State.withDoor_nva (s : State) (v : Vault) (d : DoorRecord) : (s.withDoor v d).nva = s.nva := rfl
@[simp] theorem State.withDoor_index (s : State) (v : Vault) (d : DoorRecord) : (s.withDoor v d).index = s.index := rfl
@[simp] theorem State.withDoor_failures (s : State) (v : Vault) (d : DoorRecord) : (s.withDoor v d).failures = s.failures := rfl
@[simp] theorem State.withDoor_cfg (s : State) (v : Vault) (d : DoorRecord) : (s.withDoor v d).cfg = s.cfg := rfl
@[simp] theorem State.withDoor_tmb (s : State) (v : Vault) (d : DoorRecord) : (s.withDoor v d).tmb = s.tmb := rfl
@[simp] theorem State.withDoor_cal (s : State) (v : Vault) (d : DoorRecord) : (s.withDoor v d).cal = s.cal := rfl
@[simp] theorem State.withDoor_lqu (s : State) (v : Vault) (d : DoorRecord) : (s.withDoor v d).lqu = s.lqu := rfl
@[simp] theorem State.withDoor_lines (s : State) (v : Vault) (d : DoorRecord) : (s.withDoor v d).lines = s.lines := rfl
@[simp] theorem State.withDoor_claims (s : State) (v : Vault) (d : DoorRecord) : (s.withDoor v d).claims = s.claims := rfl
@[simp] theorem State.withDoor_readers (s : State) (v : Vault) (d : DoorRecord) : (s.withDoor v d).readers = s.readers := rfl
@[simp] theorem State.withDoor_rline (s : State) (v : Vault) (d : DoorRecord) : (s.withDoor v d).rline = s.rline := rfl
@[simp] theorem State.withDoor_mode (s : State) (v : Vault) (d : DoorRecord) : (s.withDoor v d).mode = s.mode := rfl
@[simp] theorem State.withDoor_auto (s : State) (v : Vault) (d : DoorRecord) : (s.withDoor v d).auto = s.auto := rfl
@[simp] theorem State.withDoor_pairs (s : State) (v : Vault) (d : DoorRecord) : (s.withDoor v d).pairs = s.pairs := rfl
@[simp] theorem State.withDoor_doors (s : State) (v : Vault) (d : DoorRecord) : (s.withDoor v d).doors = s.doors.set v d := rfl
@[simp] theorem State.withDoor_occ (s : State) (v : Vault) (d : DoorRecord) : (s.withDoor v d).occ = s.occ := rfl
@[simp] theorem State.withDoor_ssq (s : State) (v : Vault) (d : DoorRecord) : (s.withDoor v d).ssq = s.ssq := rfl
@[simp] theorem State.withDoor_globalHold (s : State) (v : Vault) (d : DoorRecord) : (s.withDoor v d).globalHold = s.globalHold := rfl
@[simp] theorem State.withDoor_atu (s : State) (v : Vault) (d : DoorRecord) : (s.withDoor v d).atu = s.atu := rfl
@[simp] theorem State.withDoor_due (s : State) (v : Vault) (d : DoorRecord) : (s.withDoor v d).due = s.due := rfl
@[simp] theorem State.withDoor_freeCount (s : State) (v : Vault) (d : DoorRecord) : (s.withDoor v d).freeCount = s.freeCount := rfl
@[simp] theorem State.withDoor_pending (s : State) (v : Vault) (d : DoorRecord) : (s.withDoor v d).pending = s.pending := rfl

/-! ### withSequencer -/

@[simp] theorem State.withSequencer_phase (s : State) (v : Vault) (q : SsqRecord) : (s.withSequencer v q).phase = s.phase := rfl
@[simp] theorem State.withSequencer_scanPos (s : State) (v : Vault) (q : SsqRecord) : (s.withSequencer v q).scanPos = s.scanPos := rfl
@[simp] theorem State.withSequencer_resetKind (s : State) (v : Vault) (q : SsqRecord) : (s.withSequencer v q).resetKind = s.resetKind := rfl
@[simp] theorem State.withSequencer_supply (s : State) (v : Vault) (q : SsqRecord) : (s.withSequencer v q).supply = s.supply := rfl
@[simp] theorem State.withSequencer_link (s : State) (v : Vault) (q : SsqRecord) : (s.withSequencer v q).link = s.link := rfl
@[simp] theorem State.withSequencer_array (s : State) (v : Vault) (q : SsqRecord) : (s.withSequencer v q).array = s.array := rfl
@[simp] theorem State.withSequencer_nva (s : State) (v : Vault) (q : SsqRecord) : (s.withSequencer v q).nva = s.nva := rfl
@[simp] theorem State.withSequencer_index (s : State) (v : Vault) (q : SsqRecord) : (s.withSequencer v q).index = s.index := rfl
@[simp] theorem State.withSequencer_failures (s : State) (v : Vault) (q : SsqRecord) : (s.withSequencer v q).failures = s.failures := rfl
@[simp] theorem State.withSequencer_cfg (s : State) (v : Vault) (q : SsqRecord) : (s.withSequencer v q).cfg = s.cfg := rfl
@[simp] theorem State.withSequencer_tmb (s : State) (v : Vault) (q : SsqRecord) : (s.withSequencer v q).tmb = s.tmb := rfl
@[simp] theorem State.withSequencer_cal (s : State) (v : Vault) (q : SsqRecord) : (s.withSequencer v q).cal = s.cal := rfl
@[simp] theorem State.withSequencer_lqu (s : State) (v : Vault) (q : SsqRecord) : (s.withSequencer v q).lqu = s.lqu := rfl
@[simp] theorem State.withSequencer_lines (s : State) (v : Vault) (q : SsqRecord) : (s.withSequencer v q).lines = s.lines := rfl
@[simp] theorem State.withSequencer_claims (s : State) (v : Vault) (q : SsqRecord) : (s.withSequencer v q).claims = s.claims := rfl
@[simp] theorem State.withSequencer_readers (s : State) (v : Vault) (q : SsqRecord) : (s.withSequencer v q).readers = s.readers := rfl
@[simp] theorem State.withSequencer_rline (s : State) (v : Vault) (q : SsqRecord) : (s.withSequencer v q).rline = s.rline := rfl
@[simp] theorem State.withSequencer_mode (s : State) (v : Vault) (q : SsqRecord) : (s.withSequencer v q).mode = s.mode := rfl
@[simp] theorem State.withSequencer_auto (s : State) (v : Vault) (q : SsqRecord) : (s.withSequencer v q).auto = s.auto := rfl
@[simp] theorem State.withSequencer_pairs (s : State) (v : Vault) (q : SsqRecord) : (s.withSequencer v q).pairs = s.pairs := rfl
@[simp] theorem State.withSequencer_doors (s : State) (v : Vault) (q : SsqRecord) : (s.withSequencer v q).doors = s.doors := rfl
@[simp] theorem State.withSequencer_occ (s : State) (v : Vault) (q : SsqRecord) : (s.withSequencer v q).occ = s.occ := rfl
@[simp] theorem State.withSequencer_ssq (s : State) (v : Vault) (q : SsqRecord) : (s.withSequencer v q).ssq = s.ssq.set v q := rfl
@[simp] theorem State.withSequencer_globalHold (s : State) (v : Vault) (q : SsqRecord) : (s.withSequencer v q).globalHold = s.globalHold := rfl
@[simp] theorem State.withSequencer_atu (s : State) (v : Vault) (q : SsqRecord) : (s.withSequencer v q).atu = s.atu := rfl
@[simp] theorem State.withSequencer_due (s : State) (v : Vault) (q : SsqRecord) : (s.withSequencer v q).due = s.due := rfl
@[simp] theorem State.withSequencer_freeCount (s : State) (v : Vault) (q : SsqRecord) : (s.withSequencer v q).freeCount = s.freeCount := rfl
@[simp] theorem State.withSequencer_pending (s : State) (v : Vault) (q : SsqRecord) : (s.withSequencer v q).pending = s.pending := rfl

/-! ### withOccupancy -/

@[simp] theorem State.withOccupancy_phase (s : State) (v : Vault) (o : VaultOccupancy) : (s.withOccupancy v o).phase = s.phase := rfl
@[simp] theorem State.withOccupancy_scanPos (s : State) (v : Vault) (o : VaultOccupancy) : (s.withOccupancy v o).scanPos = s.scanPos := rfl
@[simp] theorem State.withOccupancy_resetKind (s : State) (v : Vault) (o : VaultOccupancy) : (s.withOccupancy v o).resetKind = s.resetKind := rfl
@[simp] theorem State.withOccupancy_supply (s : State) (v : Vault) (o : VaultOccupancy) : (s.withOccupancy v o).supply = s.supply := rfl
@[simp] theorem State.withOccupancy_link (s : State) (v : Vault) (o : VaultOccupancy) : (s.withOccupancy v o).link = s.link := rfl
@[simp] theorem State.withOccupancy_array (s : State) (v : Vault) (o : VaultOccupancy) : (s.withOccupancy v o).array = s.array := rfl
@[simp] theorem State.withOccupancy_nva (s : State) (v : Vault) (o : VaultOccupancy) : (s.withOccupancy v o).nva = s.nva := rfl
@[simp] theorem State.withOccupancy_index (s : State) (v : Vault) (o : VaultOccupancy) : (s.withOccupancy v o).index = s.index := rfl
@[simp] theorem State.withOccupancy_failures (s : State) (v : Vault) (o : VaultOccupancy) : (s.withOccupancy v o).failures = s.failures := rfl
@[simp] theorem State.withOccupancy_cfg (s : State) (v : Vault) (o : VaultOccupancy) : (s.withOccupancy v o).cfg = s.cfg := rfl
@[simp] theorem State.withOccupancy_tmb (s : State) (v : Vault) (o : VaultOccupancy) : (s.withOccupancy v o).tmb = s.tmb := rfl
@[simp] theorem State.withOccupancy_cal (s : State) (v : Vault) (o : VaultOccupancy) : (s.withOccupancy v o).cal = s.cal := rfl
@[simp] theorem State.withOccupancy_lqu (s : State) (v : Vault) (o : VaultOccupancy) : (s.withOccupancy v o).lqu = s.lqu := rfl
@[simp] theorem State.withOccupancy_lines (s : State) (v : Vault) (o : VaultOccupancy) : (s.withOccupancy v o).lines = s.lines := rfl
@[simp] theorem State.withOccupancy_claims (s : State) (v : Vault) (o : VaultOccupancy) : (s.withOccupancy v o).claims = s.claims := rfl
@[simp] theorem State.withOccupancy_readers (s : State) (v : Vault) (o : VaultOccupancy) : (s.withOccupancy v o).readers = s.readers := rfl
@[simp] theorem State.withOccupancy_rline (s : State) (v : Vault) (o : VaultOccupancy) : (s.withOccupancy v o).rline = s.rline := rfl
@[simp] theorem State.withOccupancy_mode (s : State) (v : Vault) (o : VaultOccupancy) : (s.withOccupancy v o).mode = s.mode := rfl
@[simp] theorem State.withOccupancy_auto (s : State) (v : Vault) (o : VaultOccupancy) : (s.withOccupancy v o).auto = s.auto := rfl
@[simp] theorem State.withOccupancy_pairs (s : State) (v : Vault) (o : VaultOccupancy) : (s.withOccupancy v o).pairs = s.pairs := rfl
@[simp] theorem State.withOccupancy_doors (s : State) (v : Vault) (o : VaultOccupancy) : (s.withOccupancy v o).doors = s.doors := rfl
@[simp] theorem State.withOccupancy_occ (s : State) (v : Vault) (o : VaultOccupancy) : (s.withOccupancy v o).occ = s.occ.set v o := rfl
@[simp] theorem State.withOccupancy_ssq (s : State) (v : Vault) (o : VaultOccupancy) : (s.withOccupancy v o).ssq = s.ssq := rfl
@[simp] theorem State.withOccupancy_globalHold (s : State) (v : Vault) (o : VaultOccupancy) : (s.withOccupancy v o).globalHold = s.globalHold := rfl
@[simp] theorem State.withOccupancy_atu (s : State) (v : Vault) (o : VaultOccupancy) : (s.withOccupancy v o).atu = s.atu := rfl
@[simp] theorem State.withOccupancy_due (s : State) (v : Vault) (o : VaultOccupancy) : (s.withOccupancy v o).due = s.due := rfl
@[simp] theorem State.withOccupancy_freeCount (s : State) (v : Vault) (o : VaultOccupancy) : (s.withOccupancy v o).freeCount = s.freeCount := rfl
@[simp] theorem State.withOccupancy_pending (s : State) (v : Vault) (o : VaultOccupancy) : (s.withOccupancy v o).pending = s.pending := rfl

/-! ### withClaimSet -/

@[simp] theorem State.withClaimSet_phase (s : State) (v : Vault) (c : ClaimSet) : (s.withClaimSet v c).phase = s.phase := rfl
@[simp] theorem State.withClaimSet_scanPos (s : State) (v : Vault) (c : ClaimSet) : (s.withClaimSet v c).scanPos = s.scanPos := rfl
@[simp] theorem State.withClaimSet_resetKind (s : State) (v : Vault) (c : ClaimSet) : (s.withClaimSet v c).resetKind = s.resetKind := rfl
@[simp] theorem State.withClaimSet_supply (s : State) (v : Vault) (c : ClaimSet) : (s.withClaimSet v c).supply = s.supply := rfl
@[simp] theorem State.withClaimSet_link (s : State) (v : Vault) (c : ClaimSet) : (s.withClaimSet v c).link = s.link := rfl
@[simp] theorem State.withClaimSet_array (s : State) (v : Vault) (c : ClaimSet) : (s.withClaimSet v c).array = s.array := rfl
@[simp] theorem State.withClaimSet_nva (s : State) (v : Vault) (c : ClaimSet) : (s.withClaimSet v c).nva = s.nva := rfl
@[simp] theorem State.withClaimSet_index (s : State) (v : Vault) (c : ClaimSet) : (s.withClaimSet v c).index = s.index := rfl
@[simp] theorem State.withClaimSet_failures (s : State) (v : Vault) (c : ClaimSet) : (s.withClaimSet v c).failures = s.failures := rfl
@[simp] theorem State.withClaimSet_cfg (s : State) (v : Vault) (c : ClaimSet) : (s.withClaimSet v c).cfg = s.cfg := rfl
@[simp] theorem State.withClaimSet_tmb (s : State) (v : Vault) (c : ClaimSet) : (s.withClaimSet v c).tmb = s.tmb := rfl
@[simp] theorem State.withClaimSet_cal (s : State) (v : Vault) (c : ClaimSet) : (s.withClaimSet v c).cal = s.cal := rfl
@[simp] theorem State.withClaimSet_lqu (s : State) (v : Vault) (c : ClaimSet) : (s.withClaimSet v c).lqu = s.lqu := rfl
@[simp] theorem State.withClaimSet_lines (s : State) (v : Vault) (c : ClaimSet) : (s.withClaimSet v c).lines = s.lines := rfl
@[simp] theorem State.withClaimSet_claims (s : State) (v : Vault) (c : ClaimSet) : (s.withClaimSet v c).claims = s.claims.set v c := rfl
@[simp] theorem State.withClaimSet_readers (s : State) (v : Vault) (c : ClaimSet) : (s.withClaimSet v c).readers = s.readers := rfl
@[simp] theorem State.withClaimSet_rline (s : State) (v : Vault) (c : ClaimSet) : (s.withClaimSet v c).rline = s.rline := rfl
@[simp] theorem State.withClaimSet_mode (s : State) (v : Vault) (c : ClaimSet) : (s.withClaimSet v c).mode = s.mode := rfl
@[simp] theorem State.withClaimSet_auto (s : State) (v : Vault) (c : ClaimSet) : (s.withClaimSet v c).auto = s.auto := rfl
@[simp] theorem State.withClaimSet_pairs (s : State) (v : Vault) (c : ClaimSet) : (s.withClaimSet v c).pairs = s.pairs := rfl
@[simp] theorem State.withClaimSet_doors (s : State) (v : Vault) (c : ClaimSet) : (s.withClaimSet v c).doors = s.doors := rfl
@[simp] theorem State.withClaimSet_occ (s : State) (v : Vault) (c : ClaimSet) : (s.withClaimSet v c).occ = s.occ := rfl
@[simp] theorem State.withClaimSet_ssq (s : State) (v : Vault) (c : ClaimSet) : (s.withClaimSet v c).ssq = s.ssq := rfl
@[simp] theorem State.withClaimSet_globalHold (s : State) (v : Vault) (c : ClaimSet) : (s.withClaimSet v c).globalHold = s.globalHold := rfl
@[simp] theorem State.withClaimSet_atu (s : State) (v : Vault) (c : ClaimSet) : (s.withClaimSet v c).atu = s.atu := rfl
@[simp] theorem State.withClaimSet_due (s : State) (v : Vault) (c : ClaimSet) : (s.withClaimSet v c).due = s.due := rfl
@[simp] theorem State.withClaimSet_freeCount (s : State) (v : Vault) (c : ClaimSet) : (s.withClaimSet v c).freeCount = s.freeCount := rfl
@[simp] theorem State.withClaimSet_pending (s : State) (v : Vault) (c : ClaimSet) : (s.withClaimSet v c).pending = s.pending := rfl

/-! ### withPair -/

@[simp] theorem State.withPair_phase (s : State) (v : Vault) (p : Option PendingPair) : (s.withPair v p).phase = s.phase := rfl
@[simp] theorem State.withPair_scanPos (s : State) (v : Vault) (p : Option PendingPair) : (s.withPair v p).scanPos = s.scanPos := rfl
@[simp] theorem State.withPair_resetKind (s : State) (v : Vault) (p : Option PendingPair) : (s.withPair v p).resetKind = s.resetKind := rfl
@[simp] theorem State.withPair_supply (s : State) (v : Vault) (p : Option PendingPair) : (s.withPair v p).supply = s.supply := rfl
@[simp] theorem State.withPair_link (s : State) (v : Vault) (p : Option PendingPair) : (s.withPair v p).link = s.link := rfl
@[simp] theorem State.withPair_array (s : State) (v : Vault) (p : Option PendingPair) : (s.withPair v p).array = s.array := rfl
@[simp] theorem State.withPair_nva (s : State) (v : Vault) (p : Option PendingPair) : (s.withPair v p).nva = s.nva := rfl
@[simp] theorem State.withPair_index (s : State) (v : Vault) (p : Option PendingPair) : (s.withPair v p).index = s.index := rfl
@[simp] theorem State.withPair_failures (s : State) (v : Vault) (p : Option PendingPair) : (s.withPair v p).failures = s.failures := rfl
@[simp] theorem State.withPair_cfg (s : State) (v : Vault) (p : Option PendingPair) : (s.withPair v p).cfg = s.cfg := rfl
@[simp] theorem State.withPair_tmb (s : State) (v : Vault) (p : Option PendingPair) : (s.withPair v p).tmb = s.tmb := rfl
@[simp] theorem State.withPair_cal (s : State) (v : Vault) (p : Option PendingPair) : (s.withPair v p).cal = s.cal := rfl
@[simp] theorem State.withPair_lqu (s : State) (v : Vault) (p : Option PendingPair) : (s.withPair v p).lqu = s.lqu := rfl
@[simp] theorem State.withPair_lines (s : State) (v : Vault) (p : Option PendingPair) : (s.withPair v p).lines = s.lines := rfl
@[simp] theorem State.withPair_claims (s : State) (v : Vault) (p : Option PendingPair) : (s.withPair v p).claims = s.claims := rfl
@[simp] theorem State.withPair_readers (s : State) (v : Vault) (p : Option PendingPair) : (s.withPair v p).readers = s.readers := rfl
@[simp] theorem State.withPair_rline (s : State) (v : Vault) (p : Option PendingPair) : (s.withPair v p).rline = s.rline := rfl
@[simp] theorem State.withPair_mode (s : State) (v : Vault) (p : Option PendingPair) : (s.withPair v p).mode = s.mode := rfl
@[simp] theorem State.withPair_auto (s : State) (v : Vault) (p : Option PendingPair) : (s.withPair v p).auto = s.auto := rfl
@[simp] theorem State.withPair_pairs (s : State) (v : Vault) (p : Option PendingPair) : (s.withPair v p).pairs = s.pairs.set v p := rfl
@[simp] theorem State.withPair_doors (s : State) (v : Vault) (p : Option PendingPair) : (s.withPair v p).doors = s.doors := rfl
@[simp] theorem State.withPair_occ (s : State) (v : Vault) (p : Option PendingPair) : (s.withPair v p).occ = s.occ := rfl
@[simp] theorem State.withPair_ssq (s : State) (v : Vault) (p : Option PendingPair) : (s.withPair v p).ssq = s.ssq := rfl
@[simp] theorem State.withPair_globalHold (s : State) (v : Vault) (p : Option PendingPair) : (s.withPair v p).globalHold = s.globalHold := rfl
@[simp] theorem State.withPair_atu (s : State) (v : Vault) (p : Option PendingPair) : (s.withPair v p).atu = s.atu := rfl
@[simp] theorem State.withPair_due (s : State) (v : Vault) (p : Option PendingPair) : (s.withPair v p).due = s.due := rfl
@[simp] theorem State.withPair_freeCount (s : State) (v : Vault) (p : Option PendingPair) : (s.withPair v p).freeCount = s.freeCount := rfl
@[simp] theorem State.withPair_pending (s : State) (v : Vault) (p : Option PendingPair) : (s.withPair v p).pending = s.pending := rfl

/-! ### withGroup -/

@[simp] theorem State.withGroup_phase (s : State) (v : Vault) (g : VaultGroup) : (s.withGroup v g).phase = s.phase := rfl
@[simp] theorem State.withGroup_scanPos (s : State) (v : Vault) (g : VaultGroup) : (s.withGroup v g).scanPos = s.scanPos := rfl
@[simp] theorem State.withGroup_resetKind (s : State) (v : Vault) (g : VaultGroup) : (s.withGroup v g).resetKind = s.resetKind := rfl
@[simp] theorem State.withGroup_supply (s : State) (v : Vault) (g : VaultGroup) : (s.withGroup v g).supply = s.supply := rfl
@[simp] theorem State.withGroup_link (s : State) (v : Vault) (g : VaultGroup) : (s.withGroup v g).link = s.link := rfl
@[simp] theorem State.withGroup_array (s : State) (v : Vault) (g : VaultGroup) : (s.withGroup v g).array = s.array := rfl
@[simp] theorem State.withGroup_nva (s : State) (v : Vault) (g : VaultGroup) : (s.withGroup v g).nva = s.nva := rfl
@[simp] theorem State.withGroup_index (s : State) (v : Vault) (g : VaultGroup) : (s.withGroup v g).index = s.index := rfl
@[simp] theorem State.withGroup_failures (s : State) (v : Vault) (g : VaultGroup) : (s.withGroup v g).failures = s.failures := rfl
@[simp] theorem State.withGroup_cfg (s : State) (v : Vault) (g : VaultGroup) : (s.withGroup v g).cfg = { s.cfg with vaults := s.cfg.vaults.set v g } := rfl
@[simp] theorem State.withGroup_tmb (s : State) (v : Vault) (g : VaultGroup) : (s.withGroup v g).tmb = s.tmb := rfl
@[simp] theorem State.withGroup_cal (s : State) (v : Vault) (g : VaultGroup) : (s.withGroup v g).cal = s.cal := rfl
@[simp] theorem State.withGroup_lqu (s : State) (v : Vault) (g : VaultGroup) : (s.withGroup v g).lqu = s.lqu := rfl
@[simp] theorem State.withGroup_lines (s : State) (v : Vault) (g : VaultGroup) : (s.withGroup v g).lines = s.lines := rfl
@[simp] theorem State.withGroup_claims (s : State) (v : Vault) (g : VaultGroup) : (s.withGroup v g).claims = s.claims := rfl
@[simp] theorem State.withGroup_readers (s : State) (v : Vault) (g : VaultGroup) : (s.withGroup v g).readers = s.readers := rfl
@[simp] theorem State.withGroup_rline (s : State) (v : Vault) (g : VaultGroup) : (s.withGroup v g).rline = s.rline := rfl
@[simp] theorem State.withGroup_mode (s : State) (v : Vault) (g : VaultGroup) : (s.withGroup v g).mode = s.mode := rfl
@[simp] theorem State.withGroup_auto (s : State) (v : Vault) (g : VaultGroup) : (s.withGroup v g).auto = s.auto := rfl
@[simp] theorem State.withGroup_pairs (s : State) (v : Vault) (g : VaultGroup) : (s.withGroup v g).pairs = s.pairs := rfl
@[simp] theorem State.withGroup_doors (s : State) (v : Vault) (g : VaultGroup) : (s.withGroup v g).doors = s.doors := rfl
@[simp] theorem State.withGroup_occ (s : State) (v : Vault) (g : VaultGroup) : (s.withGroup v g).occ = s.occ := rfl
@[simp] theorem State.withGroup_ssq (s : State) (v : Vault) (g : VaultGroup) : (s.withGroup v g).ssq = s.ssq := rfl
@[simp] theorem State.withGroup_globalHold (s : State) (v : Vault) (g : VaultGroup) : (s.withGroup v g).globalHold = s.globalHold := rfl
@[simp] theorem State.withGroup_atu (s : State) (v : Vault) (g : VaultGroup) : (s.withGroup v g).atu = s.atu := rfl
@[simp] theorem State.withGroup_due (s : State) (v : Vault) (g : VaultGroup) : (s.withGroup v g).due = s.due := rfl
@[simp] theorem State.withGroup_freeCount (s : State) (v : Vault) (g : VaultGroup) : (s.withGroup v g).freeCount = s.freeCount := rfl
@[simp] theorem State.withGroup_pending (s : State) (v : Vault) (g : VaultGroup) : (s.withGroup v g).pending = s.pending := rfl

/-! ### withSite -/

@[simp] theorem State.withSite_phase (s : State) (g : SiteGroup) : (s.withSite g).phase = s.phase := rfl
@[simp] theorem State.withSite_scanPos (s : State) (g : SiteGroup) : (s.withSite g).scanPos = s.scanPos := rfl
@[simp] theorem State.withSite_resetKind (s : State) (g : SiteGroup) : (s.withSite g).resetKind = s.resetKind := rfl
@[simp] theorem State.withSite_supply (s : State) (g : SiteGroup) : (s.withSite g).supply = s.supply := rfl
@[simp] theorem State.withSite_link (s : State) (g : SiteGroup) : (s.withSite g).link = s.link := rfl
@[simp] theorem State.withSite_array (s : State) (g : SiteGroup) : (s.withSite g).array = s.array := rfl
@[simp] theorem State.withSite_nva (s : State) (g : SiteGroup) : (s.withSite g).nva = s.nva := rfl
@[simp] theorem State.withSite_index (s : State) (g : SiteGroup) : (s.withSite g).index = s.index := rfl
@[simp] theorem State.withSite_failures (s : State) (g : SiteGroup) : (s.withSite g).failures = s.failures := rfl
@[simp] theorem State.withSite_cfg (s : State) (g : SiteGroup) : (s.withSite g).cfg = { s.cfg with site := g } := rfl
@[simp] theorem State.withSite_tmb (s : State) (g : SiteGroup) : (s.withSite g).tmb = s.tmb := rfl
@[simp] theorem State.withSite_cal (s : State) (g : SiteGroup) : (s.withSite g).cal = s.cal := rfl
@[simp] theorem State.withSite_lqu (s : State) (g : SiteGroup) : (s.withSite g).lqu = s.lqu := rfl
@[simp] theorem State.withSite_lines (s : State) (g : SiteGroup) : (s.withSite g).lines = s.lines := rfl
@[simp] theorem State.withSite_claims (s : State) (g : SiteGroup) : (s.withSite g).claims = s.claims := rfl
@[simp] theorem State.withSite_readers (s : State) (g : SiteGroup) : (s.withSite g).readers = s.readers := rfl
@[simp] theorem State.withSite_rline (s : State) (g : SiteGroup) : (s.withSite g).rline = s.rline := rfl
@[simp] theorem State.withSite_mode (s : State) (g : SiteGroup) : (s.withSite g).mode = s.mode := rfl
@[simp] theorem State.withSite_auto (s : State) (g : SiteGroup) : (s.withSite g).auto = s.auto := rfl
@[simp] theorem State.withSite_pairs (s : State) (g : SiteGroup) : (s.withSite g).pairs = s.pairs := rfl
@[simp] theorem State.withSite_doors (s : State) (g : SiteGroup) : (s.withSite g).doors = s.doors := rfl
@[simp] theorem State.withSite_occ (s : State) (g : SiteGroup) : (s.withSite g).occ = s.occ := rfl
@[simp] theorem State.withSite_ssq (s : State) (g : SiteGroup) : (s.withSite g).ssq = s.ssq := rfl
@[simp] theorem State.withSite_globalHold (s : State) (g : SiteGroup) : (s.withSite g).globalHold = s.globalHold := rfl
@[simp] theorem State.withSite_atu (s : State) (g : SiteGroup) : (s.withSite g).atu = s.atu := rfl
@[simp] theorem State.withSite_due (s : State) (g : SiteGroup) : (s.withSite g).due = s.due := rfl
@[simp] theorem State.withSite_freeCount (s : State) (g : SiteGroup) : (s.withSite g).freeCount = s.freeCount := rfl
@[simp] theorem State.withSite_pending (s : State) (g : SiteGroup) : (s.withSite g).pending = s.pending := rfl

/-! ### withStaged -/

@[simp] theorem State.withStaged_phase (s : State) (v : Vault) (p : SuppressionSet) : (s.withStaged v p).phase = s.phase := rfl
@[simp] theorem State.withStaged_scanPos (s : State) (v : Vault) (p : SuppressionSet) : (s.withStaged v p).scanPos = s.scanPos := rfl
@[simp] theorem State.withStaged_resetKind (s : State) (v : Vault) (p : SuppressionSet) : (s.withStaged v p).resetKind = s.resetKind := rfl
@[simp] theorem State.withStaged_supply (s : State) (v : Vault) (p : SuppressionSet) : (s.withStaged v p).supply = s.supply := rfl
@[simp] theorem State.withStaged_link (s : State) (v : Vault) (p : SuppressionSet) : (s.withStaged v p).link = s.link := rfl
@[simp] theorem State.withStaged_array (s : State) (v : Vault) (p : SuppressionSet) : (s.withStaged v p).array = s.array := rfl
@[simp] theorem State.withStaged_nva (s : State) (v : Vault) (p : SuppressionSet) : (s.withStaged v p).nva = s.nva := rfl
@[simp] theorem State.withStaged_index (s : State) (v : Vault) (p : SuppressionSet) : (s.withStaged v p).index = s.index := rfl
@[simp] theorem State.withStaged_failures (s : State) (v : Vault) (p : SuppressionSet) : (s.withStaged v p).failures = s.failures := rfl
@[simp] theorem State.withStaged_cfg (s : State) (v : Vault) (p : SuppressionSet) : (s.withStaged v p).cfg = { s.cfg with suppression := s.cfg.suppression.set v p } := rfl
@[simp] theorem State.withStaged_tmb (s : State) (v : Vault) (p : SuppressionSet) : (s.withStaged v p).tmb = s.tmb := rfl
@[simp] theorem State.withStaged_cal (s : State) (v : Vault) (p : SuppressionSet) : (s.withStaged v p).cal = s.cal := rfl
@[simp] theorem State.withStaged_lqu (s : State) (v : Vault) (p : SuppressionSet) : (s.withStaged v p).lqu = s.lqu := rfl
@[simp] theorem State.withStaged_lines (s : State) (v : Vault) (p : SuppressionSet) : (s.withStaged v p).lines = s.lines := rfl
@[simp] theorem State.withStaged_claims (s : State) (v : Vault) (p : SuppressionSet) : (s.withStaged v p).claims = s.claims := rfl
@[simp] theorem State.withStaged_readers (s : State) (v : Vault) (p : SuppressionSet) : (s.withStaged v p).readers = s.readers := rfl
@[simp] theorem State.withStaged_rline (s : State) (v : Vault) (p : SuppressionSet) : (s.withStaged v p).rline = s.rline := rfl
@[simp] theorem State.withStaged_mode (s : State) (v : Vault) (p : SuppressionSet) : (s.withStaged v p).mode = s.mode := rfl
@[simp] theorem State.withStaged_auto (s : State) (v : Vault) (p : SuppressionSet) : (s.withStaged v p).auto = s.auto := rfl
@[simp] theorem State.withStaged_pairs (s : State) (v : Vault) (p : SuppressionSet) : (s.withStaged v p).pairs = s.pairs := rfl
@[simp] theorem State.withStaged_doors (s : State) (v : Vault) (p : SuppressionSet) : (s.withStaged v p).doors = s.doors := rfl
@[simp] theorem State.withStaged_occ (s : State) (v : Vault) (p : SuppressionSet) : (s.withStaged v p).occ = s.occ := rfl
@[simp] theorem State.withStaged_ssq (s : State) (v : Vault) (p : SuppressionSet) : (s.withStaged v p).ssq = s.ssq := rfl
@[simp] theorem State.withStaged_globalHold (s : State) (v : Vault) (p : SuppressionSet) : (s.withStaged v p).globalHold = s.globalHold := rfl
@[simp] theorem State.withStaged_atu (s : State) (v : Vault) (p : SuppressionSet) : (s.withStaged v p).atu = s.atu := rfl
@[simp] theorem State.withStaged_due (s : State) (v : Vault) (p : SuppressionSet) : (s.withStaged v p).due = s.due := rfl
@[simp] theorem State.withStaged_freeCount (s : State) (v : Vault) (p : SuppressionSet) : (s.withStaged v p).freeCount = s.freeCount := rfl
@[simp] theorem State.withStaged_pending (s : State) (v : Vault) (p : SuppressionSet) : (s.withStaged v p).pending = s.pending := rfl

/-! ### withLines -/

@[simp] theorem State.withLines_phase (s : State) (v : Vault) (l : VaultLines) : (s.withLines v l).phase = s.phase := rfl
@[simp] theorem State.withLines_scanPos (s : State) (v : Vault) (l : VaultLines) : (s.withLines v l).scanPos = s.scanPos := rfl
@[simp] theorem State.withLines_resetKind (s : State) (v : Vault) (l : VaultLines) : (s.withLines v l).resetKind = s.resetKind := rfl
@[simp] theorem State.withLines_supply (s : State) (v : Vault) (l : VaultLines) : (s.withLines v l).supply = s.supply := rfl
@[simp] theorem State.withLines_link (s : State) (v : Vault) (l : VaultLines) : (s.withLines v l).link = s.link := rfl
@[simp] theorem State.withLines_array (s : State) (v : Vault) (l : VaultLines) : (s.withLines v l).array = s.array := rfl
@[simp] theorem State.withLines_nva (s : State) (v : Vault) (l : VaultLines) : (s.withLines v l).nva = s.nva := rfl
@[simp] theorem State.withLines_index (s : State) (v : Vault) (l : VaultLines) : (s.withLines v l).index = s.index := rfl
@[simp] theorem State.withLines_failures (s : State) (v : Vault) (l : VaultLines) : (s.withLines v l).failures = s.failures := rfl
@[simp] theorem State.withLines_cfg (s : State) (v : Vault) (l : VaultLines) : (s.withLines v l).cfg = s.cfg := rfl
@[simp] theorem State.withLines_tmb (s : State) (v : Vault) (l : VaultLines) : (s.withLines v l).tmb = s.tmb := rfl
@[simp] theorem State.withLines_cal (s : State) (v : Vault) (l : VaultLines) : (s.withLines v l).cal = s.cal := rfl
@[simp] theorem State.withLines_lqu (s : State) (v : Vault) (l : VaultLines) : (s.withLines v l).lqu = s.lqu := rfl
@[simp] theorem State.withLines_lines (s : State) (v : Vault) (l : VaultLines) : (s.withLines v l).lines = s.lines.set v l := rfl
@[simp] theorem State.withLines_claims (s : State) (v : Vault) (l : VaultLines) : (s.withLines v l).claims = s.claims := rfl
@[simp] theorem State.withLines_readers (s : State) (v : Vault) (l : VaultLines) : (s.withLines v l).readers = s.readers := rfl
@[simp] theorem State.withLines_rline (s : State) (v : Vault) (l : VaultLines) : (s.withLines v l).rline = s.rline := rfl
@[simp] theorem State.withLines_mode (s : State) (v : Vault) (l : VaultLines) : (s.withLines v l).mode = s.mode := rfl
@[simp] theorem State.withLines_auto (s : State) (v : Vault) (l : VaultLines) : (s.withLines v l).auto = s.auto := rfl
@[simp] theorem State.withLines_pairs (s : State) (v : Vault) (l : VaultLines) : (s.withLines v l).pairs = s.pairs := rfl
@[simp] theorem State.withLines_doors (s : State) (v : Vault) (l : VaultLines) : (s.withLines v l).doors = s.doors := rfl
@[simp] theorem State.withLines_occ (s : State) (v : Vault) (l : VaultLines) : (s.withLines v l).occ = s.occ := rfl
@[simp] theorem State.withLines_ssq (s : State) (v : Vault) (l : VaultLines) : (s.withLines v l).ssq = s.ssq := rfl
@[simp] theorem State.withLines_globalHold (s : State) (v : Vault) (l : VaultLines) : (s.withLines v l).globalHold = s.globalHold := rfl
@[simp] theorem State.withLines_atu (s : State) (v : Vault) (l : VaultLines) : (s.withLines v l).atu = s.atu := rfl
@[simp] theorem State.withLines_due (s : State) (v : Vault) (l : VaultLines) : (s.withLines v l).due = s.due := rfl
@[simp] theorem State.withLines_freeCount (s : State) (v : Vault) (l : VaultLines) : (s.withLines v l).freeCount = s.freeCount := rfl
@[simp] theorem State.withLines_pending (s : State) (v : Vault) (l : VaultLines) : (s.withLines v l).pending = s.pending := rfl

/-! ### withLineRecord -/

@[simp] theorem State.withLineRecord_phase (s : State) (v : Vault) (l : Line) (q : Qualification Reading) : (s.withLineRecord v l q).phase = s.phase := rfl
@[simp] theorem State.withLineRecord_scanPos (s : State) (v : Vault) (l : Line) (q : Qualification Reading) : (s.withLineRecord v l q).scanPos = s.scanPos := rfl
@[simp] theorem State.withLineRecord_resetKind (s : State) (v : Vault) (l : Line) (q : Qualification Reading) : (s.withLineRecord v l q).resetKind = s.resetKind := rfl
@[simp] theorem State.withLineRecord_supply (s : State) (v : Vault) (l : Line) (q : Qualification Reading) : (s.withLineRecord v l q).supply = s.supply := rfl
@[simp] theorem State.withLineRecord_link (s : State) (v : Vault) (l : Line) (q : Qualification Reading) : (s.withLineRecord v l q).link = s.link := rfl
@[simp] theorem State.withLineRecord_array (s : State) (v : Vault) (l : Line) (q : Qualification Reading) : (s.withLineRecord v l q).array = s.array := rfl
@[simp] theorem State.withLineRecord_nva (s : State) (v : Vault) (l : Line) (q : Qualification Reading) : (s.withLineRecord v l q).nva = s.nva := rfl
@[simp] theorem State.withLineRecord_index (s : State) (v : Vault) (l : Line) (q : Qualification Reading) : (s.withLineRecord v l q).index = s.index := rfl
@[simp] theorem State.withLineRecord_failures (s : State) (v : Vault) (l : Line) (q : Qualification Reading) : (s.withLineRecord v l q).failures = s.failures := rfl
@[simp] theorem State.withLineRecord_cfg (s : State) (v : Vault) (l : Line) (q : Qualification Reading) : (s.withLineRecord v l q).cfg = s.cfg := rfl
@[simp] theorem State.withLineRecord_tmb (s : State) (v : Vault) (l : Line) (q : Qualification Reading) : (s.withLineRecord v l q).tmb = s.tmb := rfl
@[simp] theorem State.withLineRecord_cal (s : State) (v : Vault) (l : Line) (q : Qualification Reading) : (s.withLineRecord v l q).cal = s.cal := rfl
@[simp] theorem State.withLineRecord_lqu (s : State) (v : Vault) (l : Line) (q : Qualification Reading) : (s.withLineRecord v l q).lqu = s.lqu := rfl
@[simp] theorem State.withLineRecord_lines (s : State) (v : Vault) (l : Line) (q : Qualification Reading) : (s.withLineRecord v l q).lines = s.lines.set v { s.lines.get v with lines := (s.lines.get v).lines.set l q } := rfl
@[simp] theorem State.withLineRecord_claims (s : State) (v : Vault) (l : Line) (q : Qualification Reading) : (s.withLineRecord v l q).claims = s.claims := rfl
@[simp] theorem State.withLineRecord_readers (s : State) (v : Vault) (l : Line) (q : Qualification Reading) : (s.withLineRecord v l q).readers = s.readers := rfl
@[simp] theorem State.withLineRecord_rline (s : State) (v : Vault) (l : Line) (q : Qualification Reading) : (s.withLineRecord v l q).rline = s.rline := rfl
@[simp] theorem State.withLineRecord_mode (s : State) (v : Vault) (l : Line) (q : Qualification Reading) : (s.withLineRecord v l q).mode = s.mode := rfl
@[simp] theorem State.withLineRecord_auto (s : State) (v : Vault) (l : Line) (q : Qualification Reading) : (s.withLineRecord v l q).auto = s.auto := rfl
@[simp] theorem State.withLineRecord_pairs (s : State) (v : Vault) (l : Line) (q : Qualification Reading) : (s.withLineRecord v l q).pairs = s.pairs := rfl
@[simp] theorem State.withLineRecord_doors (s : State) (v : Vault) (l : Line) (q : Qualification Reading) : (s.withLineRecord v l q).doors = s.doors := rfl
@[simp] theorem State.withLineRecord_occ (s : State) (v : Vault) (l : Line) (q : Qualification Reading) : (s.withLineRecord v l q).occ = s.occ := rfl
@[simp] theorem State.withLineRecord_ssq (s : State) (v : Vault) (l : Line) (q : Qualification Reading) : (s.withLineRecord v l q).ssq = s.ssq := rfl
@[simp] theorem State.withLineRecord_globalHold (s : State) (v : Vault) (l : Line) (q : Qualification Reading) : (s.withLineRecord v l q).globalHold = s.globalHold := rfl
@[simp] theorem State.withLineRecord_atu (s : State) (v : Vault) (l : Line) (q : Qualification Reading) : (s.withLineRecord v l q).atu = s.atu := rfl
@[simp] theorem State.withLineRecord_due (s : State) (v : Vault) (l : Line) (q : Qualification Reading) : (s.withLineRecord v l q).due = s.due := rfl
@[simp] theorem State.withLineRecord_freeCount (s : State) (v : Vault) (l : Line) (q : Qualification Reading) : (s.withLineRecord v l q).freeCount = s.freeCount := rfl
@[simp] theorem State.withLineRecord_pending (s : State) (v : Vault) (l : Line) (q : Qualification Reading) : (s.withLineRecord v l q).pending = s.pending := rfl

/-! ### withRelease -/

@[simp] theorem State.withRelease_phase (s : State) (v : Vault) (q : Qualification Circuit) : (s.withRelease v q).phase = s.phase := rfl
@[simp] theorem State.withRelease_scanPos (s : State) (v : Vault) (q : Qualification Circuit) : (s.withRelease v q).scanPos = s.scanPos := rfl
@[simp] theorem State.withRelease_resetKind (s : State) (v : Vault) (q : Qualification Circuit) : (s.withRelease v q).resetKind = s.resetKind := rfl
@[simp] theorem State.withRelease_supply (s : State) (v : Vault) (q : Qualification Circuit) : (s.withRelease v q).supply = s.supply := rfl
@[simp] theorem State.withRelease_link (s : State) (v : Vault) (q : Qualification Circuit) : (s.withRelease v q).link = s.link := rfl
@[simp] theorem State.withRelease_array (s : State) (v : Vault) (q : Qualification Circuit) : (s.withRelease v q).array = s.array := rfl
@[simp] theorem State.withRelease_nva (s : State) (v : Vault) (q : Qualification Circuit) : (s.withRelease v q).nva = s.nva := rfl
@[simp] theorem State.withRelease_index (s : State) (v : Vault) (q : Qualification Circuit) : (s.withRelease v q).index = s.index := rfl
@[simp] theorem State.withRelease_failures (s : State) (v : Vault) (q : Qualification Circuit) : (s.withRelease v q).failures = s.failures := rfl
@[simp] theorem State.withRelease_cfg (s : State) (v : Vault) (q : Qualification Circuit) : (s.withRelease v q).cfg = s.cfg := rfl
@[simp] theorem State.withRelease_tmb (s : State) (v : Vault) (q : Qualification Circuit) : (s.withRelease v q).tmb = s.tmb := rfl
@[simp] theorem State.withRelease_cal (s : State) (v : Vault) (q : Qualification Circuit) : (s.withRelease v q).cal = s.cal := rfl
@[simp] theorem State.withRelease_lqu (s : State) (v : Vault) (q : Qualification Circuit) : (s.withRelease v q).lqu = s.lqu := rfl
@[simp] theorem State.withRelease_lines (s : State) (v : Vault) (q : Qualification Circuit) : (s.withRelease v q).lines = s.lines.set v { s.lines.get v with release := q } := rfl
@[simp] theorem State.withRelease_claims (s : State) (v : Vault) (q : Qualification Circuit) : (s.withRelease v q).claims = s.claims := rfl
@[simp] theorem State.withRelease_readers (s : State) (v : Vault) (q : Qualification Circuit) : (s.withRelease v q).readers = s.readers := rfl
@[simp] theorem State.withRelease_rline (s : State) (v : Vault) (q : Qualification Circuit) : (s.withRelease v q).rline = s.rline := rfl
@[simp] theorem State.withRelease_mode (s : State) (v : Vault) (q : Qualification Circuit) : (s.withRelease v q).mode = s.mode := rfl
@[simp] theorem State.withRelease_auto (s : State) (v : Vault) (q : Qualification Circuit) : (s.withRelease v q).auto = s.auto := rfl
@[simp] theorem State.withRelease_pairs (s : State) (v : Vault) (q : Qualification Circuit) : (s.withRelease v q).pairs = s.pairs := rfl
@[simp] theorem State.withRelease_doors (s : State) (v : Vault) (q : Qualification Circuit) : (s.withRelease v q).doors = s.doors := rfl
@[simp] theorem State.withRelease_occ (s : State) (v : Vault) (q : Qualification Circuit) : (s.withRelease v q).occ = s.occ := rfl
@[simp] theorem State.withRelease_ssq (s : State) (v : Vault) (q : Qualification Circuit) : (s.withRelease v q).ssq = s.ssq := rfl
@[simp] theorem State.withRelease_globalHold (s : State) (v : Vault) (q : Qualification Circuit) : (s.withRelease v q).globalHold = s.globalHold := rfl
@[simp] theorem State.withRelease_atu (s : State) (v : Vault) (q : Qualification Circuit) : (s.withRelease v q).atu = s.atu := rfl
@[simp] theorem State.withRelease_due (s : State) (v : Vault) (q : Qualification Circuit) : (s.withRelease v q).due = s.due := rfl
@[simp] theorem State.withRelease_freeCount (s : State) (v : Vault) (q : Qualification Circuit) : (s.withRelease v q).freeCount = s.freeCount := rfl
@[simp] theorem State.withRelease_pending (s : State) (v : Vault) (q : Qualification Circuit) : (s.withRelease v q).pending = s.pending := rfl

/-! ### withAtu -/

@[simp] theorem State.withAtu_phase (s : State) (a : Atu) : (s.withAtu a).phase = s.phase := rfl
@[simp] theorem State.withAtu_scanPos (s : State) (a : Atu) : (s.withAtu a).scanPos = s.scanPos := rfl
@[simp] theorem State.withAtu_resetKind (s : State) (a : Atu) : (s.withAtu a).resetKind = s.resetKind := rfl
@[simp] theorem State.withAtu_supply (s : State) (a : Atu) : (s.withAtu a).supply = s.supply := rfl
@[simp] theorem State.withAtu_link (s : State) (a : Atu) : (s.withAtu a).link = s.link := rfl
@[simp] theorem State.withAtu_array (s : State) (a : Atu) : (s.withAtu a).array = s.array := rfl
@[simp] theorem State.withAtu_nva (s : State) (a : Atu) : (s.withAtu a).nva = s.nva := rfl
@[simp] theorem State.withAtu_index (s : State) (a : Atu) : (s.withAtu a).index = s.index := rfl
@[simp] theorem State.withAtu_failures (s : State) (a : Atu) : (s.withAtu a).failures = s.failures := rfl
@[simp] theorem State.withAtu_cfg (s : State) (a : Atu) : (s.withAtu a).cfg = s.cfg := rfl
@[simp] theorem State.withAtu_tmb (s : State) (a : Atu) : (s.withAtu a).tmb = s.tmb := rfl
@[simp] theorem State.withAtu_cal (s : State) (a : Atu) : (s.withAtu a).cal = s.cal := rfl
@[simp] theorem State.withAtu_lqu (s : State) (a : Atu) : (s.withAtu a).lqu = s.lqu := rfl
@[simp] theorem State.withAtu_lines (s : State) (a : Atu) : (s.withAtu a).lines = s.lines := rfl
@[simp] theorem State.withAtu_claims (s : State) (a : Atu) : (s.withAtu a).claims = s.claims := rfl
@[simp] theorem State.withAtu_readers (s : State) (a : Atu) : (s.withAtu a).readers = s.readers := rfl
@[simp] theorem State.withAtu_rline (s : State) (a : Atu) : (s.withAtu a).rline = s.rline := rfl
@[simp] theorem State.withAtu_mode (s : State) (a : Atu) : (s.withAtu a).mode = s.mode := rfl
@[simp] theorem State.withAtu_auto (s : State) (a : Atu) : (s.withAtu a).auto = s.auto := rfl
@[simp] theorem State.withAtu_pairs (s : State) (a : Atu) : (s.withAtu a).pairs = s.pairs := rfl
@[simp] theorem State.withAtu_doors (s : State) (a : Atu) : (s.withAtu a).doors = s.doors := rfl
@[simp] theorem State.withAtu_occ (s : State) (a : Atu) : (s.withAtu a).occ = s.occ := rfl
@[simp] theorem State.withAtu_ssq (s : State) (a : Atu) : (s.withAtu a).ssq = s.ssq := rfl
@[simp] theorem State.withAtu_globalHold (s : State) (a : Atu) : (s.withAtu a).globalHold = s.globalHold := rfl
@[simp] theorem State.withAtu_atu (s : State) (a : Atu) : (s.withAtu a).atu = a := rfl
@[simp] theorem State.withAtu_due (s : State) (a : Atu) : (s.withAtu a).due = s.due := rfl
@[simp] theorem State.withAtu_freeCount (s : State) (a : Atu) : (s.withAtu a).freeCount = s.freeCount := rfl
@[simp] theorem State.withAtu_pending (s : State) (a : Atu) : (s.withAtu a).pending = s.pending := rfl

/-! ### withLink -/

@[simp] theorem State.withLink_phase (s : State) (l : Link) : (s.withLink l).phase = s.phase := rfl
@[simp] theorem State.withLink_scanPos (s : State) (l : Link) : (s.withLink l).scanPos = s.scanPos := rfl
@[simp] theorem State.withLink_resetKind (s : State) (l : Link) : (s.withLink l).resetKind = s.resetKind := rfl
@[simp] theorem State.withLink_supply (s : State) (l : Link) : (s.withLink l).supply = s.supply := rfl
@[simp] theorem State.withLink_link (s : State) (l : Link) : (s.withLink l).link = l := rfl
@[simp] theorem State.withLink_array (s : State) (l : Link) : (s.withLink l).array = s.array := rfl
@[simp] theorem State.withLink_nva (s : State) (l : Link) : (s.withLink l).nva = s.nva := rfl
@[simp] theorem State.withLink_index (s : State) (l : Link) : (s.withLink l).index = s.index := rfl
@[simp] theorem State.withLink_failures (s : State) (l : Link) : (s.withLink l).failures = s.failures := rfl
@[simp] theorem State.withLink_cfg (s : State) (l : Link) : (s.withLink l).cfg = s.cfg := rfl
@[simp] theorem State.withLink_tmb (s : State) (l : Link) : (s.withLink l).tmb = s.tmb := rfl
@[simp] theorem State.withLink_cal (s : State) (l : Link) : (s.withLink l).cal = s.cal := rfl
@[simp] theorem State.withLink_lqu (s : State) (l : Link) : (s.withLink l).lqu = s.lqu := rfl
@[simp] theorem State.withLink_lines (s : State) (l : Link) : (s.withLink l).lines = s.lines := rfl
@[simp] theorem State.withLink_claims (s : State) (l : Link) : (s.withLink l).claims = s.claims := rfl
@[simp] theorem State.withLink_readers (s : State) (l : Link) : (s.withLink l).readers = s.readers := rfl
@[simp] theorem State.withLink_rline (s : State) (l : Link) : (s.withLink l).rline = s.rline := rfl
@[simp] theorem State.withLink_mode (s : State) (l : Link) : (s.withLink l).mode = s.mode := rfl
@[simp] theorem State.withLink_auto (s : State) (l : Link) : (s.withLink l).auto = s.auto := rfl
@[simp] theorem State.withLink_pairs (s : State) (l : Link) : (s.withLink l).pairs = s.pairs := rfl
@[simp] theorem State.withLink_doors (s : State) (l : Link) : (s.withLink l).doors = s.doors := rfl
@[simp] theorem State.withLink_occ (s : State) (l : Link) : (s.withLink l).occ = s.occ := rfl
@[simp] theorem State.withLink_ssq (s : State) (l : Link) : (s.withLink l).ssq = s.ssq := rfl
@[simp] theorem State.withLink_globalHold (s : State) (l : Link) : (s.withLink l).globalHold = s.globalHold := rfl
@[simp] theorem State.withLink_atu (s : State) (l : Link) : (s.withLink l).atu = s.atu := rfl
@[simp] theorem State.withLink_due (s : State) (l : Link) : (s.withLink l).due = s.due := rfl
@[simp] theorem State.withLink_freeCount (s : State) (l : Link) : (s.withLink l).freeCount = s.freeCount := rfl
@[simp] theorem State.withLink_pending (s : State) (l : Link) : (s.withLink l).pending = s.pending := rfl

/-! ### withNva -/

@[simp] theorem State.withNva_phase (s : State) (n : Nva) : (s.withNva n).phase = s.phase := rfl
@[simp] theorem State.withNva_scanPos (s : State) (n : Nva) : (s.withNva n).scanPos = s.scanPos := rfl
@[simp] theorem State.withNva_resetKind (s : State) (n : Nva) : (s.withNva n).resetKind = s.resetKind := rfl
@[simp] theorem State.withNva_supply (s : State) (n : Nva) : (s.withNva n).supply = s.supply := rfl
@[simp] theorem State.withNva_link (s : State) (n : Nva) : (s.withNva n).link = s.link := rfl
@[simp] theorem State.withNva_array (s : State) (n : Nva) : (s.withNva n).array = s.array := rfl
@[simp] theorem State.withNva_nva (s : State) (n : Nva) : (s.withNva n).nva = n := rfl
@[simp] theorem State.withNva_index (s : State) (n : Nva) : (s.withNva n).index = s.index := rfl
@[simp] theorem State.withNva_failures (s : State) (n : Nva) : (s.withNva n).failures = s.failures := rfl
@[simp] theorem State.withNva_cfg (s : State) (n : Nva) : (s.withNva n).cfg = s.cfg := rfl
@[simp] theorem State.withNva_tmb (s : State) (n : Nva) : (s.withNva n).tmb = s.tmb := rfl
@[simp] theorem State.withNva_cal (s : State) (n : Nva) : (s.withNva n).cal = s.cal := rfl
@[simp] theorem State.withNva_lqu (s : State) (n : Nva) : (s.withNva n).lqu = s.lqu := rfl
@[simp] theorem State.withNva_lines (s : State) (n : Nva) : (s.withNva n).lines = s.lines := rfl
@[simp] theorem State.withNva_claims (s : State) (n : Nva) : (s.withNva n).claims = s.claims := rfl
@[simp] theorem State.withNva_readers (s : State) (n : Nva) : (s.withNva n).readers = s.readers := rfl
@[simp] theorem State.withNva_rline (s : State) (n : Nva) : (s.withNva n).rline = s.rline := rfl
@[simp] theorem State.withNva_mode (s : State) (n : Nva) : (s.withNva n).mode = s.mode := rfl
@[simp] theorem State.withNva_auto (s : State) (n : Nva) : (s.withNva n).auto = s.auto := rfl
@[simp] theorem State.withNva_pairs (s : State) (n : Nva) : (s.withNva n).pairs = s.pairs := rfl
@[simp] theorem State.withNva_doors (s : State) (n : Nva) : (s.withNva n).doors = s.doors := rfl
@[simp] theorem State.withNva_occ (s : State) (n : Nva) : (s.withNva n).occ = s.occ := rfl
@[simp] theorem State.withNva_ssq (s : State) (n : Nva) : (s.withNva n).ssq = s.ssq := rfl
@[simp] theorem State.withNva_globalHold (s : State) (n : Nva) : (s.withNva n).globalHold = s.globalHold := rfl
@[simp] theorem State.withNva_atu (s : State) (n : Nva) : (s.withNva n).atu = s.atu := rfl
@[simp] theorem State.withNva_due (s : State) (n : Nva) : (s.withNva n).due = s.due := rfl
@[simp] theorem State.withNva_freeCount (s : State) (n : Nva) : (s.withNva n).freeCount = s.freeCount := rfl
@[simp] theorem State.withNva_pending (s : State) (n : Nva) : (s.withNva n).pending = s.pending := rfl

/-! ### withReaders -/

@[simp] theorem State.withReaders_phase (s : State) (v : Vault) (r : VaultReaders) : (s.withReaders v r).phase = s.phase := rfl
@[simp] theorem State.withReaders_scanPos (s : State) (v : Vault) (r : VaultReaders) : (s.withReaders v r).scanPos = s.scanPos := rfl
@[simp] theorem State.withReaders_resetKind (s : State) (v : Vault) (r : VaultReaders) : (s.withReaders v r).resetKind = s.resetKind := rfl
@[simp] theorem State.withReaders_supply (s : State) (v : Vault) (r : VaultReaders) : (s.withReaders v r).supply = s.supply := rfl
@[simp] theorem State.withReaders_link (s : State) (v : Vault) (r : VaultReaders) : (s.withReaders v r).link = s.link := rfl
@[simp] theorem State.withReaders_array (s : State) (v : Vault) (r : VaultReaders) : (s.withReaders v r).array = s.array := rfl
@[simp] theorem State.withReaders_nva (s : State) (v : Vault) (r : VaultReaders) : (s.withReaders v r).nva = s.nva := rfl
@[simp] theorem State.withReaders_index (s : State) (v : Vault) (r : VaultReaders) : (s.withReaders v r).index = s.index := rfl
@[simp] theorem State.withReaders_failures (s : State) (v : Vault) (r : VaultReaders) : (s.withReaders v r).failures = s.failures := rfl
@[simp] theorem State.withReaders_cfg (s : State) (v : Vault) (r : VaultReaders) : (s.withReaders v r).cfg = s.cfg := rfl
@[simp] theorem State.withReaders_tmb (s : State) (v : Vault) (r : VaultReaders) : (s.withReaders v r).tmb = s.tmb := rfl
@[simp] theorem State.withReaders_cal (s : State) (v : Vault) (r : VaultReaders) : (s.withReaders v r).cal = s.cal := rfl
@[simp] theorem State.withReaders_lqu (s : State) (v : Vault) (r : VaultReaders) : (s.withReaders v r).lqu = s.lqu := rfl
@[simp] theorem State.withReaders_lines (s : State) (v : Vault) (r : VaultReaders) : (s.withReaders v r).lines = s.lines := rfl
@[simp] theorem State.withReaders_claims (s : State) (v : Vault) (r : VaultReaders) : (s.withReaders v r).claims = s.claims := rfl
@[simp] theorem State.withReaders_readers (s : State) (v : Vault) (r : VaultReaders) : (s.withReaders v r).readers = s.readers.set v r := rfl
@[simp] theorem State.withReaders_rline (s : State) (v : Vault) (r : VaultReaders) : (s.withReaders v r).rline = s.rline := rfl
@[simp] theorem State.withReaders_mode (s : State) (v : Vault) (r : VaultReaders) : (s.withReaders v r).mode = s.mode := rfl
@[simp] theorem State.withReaders_auto (s : State) (v : Vault) (r : VaultReaders) : (s.withReaders v r).auto = s.auto := rfl
@[simp] theorem State.withReaders_pairs (s : State) (v : Vault) (r : VaultReaders) : (s.withReaders v r).pairs = s.pairs := rfl
@[simp] theorem State.withReaders_doors (s : State) (v : Vault) (r : VaultReaders) : (s.withReaders v r).doors = s.doors := rfl
@[simp] theorem State.withReaders_occ (s : State) (v : Vault) (r : VaultReaders) : (s.withReaders v r).occ = s.occ := rfl
@[simp] theorem State.withReaders_ssq (s : State) (v : Vault) (r : VaultReaders) : (s.withReaders v r).ssq = s.ssq := rfl
@[simp] theorem State.withReaders_globalHold (s : State) (v : Vault) (r : VaultReaders) : (s.withReaders v r).globalHold = s.globalHold := rfl
@[simp] theorem State.withReaders_atu (s : State) (v : Vault) (r : VaultReaders) : (s.withReaders v r).atu = s.atu := rfl
@[simp] theorem State.withReaders_due (s : State) (v : Vault) (r : VaultReaders) : (s.withReaders v r).due = s.due := rfl
@[simp] theorem State.withReaders_freeCount (s : State) (v : Vault) (r : VaultReaders) : (s.withReaders v r).freeCount = s.freeCount := rfl
@[simp] theorem State.withReaders_pending (s : State) (v : Vault) (r : VaultReaders) : (s.withReaders v r).pending = s.pending := rfl

/-! ### withReader -/

@[simp] theorem State.withReader_phase (s : State) (a : ReaderAddress) (r : ReaderRecord) : (s.withReader a r).phase = s.phase := rfl
@[simp] theorem State.withReader_scanPos (s : State) (a : ReaderAddress) (r : ReaderRecord) : (s.withReader a r).scanPos = s.scanPos := rfl
@[simp] theorem State.withReader_resetKind (s : State) (a : ReaderAddress) (r : ReaderRecord) : (s.withReader a r).resetKind = s.resetKind := rfl
@[simp] theorem State.withReader_supply (s : State) (a : ReaderAddress) (r : ReaderRecord) : (s.withReader a r).supply = s.supply := rfl
@[simp] theorem State.withReader_link (s : State) (a : ReaderAddress) (r : ReaderRecord) : (s.withReader a r).link = s.link := rfl
@[simp] theorem State.withReader_array (s : State) (a : ReaderAddress) (r : ReaderRecord) : (s.withReader a r).array = s.array := rfl
@[simp] theorem State.withReader_nva (s : State) (a : ReaderAddress) (r : ReaderRecord) : (s.withReader a r).nva = s.nva := rfl
@[simp] theorem State.withReader_index (s : State) (a : ReaderAddress) (r : ReaderRecord) : (s.withReader a r).index = s.index := rfl
@[simp] theorem State.withReader_failures (s : State) (a : ReaderAddress) (r : ReaderRecord) : (s.withReader a r).failures = s.failures := rfl
@[simp] theorem State.withReader_cfg (s : State) (a : ReaderAddress) (r : ReaderRecord) : (s.withReader a r).cfg = s.cfg := rfl
@[simp] theorem State.withReader_tmb (s : State) (a : ReaderAddress) (r : ReaderRecord) : (s.withReader a r).tmb = s.tmb := rfl
@[simp] theorem State.withReader_cal (s : State) (a : ReaderAddress) (r : ReaderRecord) : (s.withReader a r).cal = s.cal := rfl
@[simp] theorem State.withReader_lqu (s : State) (a : ReaderAddress) (r : ReaderRecord) : (s.withReader a r).lqu = s.lqu := rfl
@[simp] theorem State.withReader_lines (s : State) (a : ReaderAddress) (r : ReaderRecord) : (s.withReader a r).lines = s.lines := rfl
@[simp] theorem State.withReader_claims (s : State) (a : ReaderAddress) (r : ReaderRecord) : (s.withReader a r).claims = s.claims := rfl
@[simp] theorem State.withReader_readers (s : State) (a : ReaderAddress) (r : ReaderRecord) : (s.withReader a r).readers = s.readers.set a.vault ((s.readers.get a.vault).put a.position r) := rfl
@[simp] theorem State.withReader_rline (s : State) (a : ReaderAddress) (r : ReaderRecord) : (s.withReader a r).rline = s.rline := rfl
@[simp] theorem State.withReader_mode (s : State) (a : ReaderAddress) (r : ReaderRecord) : (s.withReader a r).mode = s.mode := rfl
@[simp] theorem State.withReader_auto (s : State) (a : ReaderAddress) (r : ReaderRecord) : (s.withReader a r).auto = s.auto := rfl
@[simp] theorem State.withReader_pairs (s : State) (a : ReaderAddress) (r : ReaderRecord) : (s.withReader a r).pairs = s.pairs := rfl
@[simp] theorem State.withReader_doors (s : State) (a : ReaderAddress) (r : ReaderRecord) : (s.withReader a r).doors = s.doors := rfl
@[simp] theorem State.withReader_occ (s : State) (a : ReaderAddress) (r : ReaderRecord) : (s.withReader a r).occ = s.occ := rfl
@[simp] theorem State.withReader_ssq (s : State) (a : ReaderAddress) (r : ReaderRecord) : (s.withReader a r).ssq = s.ssq := rfl
@[simp] theorem State.withReader_globalHold (s : State) (a : ReaderAddress) (r : ReaderRecord) : (s.withReader a r).globalHold = s.globalHold := rfl
@[simp] theorem State.withReader_atu (s : State) (a : ReaderAddress) (r : ReaderRecord) : (s.withReader a r).atu = s.atu := rfl
@[simp] theorem State.withReader_due (s : State) (a : ReaderAddress) (r : ReaderRecord) : (s.withReader a r).due = s.due := rfl
@[simp] theorem State.withReader_freeCount (s : State) (a : ReaderAddress) (r : ReaderRecord) : (s.withReader a r).freeCount = s.freeCount := rfl
@[simp] theorem State.withReader_pending (s : State) (a : ReaderAddress) (r : ReaderRecord) : (s.withReader a r).pending = s.pending := rfl

/-! ### withLqu -/

@[simp] theorem State.withLqu_phase (s : State) (l : Lqu) : (s.withLqu l).phase = s.phase := rfl
@[simp] theorem State.withLqu_scanPos (s : State) (l : Lqu) : (s.withLqu l).scanPos = s.scanPos := rfl
@[simp] theorem State.withLqu_resetKind (s : State) (l : Lqu) : (s.withLqu l).resetKind = s.resetKind := rfl
@[simp] theorem State.withLqu_supply (s : State) (l : Lqu) : (s.withLqu l).supply = s.supply := rfl
@[simp] theorem State.withLqu_link (s : State) (l : Lqu) : (s.withLqu l).link = s.link := rfl
@[simp] theorem State.withLqu_array (s : State) (l : Lqu) : (s.withLqu l).array = s.array := rfl
@[simp] theorem State.withLqu_nva (s : State) (l : Lqu) : (s.withLqu l).nva = s.nva := rfl
@[simp] theorem State.withLqu_index (s : State) (l : Lqu) : (s.withLqu l).index = s.index := rfl
@[simp] theorem State.withLqu_failures (s : State) (l : Lqu) : (s.withLqu l).failures = s.failures := rfl
@[simp] theorem State.withLqu_cfg (s : State) (l : Lqu) : (s.withLqu l).cfg = s.cfg := rfl
@[simp] theorem State.withLqu_tmb (s : State) (l : Lqu) : (s.withLqu l).tmb = s.tmb := rfl
@[simp] theorem State.withLqu_cal (s : State) (l : Lqu) : (s.withLqu l).cal = s.cal := rfl
@[simp] theorem State.withLqu_lqu (s : State) (l : Lqu) : (s.withLqu l).lqu = l := rfl
@[simp] theorem State.withLqu_lines (s : State) (l : Lqu) : (s.withLqu l).lines = s.lines := rfl
@[simp] theorem State.withLqu_claims (s : State) (l : Lqu) : (s.withLqu l).claims = s.claims := rfl
@[simp] theorem State.withLqu_readers (s : State) (l : Lqu) : (s.withLqu l).readers = s.readers := rfl
@[simp] theorem State.withLqu_rline (s : State) (l : Lqu) : (s.withLqu l).rline = s.rline := rfl
@[simp] theorem State.withLqu_mode (s : State) (l : Lqu) : (s.withLqu l).mode = s.mode := rfl
@[simp] theorem State.withLqu_auto (s : State) (l : Lqu) : (s.withLqu l).auto = s.auto := rfl
@[simp] theorem State.withLqu_pairs (s : State) (l : Lqu) : (s.withLqu l).pairs = s.pairs := rfl
@[simp] theorem State.withLqu_doors (s : State) (l : Lqu) : (s.withLqu l).doors = s.doors := rfl
@[simp] theorem State.withLqu_occ (s : State) (l : Lqu) : (s.withLqu l).occ = s.occ := rfl
@[simp] theorem State.withLqu_ssq (s : State) (l : Lqu) : (s.withLqu l).ssq = s.ssq := rfl
@[simp] theorem State.withLqu_globalHold (s : State) (l : Lqu) : (s.withLqu l).globalHold = s.globalHold := rfl
@[simp] theorem State.withLqu_atu (s : State) (l : Lqu) : (s.withLqu l).atu = s.atu := rfl
@[simp] theorem State.withLqu_due (s : State) (l : Lqu) : (s.withLqu l).due = s.due := rfl
@[simp] theorem State.withLqu_freeCount (s : State) (l : Lqu) : (s.withLqu l).freeCount = s.freeCount := rfl
@[simp] theorem State.withLqu_pending (s : State) (l : Lqu) : (s.withLqu l).pending = s.pending := rfl

/-! ### withCal -/

@[simp] theorem State.withCal_phase (s : State) (c : Cal) : (s.withCal c).phase = s.phase := rfl
@[simp] theorem State.withCal_scanPos (s : State) (c : Cal) : (s.withCal c).scanPos = s.scanPos := rfl
@[simp] theorem State.withCal_resetKind (s : State) (c : Cal) : (s.withCal c).resetKind = s.resetKind := rfl
@[simp] theorem State.withCal_supply (s : State) (c : Cal) : (s.withCal c).supply = s.supply := rfl
@[simp] theorem State.withCal_link (s : State) (c : Cal) : (s.withCal c).link = s.link := rfl
@[simp] theorem State.withCal_array (s : State) (c : Cal) : (s.withCal c).array = s.array := rfl
@[simp] theorem State.withCal_nva (s : State) (c : Cal) : (s.withCal c).nva = s.nva := rfl
@[simp] theorem State.withCal_index (s : State) (c : Cal) : (s.withCal c).index = s.index := rfl
@[simp] theorem State.withCal_failures (s : State) (c : Cal) : (s.withCal c).failures = s.failures := rfl
@[simp] theorem State.withCal_cfg (s : State) (c : Cal) : (s.withCal c).cfg = s.cfg := rfl
@[simp] theorem State.withCal_tmb (s : State) (c : Cal) : (s.withCal c).tmb = s.tmb := rfl
@[simp] theorem State.withCal_cal (s : State) (c : Cal) : (s.withCal c).cal = c := rfl
@[simp] theorem State.withCal_lqu (s : State) (c : Cal) : (s.withCal c).lqu = s.lqu := rfl
@[simp] theorem State.withCal_lines (s : State) (c : Cal) : (s.withCal c).lines = s.lines := rfl
@[simp] theorem State.withCal_claims (s : State) (c : Cal) : (s.withCal c).claims = s.claims := rfl
@[simp] theorem State.withCal_readers (s : State) (c : Cal) : (s.withCal c).readers = s.readers := rfl
@[simp] theorem State.withCal_rline (s : State) (c : Cal) : (s.withCal c).rline = s.rline := rfl
@[simp] theorem State.withCal_mode (s : State) (c : Cal) : (s.withCal c).mode = s.mode := rfl
@[simp] theorem State.withCal_auto (s : State) (c : Cal) : (s.withCal c).auto = s.auto := rfl
@[simp] theorem State.withCal_pairs (s : State) (c : Cal) : (s.withCal c).pairs = s.pairs := rfl
@[simp] theorem State.withCal_doors (s : State) (c : Cal) : (s.withCal c).doors = s.doors := rfl
@[simp] theorem State.withCal_occ (s : State) (c : Cal) : (s.withCal c).occ = s.occ := rfl
@[simp] theorem State.withCal_ssq (s : State) (c : Cal) : (s.withCal c).ssq = s.ssq := rfl
@[simp] theorem State.withCal_globalHold (s : State) (c : Cal) : (s.withCal c).globalHold = s.globalHold := rfl
@[simp] theorem State.withCal_atu (s : State) (c : Cal) : (s.withCal c).atu = s.atu := rfl
@[simp] theorem State.withCal_due (s : State) (c : Cal) : (s.withCal c).due = s.due := rfl
@[simp] theorem State.withCal_freeCount (s : State) (c : Cal) : (s.withCal c).freeCount = s.freeCount := rfl
@[simp] theorem State.withCal_pending (s : State) (c : Cal) : (s.withCal c).pending = s.pending := rfl

/-! ### withIndex -/

@[simp] theorem State.withIndex_phase (s : State) (i : List (Nat × Nat)) : (s.withIndex i).phase = s.phase := rfl
@[simp] theorem State.withIndex_scanPos (s : State) (i : List (Nat × Nat)) : (s.withIndex i).scanPos = s.scanPos := rfl
@[simp] theorem State.withIndex_resetKind (s : State) (i : List (Nat × Nat)) : (s.withIndex i).resetKind = s.resetKind := rfl
@[simp] theorem State.withIndex_supply (s : State) (i : List (Nat × Nat)) : (s.withIndex i).supply = s.supply := rfl
@[simp] theorem State.withIndex_link (s : State) (i : List (Nat × Nat)) : (s.withIndex i).link = s.link := rfl
@[simp] theorem State.withIndex_array (s : State) (i : List (Nat × Nat)) : (s.withIndex i).array = s.array := rfl
@[simp] theorem State.withIndex_nva (s : State) (i : List (Nat × Nat)) : (s.withIndex i).nva = s.nva := rfl
@[simp] theorem State.withIndex_index (s : State) (i : List (Nat × Nat)) : (s.withIndex i).index = i := rfl
@[simp] theorem State.withIndex_failures (s : State) (i : List (Nat × Nat)) : (s.withIndex i).failures = s.failures := rfl
@[simp] theorem State.withIndex_cfg (s : State) (i : List (Nat × Nat)) : (s.withIndex i).cfg = s.cfg := rfl
@[simp] theorem State.withIndex_tmb (s : State) (i : List (Nat × Nat)) : (s.withIndex i).tmb = s.tmb := rfl
@[simp] theorem State.withIndex_cal (s : State) (i : List (Nat × Nat)) : (s.withIndex i).cal = s.cal := rfl
@[simp] theorem State.withIndex_lqu (s : State) (i : List (Nat × Nat)) : (s.withIndex i).lqu = s.lqu := rfl
@[simp] theorem State.withIndex_lines (s : State) (i : List (Nat × Nat)) : (s.withIndex i).lines = s.lines := rfl
@[simp] theorem State.withIndex_claims (s : State) (i : List (Nat × Nat)) : (s.withIndex i).claims = s.claims := rfl
@[simp] theorem State.withIndex_readers (s : State) (i : List (Nat × Nat)) : (s.withIndex i).readers = s.readers := rfl
@[simp] theorem State.withIndex_rline (s : State) (i : List (Nat × Nat)) : (s.withIndex i).rline = s.rline := rfl
@[simp] theorem State.withIndex_mode (s : State) (i : List (Nat × Nat)) : (s.withIndex i).mode = s.mode := rfl
@[simp] theorem State.withIndex_auto (s : State) (i : List (Nat × Nat)) : (s.withIndex i).auto = s.auto := rfl
@[simp] theorem State.withIndex_pairs (s : State) (i : List (Nat × Nat)) : (s.withIndex i).pairs = s.pairs := rfl
@[simp] theorem State.withIndex_doors (s : State) (i : List (Nat × Nat)) : (s.withIndex i).doors = s.doors := rfl
@[simp] theorem State.withIndex_occ (s : State) (i : List (Nat × Nat)) : (s.withIndex i).occ = s.occ := rfl
@[simp] theorem State.withIndex_ssq (s : State) (i : List (Nat × Nat)) : (s.withIndex i).ssq = s.ssq := rfl
@[simp] theorem State.withIndex_globalHold (s : State) (i : List (Nat × Nat)) : (s.withIndex i).globalHold = s.globalHold := rfl
@[simp] theorem State.withIndex_atu (s : State) (i : List (Nat × Nat)) : (s.withIndex i).atu = s.atu := rfl
@[simp] theorem State.withIndex_due (s : State) (i : List (Nat × Nat)) : (s.withIndex i).due = s.due := rfl
@[simp] theorem State.withIndex_freeCount (s : State) (i : List (Nat × Nat)) : (s.withIndex i).freeCount = s.freeCount := rfl
@[simp] theorem State.withIndex_pending (s : State) (i : List (Nat × Nat)) : (s.withIndex i).pending = s.pending := rfl

/-! ### withFailures -/

@[simp] theorem State.withFailures_phase (s : State) (f : List FailureEntry) : (s.withFailures f).phase = s.phase := rfl
@[simp] theorem State.withFailures_scanPos (s : State) (f : List FailureEntry) : (s.withFailures f).scanPos = s.scanPos := rfl
@[simp] theorem State.withFailures_resetKind (s : State) (f : List FailureEntry) : (s.withFailures f).resetKind = s.resetKind := rfl
@[simp] theorem State.withFailures_supply (s : State) (f : List FailureEntry) : (s.withFailures f).supply = s.supply := rfl
@[simp] theorem State.withFailures_link (s : State) (f : List FailureEntry) : (s.withFailures f).link = s.link := rfl
@[simp] theorem State.withFailures_array (s : State) (f : List FailureEntry) : (s.withFailures f).array = s.array := rfl
@[simp] theorem State.withFailures_nva (s : State) (f : List FailureEntry) : (s.withFailures f).nva = s.nva := rfl
@[simp] theorem State.withFailures_index (s : State) (f : List FailureEntry) : (s.withFailures f).index = s.index := rfl
@[simp] theorem State.withFailures_failures (s : State) (f : List FailureEntry) : (s.withFailures f).failures = f := rfl
@[simp] theorem State.withFailures_cfg (s : State) (f : List FailureEntry) : (s.withFailures f).cfg = s.cfg := rfl
@[simp] theorem State.withFailures_tmb (s : State) (f : List FailureEntry) : (s.withFailures f).tmb = s.tmb := rfl
@[simp] theorem State.withFailures_cal (s : State) (f : List FailureEntry) : (s.withFailures f).cal = s.cal := rfl
@[simp] theorem State.withFailures_lqu (s : State) (f : List FailureEntry) : (s.withFailures f).lqu = s.lqu := rfl
@[simp] theorem State.withFailures_lines (s : State) (f : List FailureEntry) : (s.withFailures f).lines = s.lines := rfl
@[simp] theorem State.withFailures_claims (s : State) (f : List FailureEntry) : (s.withFailures f).claims = s.claims := rfl
@[simp] theorem State.withFailures_readers (s : State) (f : List FailureEntry) : (s.withFailures f).readers = s.readers := rfl
@[simp] theorem State.withFailures_rline (s : State) (f : List FailureEntry) : (s.withFailures f).rline = s.rline := rfl
@[simp] theorem State.withFailures_mode (s : State) (f : List FailureEntry) : (s.withFailures f).mode = s.mode := rfl
@[simp] theorem State.withFailures_auto (s : State) (f : List FailureEntry) : (s.withFailures f).auto = s.auto := rfl
@[simp] theorem State.withFailures_pairs (s : State) (f : List FailureEntry) : (s.withFailures f).pairs = s.pairs := rfl
@[simp] theorem State.withFailures_doors (s : State) (f : List FailureEntry) : (s.withFailures f).doors = s.doors := rfl
@[simp] theorem State.withFailures_occ (s : State) (f : List FailureEntry) : (s.withFailures f).occ = s.occ := rfl
@[simp] theorem State.withFailures_ssq (s : State) (f : List FailureEntry) : (s.withFailures f).ssq = s.ssq := rfl
@[simp] theorem State.withFailures_globalHold (s : State) (f : List FailureEntry) : (s.withFailures f).globalHold = s.globalHold := rfl
@[simp] theorem State.withFailures_atu (s : State) (f : List FailureEntry) : (s.withFailures f).atu = s.atu := rfl
@[simp] theorem State.withFailures_due (s : State) (f : List FailureEntry) : (s.withFailures f).due = s.due := rfl
@[simp] theorem State.withFailures_freeCount (s : State) (f : List FailureEntry) : (s.withFailures f).freeCount = s.freeCount := rfl
@[simp] theorem State.withFailures_pending (s : State) (f : List FailureEntry) : (s.withFailures f).pending = s.pending := rfl

/-! ### withReaderLine -/

@[simp] theorem State.withReaderLine_phase (s : State) (r : ReaderLine) : (s.withReaderLine r).phase = s.phase := rfl
@[simp] theorem State.withReaderLine_scanPos (s : State) (r : ReaderLine) : (s.withReaderLine r).scanPos = s.scanPos := rfl
@[simp] theorem State.withReaderLine_resetKind (s : State) (r : ReaderLine) : (s.withReaderLine r).resetKind = s.resetKind := rfl
@[simp] theorem State.withReaderLine_supply (s : State) (r : ReaderLine) : (s.withReaderLine r).supply = s.supply := rfl
@[simp] theorem State.withReaderLine_link (s : State) (r : ReaderLine) : (s.withReaderLine r).link = s.link := rfl
@[simp] theorem State.withReaderLine_array (s : State) (r : ReaderLine) : (s.withReaderLine r).array = s.array := rfl
@[simp] theorem State.withReaderLine_nva (s : State) (r : ReaderLine) : (s.withReaderLine r).nva = s.nva := rfl
@[simp] theorem State.withReaderLine_index (s : State) (r : ReaderLine) : (s.withReaderLine r).index = s.index := rfl
@[simp] theorem State.withReaderLine_failures (s : State) (r : ReaderLine) : (s.withReaderLine r).failures = s.failures := rfl
@[simp] theorem State.withReaderLine_cfg (s : State) (r : ReaderLine) : (s.withReaderLine r).cfg = s.cfg := rfl
@[simp] theorem State.withReaderLine_tmb (s : State) (r : ReaderLine) : (s.withReaderLine r).tmb = s.tmb := rfl
@[simp] theorem State.withReaderLine_cal (s : State) (r : ReaderLine) : (s.withReaderLine r).cal = s.cal := rfl
@[simp] theorem State.withReaderLine_lqu (s : State) (r : ReaderLine) : (s.withReaderLine r).lqu = s.lqu := rfl
@[simp] theorem State.withReaderLine_lines (s : State) (r : ReaderLine) : (s.withReaderLine r).lines = s.lines := rfl
@[simp] theorem State.withReaderLine_claims (s : State) (r : ReaderLine) : (s.withReaderLine r).claims = s.claims := rfl
@[simp] theorem State.withReaderLine_readers (s : State) (r : ReaderLine) : (s.withReaderLine r).readers = s.readers := rfl
@[simp] theorem State.withReaderLine_rline (s : State) (r : ReaderLine) : (s.withReaderLine r).rline = r := rfl
@[simp] theorem State.withReaderLine_mode (s : State) (r : ReaderLine) : (s.withReaderLine r).mode = s.mode := rfl
@[simp] theorem State.withReaderLine_auto (s : State) (r : ReaderLine) : (s.withReaderLine r).auto = s.auto := rfl
@[simp] theorem State.withReaderLine_pairs (s : State) (r : ReaderLine) : (s.withReaderLine r).pairs = s.pairs := rfl
@[simp] theorem State.withReaderLine_doors (s : State) (r : ReaderLine) : (s.withReaderLine r).doors = s.doors := rfl
@[simp] theorem State.withReaderLine_occ (s : State) (r : ReaderLine) : (s.withReaderLine r).occ = s.occ := rfl
@[simp] theorem State.withReaderLine_ssq (s : State) (r : ReaderLine) : (s.withReaderLine r).ssq = s.ssq := rfl
@[simp] theorem State.withReaderLine_globalHold (s : State) (r : ReaderLine) : (s.withReaderLine r).globalHold = s.globalHold := rfl
@[simp] theorem State.withReaderLine_atu (s : State) (r : ReaderLine) : (s.withReaderLine r).atu = s.atu := rfl
@[simp] theorem State.withReaderLine_due (s : State) (r : ReaderLine) : (s.withReaderLine r).due = s.due := rfl
@[simp] theorem State.withReaderLine_freeCount (s : State) (r : ReaderLine) : (s.withReaderLine r).freeCount = s.freeCount := rfl
@[simp] theorem State.withReaderLine_pending (s : State) (r : ReaderLine) : (s.withReaderLine r).pending = s.pending := rfl

/-! ### withWaiting -/

@[simp] theorem State.withWaiting_phase (s : State) (c : Causes) : (s.withWaiting c).phase = s.phase := rfl
@[simp] theorem State.withWaiting_scanPos (s : State) (c : Causes) : (s.withWaiting c).scanPos = s.scanPos := rfl
@[simp] theorem State.withWaiting_resetKind (s : State) (c : Causes) : (s.withWaiting c).resetKind = s.resetKind := rfl
@[simp] theorem State.withWaiting_supply (s : State) (c : Causes) : (s.withWaiting c).supply = s.supply := rfl
@[simp] theorem State.withWaiting_link (s : State) (c : Causes) : (s.withWaiting c).link = { s.link with waiting := c } := rfl
@[simp] theorem State.withWaiting_array (s : State) (c : Causes) : (s.withWaiting c).array = s.array := rfl
@[simp] theorem State.withWaiting_nva (s : State) (c : Causes) : (s.withWaiting c).nva = s.nva := rfl
@[simp] theorem State.withWaiting_index (s : State) (c : Causes) : (s.withWaiting c).index = s.index := rfl
@[simp] theorem State.withWaiting_failures (s : State) (c : Causes) : (s.withWaiting c).failures = s.failures := rfl
@[simp] theorem State.withWaiting_cfg (s : State) (c : Causes) : (s.withWaiting c).cfg = s.cfg := rfl
@[simp] theorem State.withWaiting_tmb (s : State) (c : Causes) : (s.withWaiting c).tmb = s.tmb := rfl
@[simp] theorem State.withWaiting_cal (s : State) (c : Causes) : (s.withWaiting c).cal = s.cal := rfl
@[simp] theorem State.withWaiting_lqu (s : State) (c : Causes) : (s.withWaiting c).lqu = s.lqu := rfl
@[simp] theorem State.withWaiting_lines (s : State) (c : Causes) : (s.withWaiting c).lines = s.lines := rfl
@[simp] theorem State.withWaiting_claims (s : State) (c : Causes) : (s.withWaiting c).claims = s.claims := rfl
@[simp] theorem State.withWaiting_readers (s : State) (c : Causes) : (s.withWaiting c).readers = s.readers := rfl
@[simp] theorem State.withWaiting_rline (s : State) (c : Causes) : (s.withWaiting c).rline = s.rline := rfl
@[simp] theorem State.withWaiting_mode (s : State) (c : Causes) : (s.withWaiting c).mode = s.mode := rfl
@[simp] theorem State.withWaiting_auto (s : State) (c : Causes) : (s.withWaiting c).auto = s.auto := rfl
@[simp] theorem State.withWaiting_pairs (s : State) (c : Causes) : (s.withWaiting c).pairs = s.pairs := rfl
@[simp] theorem State.withWaiting_doors (s : State) (c : Causes) : (s.withWaiting c).doors = s.doors := rfl
@[simp] theorem State.withWaiting_occ (s : State) (c : Causes) : (s.withWaiting c).occ = s.occ := rfl
@[simp] theorem State.withWaiting_ssq (s : State) (c : Causes) : (s.withWaiting c).ssq = s.ssq := rfl
@[simp] theorem State.withWaiting_globalHold (s : State) (c : Causes) : (s.withWaiting c).globalHold = s.globalHold := rfl
@[simp] theorem State.withWaiting_atu (s : State) (c : Causes) : (s.withWaiting c).atu = s.atu := rfl
@[simp] theorem State.withWaiting_due (s : State) (c : Causes) : (s.withWaiting c).due = s.due := rfl
@[simp] theorem State.withWaiting_freeCount (s : State) (c : Causes) : (s.withWaiting c).freeCount = s.freeCount := rfl
@[simp] theorem State.withWaiting_pending (s : State) (c : Causes) : (s.withWaiting c).pending = s.pending := rfl

/-! ### withPending -/

@[simp] theorem State.withPending_phase (s : State) (q : List Instr) : (s.withPending q).phase = s.phase := rfl
@[simp] theorem State.withPending_scanPos (s : State) (q : List Instr) : (s.withPending q).scanPos = s.scanPos := rfl
@[simp] theorem State.withPending_resetKind (s : State) (q : List Instr) : (s.withPending q).resetKind = s.resetKind := rfl
@[simp] theorem State.withPending_supply (s : State) (q : List Instr) : (s.withPending q).supply = s.supply := rfl
@[simp] theorem State.withPending_link (s : State) (q : List Instr) : (s.withPending q).link = s.link := rfl
@[simp] theorem State.withPending_array (s : State) (q : List Instr) : (s.withPending q).array = s.array := rfl
@[simp] theorem State.withPending_nva (s : State) (q : List Instr) : (s.withPending q).nva = s.nva := rfl
@[simp] theorem State.withPending_index (s : State) (q : List Instr) : (s.withPending q).index = s.index := rfl
@[simp] theorem State.withPending_failures (s : State) (q : List Instr) : (s.withPending q).failures = s.failures := rfl
@[simp] theorem State.withPending_cfg (s : State) (q : List Instr) : (s.withPending q).cfg = s.cfg := rfl
@[simp] theorem State.withPending_tmb (s : State) (q : List Instr) : (s.withPending q).tmb = s.tmb := rfl
@[simp] theorem State.withPending_cal (s : State) (q : List Instr) : (s.withPending q).cal = s.cal := rfl
@[simp] theorem State.withPending_lqu (s : State) (q : List Instr) : (s.withPending q).lqu = s.lqu := rfl
@[simp] theorem State.withPending_lines (s : State) (q : List Instr) : (s.withPending q).lines = s.lines := rfl
@[simp] theorem State.withPending_claims (s : State) (q : List Instr) : (s.withPending q).claims = s.claims := rfl
@[simp] theorem State.withPending_readers (s : State) (q : List Instr) : (s.withPending q).readers = s.readers := rfl
@[simp] theorem State.withPending_rline (s : State) (q : List Instr) : (s.withPending q).rline = s.rline := rfl
@[simp] theorem State.withPending_mode (s : State) (q : List Instr) : (s.withPending q).mode = s.mode := rfl
@[simp] theorem State.withPending_auto (s : State) (q : List Instr) : (s.withPending q).auto = s.auto := rfl
@[simp] theorem State.withPending_pairs (s : State) (q : List Instr) : (s.withPending q).pairs = s.pairs := rfl
@[simp] theorem State.withPending_doors (s : State) (q : List Instr) : (s.withPending q).doors = s.doors := rfl
@[simp] theorem State.withPending_occ (s : State) (q : List Instr) : (s.withPending q).occ = s.occ := rfl
@[simp] theorem State.withPending_ssq (s : State) (q : List Instr) : (s.withPending q).ssq = s.ssq := rfl
@[simp] theorem State.withPending_globalHold (s : State) (q : List Instr) : (s.withPending q).globalHold = s.globalHold := rfl
@[simp] theorem State.withPending_atu (s : State) (q : List Instr) : (s.withPending q).atu = s.atu := rfl
@[simp] theorem State.withPending_due (s : State) (q : List Instr) : (s.withPending q).due = s.due := rfl
@[simp] theorem State.withPending_freeCount (s : State) (q : List Instr) : (s.withPending q).freeCount = s.freeCount := rfl
@[simp] theorem State.withPending_pending (s : State) (q : List Instr) : (s.withPending q).pending = q := rfl

/-! ### Reading back what an update wrote -/

@[simp] theorem State.withDoor_door (s : State) (v : Vault) (d : DoorRecord) : (s.withDoor v d).door v = d := by
  simp [State.door]
@[simp] theorem State.withSequencer_sequencer (s : State) (v : Vault) (q : SsqRecord) : (s.withSequencer v q).sequencer v = q := by
  simp [State.sequencer]
@[simp] theorem State.withOccupancy_occupancy (s : State) (v : Vault) (o : VaultOccupancy) : (s.withOccupancy v o).occupancy v = o := by
  simp [State.occupancy]
@[simp] theorem State.withClaimSet_claimSet (s : State) (v : Vault) (c : ClaimSet) : (s.withClaimSet v c).claimSet v = c := by
  simp [State.claimSet]
@[simp] theorem State.withPair_pair (s : State) (v : Vault) (p : Option PendingPair) : (s.withPair v p).pair v = p := by
  simp [State.pair]
@[simp] theorem State.withGroup_group (s : State) (v : Vault) (g : VaultGroup) : (s.withGroup v g).group v = g := by
  simp [State.group]
@[simp] theorem State.withStaged_stagedSet (s : State) (v : Vault) (p : SuppressionSet) : (s.withStaged v p).stagedSet v = p := by
  simp [State.stagedSet]
@[simp] theorem State.withReader_reader (s : State) (a : ReaderAddress) (r : ReaderRecord) : (s.withReader a r).reader a = r := by
  simp [State.reader]
@[simp] theorem State.withLineRecord_lineRecord (s : State) (v : Vault) (l : Line) (q : Qualification Reading) : (s.withLineRecord v l q).lineRecord v l = q := by
  simp [State.lineRecord]

end Sys2Proof.Machine
end

