-- ==== Sys2Proof/Laws/Frame.lean ====
section
/-!
SUPPORT. What every operation of the blocks leaves alone: the array, the phase and scan position, the recorded reset kind, the supply
level, the count of free values and the queue of waiting commands. Only a programming attempt, a supply event, a reset or a
read of the scan touches one of these, and each of those has its own lemma in Laws/Store.lean or Laws/Steps.lean.
-/

namespace Sys2Proof.Machine

set_option linter.unusedSimpArgs false
set_option linter.unusedTactic false
set_option linter.unreachableTactic false

/-- The fields that no event of a tick, no request and no reader changes. -/
def State.fixed (s : State) : NvArray × Phase × Nat × ResetKind × SupplyLevel × Nat × List Instr :=
  (s.array, s.phase, s.scanPos, s.resetKind, s.supply, s.freeCount, s.pending)

/-- A fold of changes that keep these fields keeps them. -/
theorem foldl_fixed {α : Type} (f : State → α → State) (h : ∀ s a, (f s a).fixed = s.fixed) (l : List α) (s : State) :
    (l.foldl f s).fixed = s.fixed := by
  induction l generalizing s with
  | nil => rfl
  | cons a l ih => simp only [List.foldl_cons, ih, h]

/-- A change at every vault that keeps these fields keeps them. -/
theorem eachVault_fixed (f : Vault → State → State) (h : ∀ v s, (f v s).fixed = s.fixed) (s : State) :
    (eachVault f s).fixed = s.fixed :=
  foldl_fixed _ (fun s v => h v s) _ s

@[simp] theorem State.withDoor_fixed (s : State) (v : Vault) (d : DoorRecord) : (s.withDoor v d).fixed = s.fixed := rfl
@[simp] theorem State.withSequencer_fixed (s : State) (v : Vault) (q : SsqRecord) : (s.withSequencer v q).fixed = s.fixed := rfl
@[simp] theorem State.withOccupancy_fixed (s : State) (v : Vault) (o : VaultOccupancy) : (s.withOccupancy v o).fixed = s.fixed := rfl
@[simp] theorem State.withClaimSet_fixed (s : State) (v : Vault) (c : ClaimSet) : (s.withClaimSet v c).fixed = s.fixed := rfl
@[simp] theorem State.withPair_fixed (s : State) (v : Vault) (p : Option PendingPair) : (s.withPair v p).fixed = s.fixed := rfl
@[simp] theorem State.withGroup_fixed (s : State) (v : Vault) (g : VaultGroup) : (s.withGroup v g).fixed = s.fixed := rfl
@[simp] theorem State.withSite_fixed (s : State) (g : SiteGroup) : (s.withSite g).fixed = s.fixed := rfl
@[simp] theorem State.withStaged_fixed (s : State) (v : Vault) (p : SuppressionSet) : (s.withStaged v p).fixed = s.fixed := rfl
@[simp] theorem State.withLines_fixed (s : State) (v : Vault) (l : VaultLines) : (s.withLines v l).fixed = s.fixed := rfl
@[simp] theorem State.withLineRecord_fixed (s : State) (v : Vault) (l : Line) (q : Qualification Reading) : (s.withLineRecord v l q).fixed = s.fixed := rfl
@[simp] theorem State.withRelease_fixed (s : State) (v : Vault) (q : Qualification Circuit) : (s.withRelease v q).fixed = s.fixed := rfl
@[simp] theorem State.withAtu_fixed (s : State) (a : Atu) : (s.withAtu a).fixed = s.fixed := rfl
@[simp] theorem State.withLink_fixed (s : State) (l : Link) : (s.withLink l).fixed = s.fixed := rfl
@[simp] theorem State.withNva_fixed (s : State) (n : Nva) : (s.withNva n).fixed = s.fixed := rfl
@[simp] theorem State.withReaders_fixed (s : State) (v : Vault) (r : VaultReaders) : (s.withReaders v r).fixed = s.fixed := rfl
@[simp] theorem State.withReader_fixed (s : State) (a : ReaderAddress) (r : ReaderRecord) : (s.withReader a r).fixed = s.fixed := rfl
@[simp] theorem State.withLqu_fixed (s : State) (l : Lqu) : (s.withLqu l).fixed = s.fixed := rfl
@[simp] theorem State.withCal_fixed (s : State) (c : Cal) : (s.withCal c).fixed = s.fixed := rfl
@[simp] theorem State.withIndex_fixed (s : State) (i : List (Nat × Nat)) : (s.withIndex i).fixed = s.fixed := rfl
@[simp] theorem State.withFailures_fixed (s : State) (f : List FailureEntry) : (s.withFailures f).fixed = s.fixed := rfl
@[simp] theorem State.withReaderLine_fixed (s : State) (r : ReaderLine) : (s.withReaderLine r).fixed = s.fixed := rfl
@[simp] theorem State.withWaiting_fixed (s : State) (c : Causes) : (s.withWaiting c).fixed = s.fixed := rfl



@[simp] theorem causeAlarms_fixed (s : State) : (causeAlarms s).fixed = s.fixed := by
  rfl

@[simp] theorem causeOccupancy_fixed (s : State) : (causeOccupancy s).fixed = s.fixed := by
  rfl

@[simp] theorem causeSuppression_fixed (s : State) : (causeSuppression s).fixed = s.fixed := by
  rfl

@[simp] theorem causeDoors_fixed (s : State) : (causeDoors s).fixed = s.fixed := by
  rfl

@[simp] theorem causeStore_fixed (s : State) : (causeStore s).fixed = s.fixed := by
  rfl

@[simp] theorem causeMode_fixed (s : State) : (causeMode s).fixed = s.fixed := by
  rfl

@[simp] theorem causeVerdict_fixed (s : State) : (causeVerdict s).fixed = s.fixed := by
  rfl

@[simp] theorem causeClock_fixed (s : State) : (causeClock s).fixed = s.fixed := by
  rfl

@[simp] theorem claim_fixed (v : Vault) (f : ClaimSet → ClaimSet) (s : State) : (claim v f s).fixed = s.fixed := by
  unfold claim
  split <;> rfl

@[simp] theorem claimForced_fixed (v : Vault) (d : Door) (b : Bool) (s : State) :
    (claimForced v d b s).fixed = s.fixed := by
  simp [claimForced]

@[simp] theorem claimHeld_fixed (v : Vault) (d : Door) (b : Bool) (s : State) :
    (claimHeld v d b s).fixed = s.fixed := by
  simp [claimHeld]

@[simp] theorem claimChirp_fixed (v : Vault) (b : Bool) (s : State) : (claimChirp v b s).fixed = s.fixed := by
  simp [claimChirp]

@[simp] theorem claimSiteEvacuate_fixed (v : Vault) (b : Bool) (s : State) :
    (claimSiteEvacuate v b s).fixed = s.fixed := by
  simp [claimSiteEvacuate]

@[simp] theorem claimSsq_fixed (v : Vault) (k : Option ClaimKind) (s : State) : (claimSsq v k s).fixed = s.fixed := by
  simp [claimSsq]

@[simp] theorem claimTest_fixed (v : Vault) (t : TestClaim) (s : State) : (claimTest v t s).fixed = s.fixed := by
  unfold claimTest
  dsimp only
  split <;> simp

@[simp] theorem endTest_fixed (v : Vault) (s : State) : (endTest v s).fixed = s.fixed := by
  simp [endTest]

@[simp] theorem raise_fixed (key : AlarmKey) (s : State) : (raise key s).1.fixed = s.fixed := by
  unfold raise
  dsimp only
  (repeat' split) <;> first | rfl | simp

@[simp] theorem raised_fixed (key : AlarmKey) (s : State) : (raised key s).fixed = s.fixed := by
  simp [raised]

@[simp] theorem retireRecord_fixed (id : Nat) (s : State) : (retireRecord id s).fixed = s.fixed := by
  rfl

@[simp] theorem endCondition_fixed (key : AlarmKey) (s : State) : (endCondition key s).fixed = s.fixed := by
  unfold endCondition
  (repeat' split) <;> first | rfl | simp

@[simp] theorem doorAcknowledged_fixed (key : AlarmKey) (s : State) : (doorAcknowledged key s).fixed = s.fixed := by
  unfold doorAcknowledged
  split <;> simp

@[simp] theorem acknowledgeRecord_fixed (r : AlarmRecord) (s : State) : (acknowledgeRecord r s).fixed = s.fixed := by
  unfold acknowledgeRecord
  split <;> simp

@[simp] theorem forget_fixed (number : Nat) (s : State) : (forget number s).fixed = s.fixed := by
  rfl

@[simp] theorem recordFailure_fixed (number : Nat) (s : State) : (recordFailure number s).fixed = s.fixed := by
  unfold recordFailure
  (repeat' split) <;> first | rfl | simp

@[simp] theorem ageFailures_fixed (s : State) : (ageFailures s).fixed = s.fixed := by
  rfl

@[simp] theorem startAttempt_fixed (s : State) : (startAttempt s).fixed = s.fixed := by
  unfold startAttempt
  (repeat' split) <;> first | rfl | simp

@[simp] theorem place_fixed (i : Image) (s : State) : (place i s).fixed = s.fixed := by
  unfold place
  split <;> simp

@[simp] theorem placeConfig_fixed (s : State) : (placeConfig s).fixed = s.fixed := by
  simp [placeConfig]

@[simp] theorem placeOrOweConfig_fixed (s : State) : (placeOrOweConfig s).fixed = s.fixed := by
  unfold placeOrOweConfig
  split <;> simp

@[simp] theorem placeOwed_fixed (s : State) : (placeOwed s).fixed = s.fixed := by
  unfold placeOwed
  split <;> simp

@[simp] theorem damage_fixed (t : Target) (number : Option Nat) (s : State) : (damage t number s).fixed = s.fixed := by
  unfold damage
  (repeat' split) <;> first | rfl | simp

@[simp] theorem entryLeft_fixed (s : State) : (entryLeft s).fixed = s.fixed := by
  unfold entryLeft
  dsimp only
  split <;> simp

@[simp] theorem eraseNext_fixed (e : ErasePass) (s : State) : (eraseNext e s).fixed = s.fixed := by
  unfold eraseNext
  split <;> simp

@[simp] theorem eraseCompleted_fixed (e : ErasePass) (good : Bool) (s : State) :
    (eraseCompleted e good s).fixed = s.fixed := by
  simp [eraseCompleted, apply_ite State.fixed]

@[simp] theorem queueCompleted_fixed (good : Bool) (s : State) : (queueCompleted good s).fixed = s.fixed := by
  unfold queueCompleted
  (repeat' split) <;> first | rfl | simp

@[simp] theorem deviceChange_fixed (slot : Nat) (f : CredRecord → CredRecord) (s : State) :
    (deviceChange slot f s).1.fixed = s.fixed := by
  unfold deviceChange
  (repeat' split) <;> first | rfl | simp

@[simp] theorem decrementUses_fixed (number : Nat) (s : State) : (decrementUses number s).fixed = s.fixed := by
  unfold decrementUses
  (repeat' split) <;> first | rfl | simp

@[simp] theorem suspendLockedOut_fixed (number : Nat) (s : State) : (suspendLockedOut number s).fixed = s.fixed := by
  unfold suspendLockedOut
  dsimp only
  (repeat' split) <;> first | rfl | simp

@[simp] theorem referenceLost_fixed (s : State) : (referenceLost s).fixed = s.fixed := by
  simp [referenceLost, apply_ite State.fixed]
  rfl

@[simp] theorem referenceReturned_fixed (s : State) : (referenceReturned s).fixed = s.fixed := by
  simp [referenceReturned, apply_ite State.fixed]
  rfl

@[simp] theorem handVerdict_fixed (a : ReaderAddress) (verdict : Verdict) (number : Option Nat) (s : State) :
    (handVerdict a verdict number s).fixed = s.fixed := by
  unfold handVerdict
  split <;> simp

@[simp] theorem readerMiss_fixed (a : ReaderAddress) (s : State) : (readerMiss a s).fixed = s.fixed := by
  simp [readerMiss, apply_ite State.fixed]

@[simp] theorem goodReply_fixed (a : ReaderAddress) (tamper : Bool) (s : State) :
    (goodReply a tamper s).fixed = s.fixed := by
  unfold goodReply
  dsimp only
  (repeat' split) <;> first | rfl | simp

@[simp] theorem disableReaders_fixed (v : Vault) (s : State) : (disableReaders v s).fixed = s.fixed := by
  simp [disableReaders]

@[simp] theorem addOccupants_fixed (v : Vault) (adds : List EnteringEntry) (time : Instant) (s : State) :
    (addOccupants v adds time s).fixed = s.fixed := by
  rfl

@[simp] theorem endOccupant_fixed (v : Vault) (e : Occupant) (s : State) : (endOccupant v e s).fixed = s.fixed := by
  simp [endOccupant, apply_ite State.fixed]

@[simp] theorem setCertain_fixed (v : Vault) (b : Bool) (s : State) : (setCertain v b s).fixed = s.fixed := by
  rfl

@[simp] theorem settleLink_fixed (v : Vault) (fresh : List Nat) (s : State) (e : Occupant) :
    (settleLink v fresh s e).fixed = s.fixed := by
  unfold settleLink
  dsimp only
  (repeat' split) <;> simp

@[simp] theorem settleLinks_fixed (v : Vault) (fresh : List Nat) (s : State) :
    (settleLinks v fresh s).fixed = s.fixed := by
  simp [settleLinks, foldl_fixed]

@[simp] theorem settleLone_fixed (v : Vault) (s : State) : (settleLone v s).fixed = s.fixed := by
  simp [settleLone, apply_ite State.fixed, foldl_fixed, eachVault_fixed]

@[simp] theorem checkIn_fixed (v : Vault) (number : Option Nat) (s : State) :
    (checkIn v number s).fixed = s.fixed := by
  unfold checkIn
  dsimp only
  (repeat' split) <;> first | rfl | simp

@[simp] theorem loneExpired_fixed (v : Vault) (s : State) : (loneExpired v s).fixed = s.fixed := by
  unfold loneExpired
  dsimp only
  split <;> simp

@[simp] theorem clearOccupants_fixed (v : Vault) (s : State) : (clearOccupants v s).fixed = s.fixed := by
  simp [clearOccupants, foldl_fixed]

@[simp] theorem putDoor_fixed (v : Vault) (d : DoorRecord) (s : State) : (putDoor v d s).fixed = s.fixed := by
  unfold putDoor
  split <;> simp

@[simp] theorem raiseForced_fixed (v : Vault) (which : Door) (s : State) :
    (raiseForced v which s).fixed = s.fixed := by
  unfold raiseForced
  dsimp only
  split <;> simp

@[simp] theorem raiseHeld_fixed (v : Vault) (which : Door) (s : State) : (raiseHeld v which s).fixed = s.fixed := by
  unfold raiseHeld
  dsimp only
  split <;> simp

@[simp] theorem raiseFault_fixed (v : Vault) (drive : Drive) (s : State) : (raiseFault v drive s).fixed = s.fixed := by
  simp [raiseFault]

@[simp] theorem endForced_fixed (v : Vault) (which : Door) (s : State) : (endForced v which s).fixed = s.fixed := by
  unfold endForced
  split <;> simp

@[simp] theorem endHeld_fixed (v : Vault) (which : Door) (s : State) : (endHeld v which s).fixed = s.fixed := by
  unfold endHeld
  split <;> simp

@[simp] theorem endFaults_fixed (v : Vault) (s : State) : (endFaults v s).fixed = s.fixed := by
  simp [endFaults, apply_ite State.fixed]

@[simp] theorem setOuter_fixed (v : Vault) (o : OuterState) (s : State) : (setOuter v o s).fixed = s.fixed := by
  unfold setOuter
  split <;> simp

@[simp] theorem withdrawOuter_fixed (v : Vault) (s : State) : (withdrawOuter v s).fixed = s.fixed := by
  unfold withdrawOuter
  dsimp only
  (repeat' split) <;> first | rfl | simp

@[simp] theorem setVaultState_fixed (v : Vault) (st : VaultState) (s : State) :
    (setVaultState v st s).fixed = s.fixed := by
  simp [setVaultState, apply_ite State.fixed]

@[simp] theorem startRetract_fixed (v : Vault) (s : State) : (startRetract v s).fixed = s.fixed := by
  unfold startRetract
  dsimp only
  split <;> simp

@[simp] theorem startExtend_fixed (v : Vault) (s : State) : (startExtend v s).fixed = s.fixed := by
  unfold startExtend
  dsimp only
  split <;> simp

@[simp] theorem startEmergencyDrive_fixed (v : Vault) (s : State) : (startEmergencyDrive v s).fixed = s.fixed := by
  rfl

@[simp] theorem restartEmergencyDrive_fixed (v : Vault) (s : State) : (restartEmergencyDrive v s).fixed = s.fixed := by
  unfold restartEmergencyDrive
  split <;> simp

@[simp] theorem freeVaultDoor_fixed (v : Vault) (s : State) : (freeVaultDoor v s).fixed = s.fixed := by
  unfold freeVaultDoor
  split <;> simp

@[simp] theorem recordGrant_fixed (v : Vault) (g : VaultGrant) (s : State) : (recordGrant v g s).fixed = s.fixed := by
  simp [recordGrant]

@[simp] theorem recordOuterGrant_fixed (v : Vault) (o : OuterOrigin) (s : State) :
    (recordOuterGrant v o s).fixed = s.fixed := by
  simp [recordOuterGrant]

@[simp] theorem outerEgressPress_fixed (v : Vault) (s : State) : (outerEgressPress v s).fixed = s.fixed := by
  unfold outerEgressPress
  split <;> simp

@[simp] theorem vaultEgressPress_fixed (v : Vault) (s : State) : (vaultEgressPress v s).fixed = s.fixed := by
  simp [vaultEgressPress, apply_ite State.fixed]

@[simp] theorem secureWhereFree_fixed (v : Vault) (s : State) : (secureWhereFree v s).fixed = s.fixed := by
  unfold secureWhereFree
  dsimp only
  (repeat' split) <;> first | rfl | simp

@[simp] theorem discardGrant_fixed (v : Vault) (s : State) : (discardGrant v s).fixed = s.fixed := by
  simp [discardGrant]

@[simp] theorem discardEgress_fixed (v : Vault) (s : State) : (discardEgress v s).fixed = s.fixed := by
  simp [discardEgress]

@[simp] theorem outerLapsed_fixed (v : Vault) (s : State) : (outerLapsed v s).fixed = s.fixed := by
  unfold outerLapsed
  dsimp only
  split <;> simp

@[simp] theorem trimEntering_fixed (v : Vault) (keep : EnteringEntry → Bool) (s : State) :
    (trimEntering v keep s).fixed = s.fixed := by
  unfold trimEntering
  dsimp only
  (repeat' split) <;> first | rfl | simp

@[simp] theorem cancelEntry_fixed (v : Vault) (s : State) : (cancelEntry v s).fixed = s.fixed := by
  simp [cancelEntry]

@[simp] theorem outerOpened_fixed (v : Vault) (first : Bool) (s : State) :
    (outerOpened v first s).fixed = s.fixed := by
  unfold outerOpened
  (repeat' split) <;> first | rfl | simp

@[simp] theorem outerClosed_fixed (v : Vault) (s : State) : (outerClosed v s).fixed = s.fixed := by
  unfold outerClosed
  split <;> simp

@[simp] theorem vaultClosed_fixed (v : Vault) (s : State) : (vaultClosed v s).fixed = s.fixed := by
  unfold vaultClosed
  dsimp only
  (repeat' split) <;> first | rfl | simp

@[simp] theorem enterOpen_fixed (v : Vault) (s : State) : (enterOpen v s).fixed = s.fixed := by
  simp [enterOpen]

@[simp] theorem boltsWithdrawnActive_fixed (v : Vault) (s : State) : (boltsWithdrawnActive v s).fixed = s.fixed := by
  unfold boltsWithdrawnActive
  (repeat' split) <;> first | rfl | simp

@[simp] theorem boltsThrownActive_fixed (v : Vault) (s : State) : (boltsThrownActive v s).fixed = s.fixed := by
  unfold boltsThrownActive
  (repeat' split) <;> first | rfl | simp

@[simp] theorem boltsThrownLost_fixed (v : Vault) (s : State) : (boltsThrownLost v s).fixed = s.fixed := by
  unfold boltsThrownLost
  split <;> simp

@[simp] theorem travelExpired_fixed (v : Vault) (s : State) : (travelExpired v s).fixed = s.fixed := by
  unfold travelExpired
  dsimp only
  split <;> simp

@[simp] theorem relockExpired_fixed (v : Vault) (s : State) : (relockExpired v s).fixed = s.fixed := by
  unfold relockExpired
  dsimp only
  split <;> simp

@[simp] theorem heldExpired_fixed (v : Vault) (which : Door) (s : State) :
    (heldExpired v which s).fixed = s.fixed := by
  simp [heldExpired]

@[simp] theorem emergencyStart_fixed (v : Vault) (s : State) : (emergencyStart v s).fixed = s.fixed := by
  simp [emergencyStart]

@[simp] theorem emergencyEnd_fixed (v : Vault) (s : State) : (emergencyEnd v s).1.fixed = s.fixed := by
  unfold emergencyEnd
  dsimp only
  (repeat' split) <;> first | rfl | simp

@[simp] theorem beginDoors_fixed (v : Vault) (s : State) : (beginDoors v s).fixed = s.fixed := by
  unfold beginDoors
  split <;> simp

@[simp] theorem disableDoors_fixed (v : Vault) (s : State) : (disableDoors v s).fixed = s.fixed := by
  simp [disableDoors]

@[simp] theorem lapsePair_fixed (v : Vault) (s : State) : (lapsePair v s).fixed = s.fixed := by
  unfold lapsePair
  split <;> simp

@[simp] theorem alertsAtChange_fixed (v : Vault) (old new : SsqState) (s : State) :
    (alertsAtChange v old new s).fixed = s.fixed := by
  simp [alertsAtChange, apply_ite State.fixed]

@[simp] theorem neighboursAtChange_fixed (v : Vault) (old new : SsqState) (s : State) :
    (neighboursAtChange v old new s).fixed = s.fixed := by
  unfold neighboursAtChange
  split <;> simp

@[simp] theorem inhibitedAtChange_fixed (v : Vault) (old new : SsqState) (s : State) :
    (inhibitedAtChange v old new s).1.fixed = s.fixed := by
  unfold inhibitedAtChange
  dsimp only
  (repeat' split) <;> first | rfl | simp

@[simp] theorem changeState_fixed (v : Vault) (q : SsqRecord) (s : State) : (changeState v q s).1.fixed = s.fixed := by
  simp [changeState]

@[simp] theorem enter_fixed (v : Vault) (q : SsqRecord) (s : State) : (enter v q s).fixed = s.fixed := by
  simp [enter]

@[simp] theorem enterReleasing_fixed (v : Vault) (s : State) : (enterReleasing v s).fixed = s.fixed := by
  simp [enterReleasing]

@[simp] theorem expireCountdown_fixed (v : Vault) (s : State) : (expireCountdown v s).fixed = s.fixed := by
  unfold expireCountdown
  split <;> simp

@[simp] theorem resumeCountdown_fixed (v : Vault) (s : State) : (resumeCountdown v s).fixed = s.fixed := by
  unfold resumeCountdown
  dsimp only
  split <;> simp

@[simp] theorem recheckHolds_fixed (v : Vault) (s : State) : (recheckHolds v s).fixed = s.fixed := by
  unfold recheckHolds
  dsimp only
  (repeat' split) <;> first | rfl | simp

@[simp] theorem setEgress_fixed (v : Vault) (e : EgressCondition) (s : State) : (setEgress v e s).fixed = s.fixed := by
  simp [setEgress]

@[simp] theorem egressPressed_fixed (v : Vault) (s : State) : (egressPressed v s).fixed = s.fixed := by
  unfold egressPressed
  split <;> simp

@[simp] theorem egressConsumed_fixed (v : Vault) (s : State) : (egressConsumed v s).fixed = s.fixed := by
  unfold egressConsumed
  split <;> simp

@[simp] theorem egressUnopened_fixed (v : Vault) (s : State) : (egressUnopened v s).fixed = s.fixed := by
  unfold egressUnopened
  split <;> simp

@[simp] theorem contactLeft_fixed (v : Vault) (s : State) : (contactLeft v s).fixed = s.fixed := by
  simp [contactLeft, apply_ite State.fixed]

@[simp] theorem moveTo_fixed (v : Vault) (q : SsqRecord) (s : State) : (moveTo v q s).fixed = s.fixed := by
  unfold moveTo
  dsimp only
  split <;> simp

@[simp] theorem commit_fixed (v : Vault) (s : State) : (commit v s).fixed = s.fixed := by
  rfl

@[simp] theorem beginCountdown_fixed (v : Vault) (path : Path) (s : State) :
    (beginCountdown v path s).fixed = s.fixed := by
  simp [beginCountdown]

@[simp] theorem inhibit_fixed (v : Vault) (s : State) : (inhibit v s).fixed = s.fixed := by
  simp [inhibit]

@[simp] theorem confirmFire_fixed (v : Vault) (s : State) : (confirmFire v s).fixed = s.fixed := by
  simp [confirmFire, apply_ite State.fixed]

@[simp] theorem enterAlert_fixed (v : Vault) (s : State) : (enterAlert v s).fixed = s.fixed := by
  simp [enterAlert]

@[simp] theorem judgeDetectors_fixed (v : Vault) (s : State) : (judgeDetectors v s).fixed = s.fixed := by
  simp [judgeDetectors, apply_ite State.fixed]

@[simp] theorem detectorTaken_fixed (v : Vault) (active : Bool) (s : State) :
    (detectorTaken v active s).fixed = s.fixed := by
  unfold detectorTaken
  (repeat' split) <;> first | rfl | simp

@[simp] theorem occupancyReported_fixed (v : Vault) (s : State) : (occupancyReported v s).fixed = s.fixed := by
  unfold occupancyReported
  dsimp only
  (repeat' split) <;> first | rfl | simp

@[simp] theorem manualRelease_fixed (v : Vault) (s : State) : (manualRelease v s).fixed = s.fixed := by
  unfold manualRelease
  dsimp only
  (repeat' split) <;> first | rfl | simp

@[simp] theorem abortTaken_fixed (v : Vault) (state : Reading) (s : State) :
    (abortTaken v state s).fixed = s.fixed := by
  unfold abortTaken
  dsimp only
  (repeat' split) <;> first | rfl | simp

@[simp] theorem abortLapsed_fixed (v : Vault) (s : State) : (abortLapsed v s).fixed = s.fixed := by
  simp [abortLapsed]

@[simp] theorem enterDischarged_fixed (v : Vault) (d : DischargeDetail) (s : State) :
    (enterDischarged v d s).fixed = s.fixed := by
  simp [enterDischarged]

@[simp] theorem pulseEnded_fixed (v : Vault) (s : State) : (pulseEnded v s).fixed = s.fixed := by
  unfold pulseEnded
  dsimp only
  split <;> simp

@[simp] theorem dischargeActive_fixed (v : Vault) (s : State) : (dischargeActive v s).fixed = s.fixed := by
  unfold dischargeActive
  split <;> simp

@[simp] theorem isolate_fixed (v : Vault) (s : State) : (isolate v s).fixed = s.fixed := by
  unfold isolate
  split <;> simp

@[simp] theorem returnToQuiet_fixed (v : Vault) (s : State) : (returnToQuiet v s).fixed = s.fixed := by
  simp [returnToQuiet]

@[simp] theorem deisolate_fixed (v : Vault) (s : State) : (deisolate v s).fixed = s.fixed := by
  unfold deisolate
  split <;> simp

@[simp] theorem resetDischarged_fixed (v : Vault) (s : State) : (resetDischarged v s).fixed = s.fixed := by
  unfold resetDischarged
  dsimp only
  (repeat' split) <;> first | rfl | simp

@[simp] theorem disableSequencer_fixed (v : Vault) (s : State) : (disableSequencer v s).fixed = s.fixed := by
  unfold disableSequencer
  dsimp only
  (repeat' split) <;> first | rfl | simp

@[simp] theorem enableSequencer_fixed (v : Vault) (s : State) : (enableSequencer v s).fixed = s.fixed := by
  rfl

@[simp] theorem reporting_fixed (v : Vault) (f : State → State) (s : State) (h : ∀ s, (f s).fixed = s.fixed) :
    (reporting v f s).fixed = s.fixed := by
  unfold reporting
  simp [apply_ite State.fixed, h]

@[simp] theorem settleRegister_fixed (v : Vault) (fresh : List Nat) (s : State) :
    (settleRegister v fresh s).fixed = s.fixed := by
  simp [settleRegister]

@[simp] theorem removeOccupant_fixed (v : Vault) (s : State) (number : Nat) :
    (removeOccupant v s number).fixed = s.fixed := by
  unfold removeOccupant
  split <;> simp

@[simp] theorem applyGrant_fixed (v : Vault) (g : VaultGrant) (time : Instant) (s : State) :
    (applyGrant v g time s).fixed = s.fixed := by
  simp [applyGrant, foldl_fixed]

@[simp] theorem consumeGrant_fixed (v : Vault) (g : VaultGrant) (egress : Bool) (time : Instant) (s : State) :
    (consumeGrant v g egress time s).fixed = s.fixed := by
  simp [consumeGrant, apply_ite State.fixed]

@[simp] theorem consumeEgress_fixed (v : Vault) (s : State) : (consumeEgress v s).fixed = s.fixed := by
  unfold consumeEgress
  split <;> simp

@[simp] theorem openConsuming_fixed (v : Vault) (time : Instant) (s : State) :
    (openConsuming v time s).fixed = s.fixed := by
  unfold openConsuming
  apply reporting_fixed
  intro s
  dsimp only
  (repeat' split) <;> simp

@[simp] theorem openForced_fixed (v : Vault) (first : Bool) (s : State) : (openForced v first s).fixed = s.fixed := by
  unfold openForced
  apply reporting_fixed
  intro s
  dsimp only
  split <;> simp

@[simp] theorem openEmergency_fixed (v : Vault) (time : Instant) (s : State) :
    (openEmergency v time s).fixed = s.fixed := by
  unfold openEmergency
  apply reporting_fixed
  intro s
  dsimp only
  split <;> simp

@[simp] theorem vaultOpened_fixed (v : Vault) (first : Bool) (time : Instant) (s : State) :
    (vaultOpened v first time s).fixed = s.fixed := by
  unfold vaultOpened
  (repeat' split) <;> first | rfl | simp

@[simp] theorem handExitGrant_fixed (v : Vault) (exiting : List Nat) (s : State) :
    (handExitGrant v exiting s).fixed = s.fixed := by
  unfold handExitGrant
  dsimp only
  split
  · rw [causeDoors_fixed, reporting_fixed]
    simp
  · simp

@[simp] theorem egressLapsed_fixed (v : Vault) (s : State) : (egressLapsed v s).fixed = s.fixed := by
  simp [egressLapsed]

@[simp] theorem releaseEnds_fixed (v : Vault) (s : State) : (releaseEnds v s).fixed = s.fixed := by
  simp [releaseEnds, apply_ite State.fixed]

@[simp] theorem latchVault_fixed (v : Vault) (s : State) : (latchVault v s).fixed = s.fixed := by
  simp [latchVault, apply_ite State.fixed]

@[simp] theorem evacuationCompleted_fixed (s : State) : (evacuationCompleted s).fixed = s.fixed := by
  simp [evacuationCompleted, apply_ite State.fixed, foldl_fixed, eachVault_fixed]

@[simp] theorem latchEnds_fixed (s : State) : (latchEnds s).fixed = s.fixed := by
  simp [latchEnds, eachVault_fixed]

@[simp] theorem lockdownVault_fixed (v : Vault) (s : State) : (lockdownVault v s).fixed = s.fixed := by
  simp [lockdownVault]

@[simp] theorem setMode_fixed (mode : Mode) (auto : Bool) (s : State) : (setMode mode auto s).fixed = s.fixed := by
  unfold setMode
  dsimp only
  (repeat' split) <;> simp [eachVault_fixed] <;> rfl

@[simp] theorem evaluateMode_fixed (s : State) : (evaluateMode s).fixed = s.fixed := by
  unfold evaluateMode
  split <;> simp

@[simp] theorem repeatLockouts_fixed (s : State) : (repeatLockouts s).fixed = s.fixed := by
  simp [repeatLockouts, foldl_fixed]

@[simp] theorem minuteEvent_fixed (s : State) : (minuteEvent s).fixed = s.fixed := by
  unfold minuteEvent
  dsimp only
  split <;> simp

@[simp] theorem checkEntry_fixed (v : Vault) (number : Nat) (digits : List Nat) (except : Option Vault) (s : State) :
    (checkEntry v number digits except s).1.fixed = s.fixed := by
  unfold checkEntry
  dsimp only
  (repeat' split) <;> first | rfl | simp

theorem checkEntry_fixed_of_eq {v : Vault} {number : Nat} {digits : List Nat} {except : Option Vault} {s t : State}
    {r : Except Verdict (Nat × CredRecord × Bool)} (h : checkEntry v number digits except s = (t, r)) :
    t.fixed = s.fixed := by
  have := checkEntry_fixed v number digits except s
  rwa [h] at this

@[simp] theorem presentOuter_fixed (v : Vault) (number : Nat) (digits : List Nat) (s : State) :
    (presentOuter v number digits s).1.fixed = s.fixed := by
  unfold presentOuter
  split
  · next h => exact checkEntry_fixed_of_eq h
  · next h => (repeat' split) <;> simp [checkEntry_fixed_of_eq h]

@[simp] theorem admit_fixed (v : Vault) (set : List EnteringEntry) (pair : Bool) (s : State) :
    (admitSet v set pair s).1.fixed = s.fixed := by
  unfold admitSet
  (repeat' split) <;> first | rfl | (simp [apply_ite State.fixed, foldl_fixed, eachVault_fixed]; done) | (simp [apply_ite State.fixed]; rfl)

@[simp] theorem admitAlone_fixed (v : Vault) (number : Nat) (duress : Bool) (s : State) :
    (admitAlone v number duress s).1.fixed = s.fixed := by
  simp [admitAlone]

@[simp] theorem formPair_fixed (v : Vault) (number : Nat) (duress : Bool) (s : State) :
    (formPair v number duress s).fixed = s.fixed := by
  rfl

@[simp] theorem decideAlone_fixed (v : Vault) (number : Nat) (duress : Bool) (s : State) :
    (decideAlone v number duress s).1.fixed = s.fixed := by
  unfold decideAlone
  (repeat' split) <;> first | rfl | simp

@[simp] theorem meetPair_fixed (v : Vault) (p : PendingPair) (number : Nat) (duress : Bool) (s : State) :
    (meetPair v p number duress s).1.fixed = s.fixed := by
  unfold meetPair
  (repeat' split) <;> first | rfl | simp

@[simp] theorem firstAgain_fixed (v : Vault) (p : PendingPair) (duress : Bool) (s : State) :
    (firstAgain v p duress s).1.fixed = s.fixed := by
  unfold firstAgain
  split <;> simp

@[simp] theorem presentInner_fixed (v : Vault) (number : Nat) (digits : List Nat) (s : State) :
    (presentInner v number digits s).1.fixed = s.fixed := by
  unfold presentInner
  split
  · next h => exact checkEntry_fixed_of_eq h
  · next h =>
    dsimp only
    (repeat' split) <;> simp [checkEntry_fixed_of_eq h]

@[simp] theorem presentCheckIn_fixed (v : Vault) (number : Nat) (s : State) :
    (presentCheckIn v number s).1.fixed = s.fixed := by
  unfold presentCheckIn
  split <;> simp

@[simp] theorem appendExit_fixed (v : Vault) (g : VaultGrant) (number : Nat) (s : State) :
    (appendExit v g number s).fixed = s.fixed := by
  simp [appendExit, apply_ite State.fixed]

@[simp] theorem presentExit_fixed (v : Vault) (number : Nat) (s : State) :
    (presentExit v number s).1.fixed = s.fixed := by
  unfold presentExit
  split <;> simp

@[simp] theorem decidePresentation_fixed (a : ReaderAddress) (number : Nat) (purpose : Purpose) (digits : List Nat) (s : State) :
    (decidePresentation a number purpose digits s).1.fixed = s.fixed := by
  unfold decidePresentation
  (repeat' split) <;> first | rfl | simp

@[simp] theorem present_fixed (a : ReaderAddress) (number : Nat) (purpose : Purpose) (digits : List Nat) (s : State) :
    (present a number purpose digits s).fixed = s.fixed := by
  unfold present
  dsimp only
  split <;> simp

@[simp] theorem sampleLines_fixed (r : Readings) (s : State) : (sampleLines r s).fixed = s.fixed := by
  unfold sampleLines
  refine Eq.trans rfl (eachVault_fixed _ (fun v s => ?_) s)
  split <;> rfl

@[simp] theorem lineFault_fixed (id : LineIdentity) (new : Reading) (s : State) :
    (lineFault id new s).fixed = s.fixed := by
  unfold lineFault
  split <;> simp

@[simp] theorem deliverLine_fixed (v : Vault) (l : Line) (old : Option Reading) (new : Reading) (time : Instant) (s : State) :
    (deliverLine v l old new time s).fixed = s.fixed := by
  unfold deliverLine
  dsimp only
  (repeat' split) <;> first | rfl | simp

@[simp] theorem takeLine_fixed (v : Vault) (l : Line) (s : State) : (takeLine v l s).fixed = s.fixed := by
  unfold takeLine
  dsimp only
  (repeat' split) <;> first | rfl | simp

@[simp] theorem takeRelease_fixed (v : Vault) (s : State) : (takeRelease v s).fixed = s.fixed := by
  unfold takeRelease
  dsimp only
  (repeat' split) <;> first | rfl | simp

@[simp] theorem recheckAllHolds_fixed (s : State) : (recheckAllHolds s).fixed = s.fixed := by
  simp [recheckAllHolds, eachVault_fixed]

@[simp] theorem judgeHoldAll_fixed (s : State) : (judgeHoldAll s).fixed = s.fixed := by
  unfold judgeHoldAll
  dsimp only
  split <;> simp

@[simp] theorem judgeCombination_fixed (s : State) : (judgeCombination s).fixed = s.fixed := by
  unfold judgeCombination
  dsimp only
  split <;> simp

@[simp] theorem takeSiteLine_fixed (i : SiteLine) (s : State) : (takeSiteLine i s).fixed = s.fixed := by
  unfold takeSiteLine
  dsimp only
  (repeat' split) <;> first | rfl | simp

@[simp] theorem tickCombination_fixed (s : State) : (tickCombination s).fixed = s.fixed := by
  unfold tickCombination
  (repeat' split) <;> first | rfl | simp

@[simp] theorem completeCombination_fixed (s : State) : (completeCombination s).fixed = s.fixed := by
  simp [completeCombination]

@[simp] theorem roleFault_fixed (i : SiteLine) (old new : Role) (s : State) :
    (roleFault i old new s).fixed = s.fixed := by
  unfold roleFault
  (repeat' split) <;> first | rfl | simp

@[simp] theorem setRoles_fixed (roles : PerSite Role) (s : State) : (setRoles roles s).fixed = s.fixed := by
  simp [setRoles, apply_ite State.fixed, foldl_fixed, eachVault_fixed]

@[simp] theorem disableLines_fixed (v : Vault) (s : State) : (disableLines v s).fixed = s.fixed := by
  unfold disableLines
  rw [State.withLines_fixed, endCondition_fixed]
  exact foldl_fixed _ (fun s l => endCondition_fixed _ s) _ s

@[simp] theorem beginTransaction_fixed (s : State) : (beginTransaction s).fixed = s.fixed := by
  unfold beginTransaction
  split <;> simp

@[simp] theorem endTransaction_fixed (s : State) : (endTransaction s).fixed = s.fixed := by
  rfl

@[simp] theorem transactionMissed_fixed (s : State) : (transactionMissed s).fixed = s.fixed := by
  unfold transactionMissed
  split <;> simp

@[simp] theorem presentReply_fixed (a : ReaderAddress) (number : Nat) (purpose : Purpose) (digits : List Nat) (s : State) :
    (presentReply a number purpose digits s).fixed = s.fixed := by
  unfold presentReply
  dsimp only
  split <;> simp

@[simp] theorem takeReply_fixed (a : ReaderAddress) (bytes : List Byte) (s : State) :
    (takeReply a bytes s).fixed = s.fixed := by
  unfold takeReply
  split <;> simp

@[simp] theorem transactionReplied_fixed (bytes : List Byte) (s : State) :
    (transactionReplied bytes s).fixed = s.fixed := by
  unfold transactionReplied
  split <;> simp

@[simp] theorem disableOnLine_fixed (v : Vault) (s : State) : (disableOnLine v s).fixed = s.fixed := by
  rfl

@[simp] theorem enableOnLine_fixed (s : State) : (enableOnLine s).fixed = s.fixed := by
  unfold enableOnLine
  split <;> simp

@[simp] theorem disableVault_fixed (v : Vault) (s : State) : (disableVault v s).fixed = s.fixed := by
  unfold disableVault
  dsimp only
  split <;> simp

@[simp] theorem enableVault_fixed (v : Vault) (s : State) : (enableVault v s).fixed = s.fixed := by
  simp [enableVault, apply_ite State.fixed]

@[simp] theorem setEnabled_fixed (v : Vault) (b : Bool) (s : State) : (setEnabled v b s).fixed = s.fixed := by
  simp [setEnabled, apply_ite State.fixed]

@[simp] theorem applyVault_fixed (v : Vault) (g : VaultGroup) (s : State) : (applyVault v g s).fixed = s.fixed := by
  simp [applyVault, apply_ite State.fixed]

@[simp] theorem applySite_fixed (g : SiteGroup) (s : State) : (applySite g s).fixed = s.fixed := by
  simp [applySite]

theorem State.withCfg_fixed (s : State) (b : ConfigBlock) : State.fixed { s with cfg := b } = s.fixed := rfl

@[simp] theorem applyConfig_fixed (b : ConfigBlock) (s : State) : (applyConfig b s).fixed = s.fixed := by
  unfold applyConfig
  rw [State.withCfg_fixed, eachVault_fixed _ (fun v s => applyVault_fixed v _ s), applySite_fixed]
  rfl

@[simp] theorem chirp_fixed (v : Vault) (s : State) : (chirp v s).fixed = s.fixed := by
  simp [chirp]

@[simp] theorem escalate_fixed (id : Nat) (s : State) : (escalate id s).fixed = s.fixed := by
  rfl

@[simp] theorem perform_fixed (d : Due) (s : State) : (perform d s).fixed = s.fixed := by
  unfold perform
  split <;> simp

@[simp] theorem performDue_fixed (d : Due) (s : State) : (performDue d s).fixed = s.fixed := by
  unfold performDue
  split <;> simp

@[simp] theorem settle_fixed (s : State) : (settle s).fixed = s.fixed :=
  Eq.trans rfl (foldl_fixed _ (fun s d => performDue_fixed d s) s.due s)

@[simp] theorem takeDue_fixed (d : Due) (s : State) : (takeDue d s).fixed = s.fixed := by
  unfold takeDue
  (repeat' split) <;> first | rfl | (simp [apply_ite State.fixed, foldl_fixed, eachVault_fixed]; done) | (simp [apply_ite State.fixed]; rfl)

@[simp] theorem tickTimers_fixed (s : State) : (tickTimers s).fixed = s.fixed := by
  rfl

@[simp] theorem tickOnce_fixed (r : Readings) (s : State) : (tickOnce r s).fixed = s.fixed := by
  unfold tickOnce
  (repeat' split) <;> first | rfl | (simp [apply_ite State.fixed, foldl_fixed, eachVault_fixed]; done) | (simp [apply_ite State.fixed]; rfl)

@[simp] theorem ok_fixed (b : Body) (s : State) : (ok b s).1.fixed = s.fixed := by
  rfl

@[simp] theorem refuse_fixed (st : Status) (s : State) : (refuse st s).1.fixed = s.fixed := by
  rfl

@[simp] theorem refuseFor_fixed (v : Verdict) (s : State) : (refuseFor v s).1.fixed = s.fixed := by
  rfl

@[simp] theorem answerRequest_fixed (code : Nat) (f : Service) (s : State) (h : ∀ s, (f s).1.fixed = s.fixed) :
    (answerRequest code f s).1.fixed = s.fixed := by
  unfold answerRequest
  first
    | (simp [h]; done)
    | ((repeat' split) <;> simp [h])

@[simp] theorem holdResponse_fixed (code : Nat) (tag : Byte) (a : Answer) (s : State) :
    (holdResponse code tag a s).fixed = s.fixed := by
  rfl

theorem acceptRequest_fixed (code : Nat) (f : Service) (s : State) (h : ∀ s, (f s).1.fixed = s.fixed) :
    (acceptRequest code f s).fixed = s.fixed := by
  unfold acceptRequest
  dsimp only
  split
  · simp
  · simp [h]

@[simp] theorem changed_fixed (slot : Nat) (s : State) : (changed slot s).1.fixed = s.fixed := by
  simp [changed]

@[simp] theorem placeRecord_fixed (slot : Nat) (r : CredRecord) (s : State) :
    (placeRecord slot r s).fixed = s.fixed := by
  simp [placeRecord]

@[simp] theorem lookupCredential_fixed (number : Nat) (s : State) : (lookupCredential number s).1.fixed = s.fixed := by
  unfold lookupCredential
  simp only [onVault, onEnabled, onDoor, onRecord, onNumber, onSlot, onAlarm, refuse, refuseFor, ok]
  (repeat' split) <;> first | rfl | simp

@[simp] theorem readSlot_fixed (slot : Nat) (s : State) : (readSlot slot s).1.fixed = s.fixed := by
  unfold readSlot
  simp only [onVault, onEnabled, onDoor, onRecord, onNumber, onSlot, onAlarm, refuse, refuseFor, ok]
  (repeat' split) <;> first | rfl | simp

@[simp] theorem forgetSome_fixed (number : Option Nat) (s : State) : (forgetSome number s).fixed = s.fixed := by
  unfold forgetSome
  split <;> simp

@[simp] theorem writeCredential_fixed (w : CredentialWrite) (s : State) : (writeCredential w s).1.fixed = s.fixed := by
  unfold writeCredential
  simp only [onVault, onEnabled, onDoor, onRecord, onNumber, onSlot, onAlarm, refuse, refuseFor, ok]
  (repeat' split) <;> first | rfl | simp

@[simp] theorem changeVaults_fixed (number : Nat) (next : VaultSet → VaultSet) (s : State) :
    (changeVaults number next s).1.fixed = s.fixed := by
  unfold changeVaults
  simp only [onRecord, onNumber, refuse, ok]
  (repeat' split) <;> simp

@[simp] theorem grantVaults_fixed (number : Nat) (vaults : VaultSet) (s : State) :
    (grantVaults number vaults s).1.fixed = s.fixed := by
  simp [grantVaults]

@[simp] theorem revokeVaults_fixed (number : Nat) (vaults : VaultSet) (s : State) :
    (revokeVaults number vaults s).1.fixed = s.fixed := by
  simp [revokeVaults]

@[simp] theorem suspend_fixed (number : Nat) (s : State) : (suspend number s).1.fixed = s.fixed := by
  unfold suspend
  simp only [onVault, onEnabled, onDoor, onRecord, onNumber, onSlot, onAlarm, refuse, refuseFor, ok]
  (repeat' split) <;> first | rfl | simp

@[simp] theorem reinstate_fixed (number : Nat) (s : State) : (reinstate number s).1.fixed = s.fixed := by
  unfold reinstate
  simp only [onVault, onEnabled, onDoor, onRecord, onNumber, onSlot, onAlarm, refuse, refuseFor, ok]
  (repeat' split) <;> first | rfl | simp

@[simp] theorem retire_fixed (number : Nat) (s : State) : (retire number s).1.fixed = s.fixed := by
  unfold retire
  simp only [onVault, onEnabled, onDoor, onRecord, onNumber, onSlot, onAlarm, refuse, refuseFor, ok]
  (repeat' split) <;> first | rfl | simp

@[simp] theorem purge_fixed (slot : Nat) (s : State) : (purge slot s).1.fixed = s.fixed := by
  unfold purge
  simp only [onVault, onEnabled, onDoor, onRecord, onNumber, onSlot, onAlarm, refuse, refuseFor, ok]
  (repeat' split) <;> first | rfl | simp

@[simp] theorem findFreeSlot_fixed (s : State) : (findFreeSlot s).1.fixed = s.fixed := by
  unfold findFreeSlot
  simp only [onVault, onEnabled, onDoor, onRecord, onNumber, onSlot, onAlarm, refuse, refuseFor, ok]
  (repeat' split) <;> first | rfl | simp

@[simp] theorem storeStatus_fixed (s : State) : (storeStatus s).1.fixed = s.fixed := by
  simp [storeStatus]

@[simp] theorem setCommissioningLock_fixed (s : State) : (setCommissioningLock s).1.fixed = s.fixed := by
  unfold setCommissioningLock
  simp only [onVault, onEnabled, onDoor, onRecord, onNumber, onSlot, onAlarm, refuse, refuseFor, ok]
  (repeat' split) <;> first | rfl | (simp [apply_ite State.fixed, apply_ite Prod.fst]; done) | (simp; rfl)

@[simp] theorem eraseSite_fixed (s : State) : (eraseSite s).fixed = s.fixed := by
  unfold eraseSite
  rw [startAttempt_fixed]
  exact Eq.trans rfl (applyConfig_fixed erasedConfig s)

@[simp] theorem eraseAll_fixed (s : State) : (eraseAll s).1.fixed = s.fixed := by
  unfold eraseAll
  simp only [onVault, onEnabled, onDoor, onRecord, onNumber, onSlot, onAlarm, refuse, refuseFor, ok]
  (repeat' split) <;> first | rfl | simp

@[simp] theorem setTime_fixed (day minute second : Nat) (s : State) :
    (setTime day minute second s).1.fixed = s.fixed := by
  unfold setTime
  simp only [onVault, onEnabled, onDoor, onRecord, onNumber, onSlot, onAlarm, refuse, refuseFor, ok]
  (repeat' split) <;> first | rfl | (simp [apply_ite State.fixed, apply_ite Prod.fst]; done) | (simp; rfl)

@[simp] theorem getTime_fixed (s : State) : (getTime s).1.fixed = s.fixed := by
  simp [getTime]

@[simp] theorem writeHolidays_fixed (days : List Nat) (s : State) : (writeHolidays days s).1.fixed = s.fixed := by
  unfold writeHolidays
  simp only [onVault, onEnabled, onDoor, onRecord, onNumber, onSlot, onAlarm, refuse, refuseFor, ok]
  (repeat' split) <;> first | rfl | (simp [apply_ite State.fixed, apply_ite Prod.fst]; done) | (simp; rfl)

@[simp] theorem readHolidays_fixed (s : State) : (readHolidays s).1.fixed = s.fixed := by
  simp [readHolidays]

@[simp] theorem writeSchedule_fixed (schedule : Nat) (windows : List Window) (s : State) :
    (writeSchedule schedule windows s).1.fixed = s.fixed := by
  unfold writeSchedule
  simp only [onVault, onEnabled, onDoor, onRecord, onNumber, onSlot, onAlarm, refuse, refuseFor, ok]
  (repeat' split) <;> first | rfl | (simp [apply_ite State.fixed, apply_ite Prod.fst]; done) | (simp; rfl)

@[simp] theorem readSchedule_fixed (schedule : Nat) (s : State) : (readSchedule schedule s).1.fixed = s.fixed := by
  unfold readSchedule
  simp only [onVault, onEnabled, onDoor, onRecord, onNumber, onSlot, onAlarm, refuse, refuseFor, ok]
  (repeat' split) <;> first | rfl | simp

@[simp] theorem testOutput_fixed (vault : Nat) (cadence : Option Cadence) (tone : Option Tone) (strobe : Option Bool) (seconds : Nat) (s : State) :
    (testOutput vault cadence tone strobe seconds s).1.fixed = s.fixed := by
  unfold testOutput
  simp only [onVault, onEnabled, onDoor, onRecord, onNumber, onSlot, onAlarm, refuse, refuseFor, ok]
  (repeat' split) <;> first | rfl | simp

@[simp] theorem vaultLineStatus_fixed (v : Vault) (s : State) : (vaultLineStatus v s).1.fixed = s.fixed := by
  simp [vaultLineStatus]

@[simp] theorem siteLineStatus_fixed (s : State) : (siteLineStatus s).1.fixed = s.fixed := by
  simp [siteLineStatus]

@[simp] theorem getLineStatus_fixed (scope : SiteScope) (s : State) : (getLineStatus scope s).1.fixed = s.fixed := by
  cases scope <;> simp only [getLineStatus, onVault, refuse, siteLineStatus_fixed]
  split <;> simp

@[simp] theorem getReaderStatus_fixed (scope : ReaderScope) (s : State) :
    (getReaderStatus scope s).1.fixed = s.fixed := by
  unfold getReaderStatus
  simp only [onVault, onEnabled, onDoor, onRecord, onNumber, onSlot, onAlarm, refuse, refuseFor, ok]
  (repeat' split) <;> first | rfl | simp

@[simp] theorem setSiteMode_fixed (value : Option ModeValue) (s : State) :
    (setSiteMode value s).1.fixed = s.fixed := by
  unfold setSiteMode
  simp only [onVault, onEnabled, onDoor, onRecord, onNumber, onSlot, onAlarm, refuse, refuseFor, ok]
  (repeat' split) <;> first | rfl | simp

@[simp] theorem releaseOuter_fixed (v : Vault) (s : State) : (releaseOuter v s).1.fixed = s.fixed := by
  unfold releaseOuter
  simp only [onVault, onEnabled, onDoor, onRecord, onNumber, onSlot, onAlarm, refuse, refuseFor, ok]
  (repeat' split) <;> first | rfl | simp

@[simp] theorem releaseVault_fixed (v : Vault) (numbers : List Nat) (s : State) :
    (releaseVault v numbers s).1.fixed = s.fixed := by
  unfold releaseVault
  simp only [onVault, onEnabled, onDoor, onRecord, onNumber, onSlot, onAlarm, refuse, refuseFor, ok]
  (repeat' split) <;> first | rfl | simp

@[simp] theorem releaseDoor_fixed (vault : Nat) (door : Option Door) (entering : Option (List Nat)) (s : State) :
    (releaseDoor vault door entering s).1.fixed = s.fixed := by
  unfold releaseDoor
  simp only [onVault, onEnabled, onDoor, onRecord, onNumber, onSlot, onAlarm, refuse, refuseFor, ok]
  (repeat' split) <;> first | rfl | simp

@[simp] theorem secureVault_fixed (v : Vault) (s : State) : (secureVault v s).fixed = s.fixed := by
  unfold secureVault
  dsimp only
  (repeat' split) <;> first | rfl | simp

@[simp] theorem secureDoor_fixed (vault : Nat) (door : Option Door) (s : State) :
    (secureDoor vault door s).1.fixed = s.fixed := by
  unfold secureDoor
  simp only [onVault, onEnabled, onDoor, onRecord, onNumber, onSlot, onAlarm, refuse, refuseFor, ok]
  (repeat' split) <;> first | rfl | simp

@[simp] theorem holdDoor_fixed (vault : Nat) (door : Option Door) (seconds : Nat) (s : State) :
    (holdDoor vault door seconds s).1.fixed = s.fixed := by
  unfold holdDoor
  simp only [onVault, onEnabled, onDoor, onRecord, onNumber, onSlot, onAlarm, refuse, refuseFor, ok]
  (repeat' split) <;> first | rfl | simp

@[simp] theorem getDoorStatus_fixed (vault : Nat) (s : State) : (getDoorStatus vault s).1.fixed = s.fixed := by
  unfold getDoorStatus
  simp only [onVault, onEnabled, onDoor, onRecord, onNumber, onSlot, onAlarm, refuse, refuseFor, ok]
  (repeat' split) <;> first | rfl | simp

@[simp] theorem listOccupants_fixed (vault : Nat) (s : State) : (listOccupants vault s).1.fixed = s.fixed := by
  unfold listOccupants
  simp only [onVault, onEnabled, onDoor, onRecord, onNumber, onSlot, onAlarm, refuse, refuseFor, ok]
  (repeat' split) <;> first | rfl | simp

@[simp] theorem addOccupant_fixed (v : Vault) (number : Nat) (link : Option Nat) (s : State) :
    (addOccupant v number link s).fixed = s.fixed := by
  simp [addOccupant]

@[simp] theorem addOccupantRequest_fixed (vault number : Nat) (link : Option Nat) (s : State) :
    (addOccupantRequest vault number link s).1.fixed = s.fixed := by
  unfold addOccupantRequest
  simp only [onVault, onEnabled, onDoor, onRecord, onNumber, onSlot, onAlarm, refuse, refuseFor, ok]
  (repeat' split) <;> first | rfl | simp

@[simp] theorem dropOccupant_fixed (v : Vault) (number : Nat) (s : State) :
    (dropOccupant v number s).fixed = s.fixed := by
  simp [dropOccupant]

@[simp] theorem removeOccupantRequest_fixed (number : Nat) (s : State) :
    (removeOccupantRequest number s).1.fixed = s.fixed := by
  unfold removeOccupantRequest
  simp only [onVault, onEnabled, onDoor, onRecord, onNumber, onSlot, onAlarm, refuse, refuseFor, ok]
  (repeat' split) <;> first | rfl | simp

@[simp] theorem confirmOccupancy_fixed (vault : Nat) (s : State) : (confirmOccupancy vault s).1.fixed = s.fixed := by
  unfold confirmOccupancy
  simp only [onVault, onEnabled, onDoor, onRecord, onNumber, onSlot, onAlarm, refuse, refuseFor, ok]
  (repeat' split) <;> first | rfl | simp

@[simp] theorem globalHold_fixed (value : Option Bool) (s : State) : (globalHold value s).1.fixed = s.fixed := by
  unfold globalHold
  simp only [onVault, onEnabled, onDoor, onRecord, onNumber, onSlot, onAlarm, refuse, refuseFor, ok]
  (repeat' split) <;> first | rfl | (simp [apply_ite State.fixed, apply_ite Prod.fst]; done) | (simp; rfl)

@[simp] theorem setSuppressionParams_fixed (vault : Nat) (p : SuppressionWrite) (s : State) :
    (setSuppressionParams vault p s).1.fixed = s.fixed := by
  unfold setSuppressionParams
  simp only [onVault, onEnabled, onDoor, onRecord, onNumber, onSlot, onAlarm, refuse, refuseFor, ok]
  (repeat' split) <;> first | rfl | simp

@[simp] theorem readSuppressionParams_fixed (vault : Nat) (s : State) :
    (readSuppressionParams vault s).1.fixed = s.fixed := by
  unfold readSuppressionParams
  simp only [onVault, onEnabled, onDoor, onRecord, onNumber, onSlot, onAlarm, refuse, refuseFor, ok]
  (repeat' split) <;> first | rfl | simp

@[simp] theorem sequencerAnswer_fixed (v : Vault) (s : State) : (sequencerAnswer v s).1.fixed = s.fixed := by
  simp [sequencerAnswer]

@[simp] theorem resetSuppression_fixed (vault : Nat) (s : State) : (resetSuppression vault s).1.fixed = s.fixed := by
  unfold resetSuppression
  simp only [onVault, onEnabled, onDoor, onRecord, onNumber, onSlot, onAlarm, refuse, refuseFor, ok]
  (repeat' split) <;> first | rfl | simp

@[simp] theorem getSuppressionStatus_fixed (vault : Nat) (s : State) :
    (getSuppressionStatus vault s).1.fixed = s.fixed := by
  unfold getSuppressionStatus
  simp only [onVault, onEnabled, onDoor, onRecord, onNumber, onSlot, onAlarm, refuse, refuseFor, ok]
  (repeat' split) <;> first | rfl | simp

@[simp] theorem ackAlarm_fixed (id : Nat) (s : State) : (ackAlarm id s).1.fixed = s.fixed := by
  unfold ackAlarm
  simp only [onVault, onEnabled, onDoor, onRecord, onNumber, onSlot, onAlarm, refuse, refuseFor, ok]
  (repeat' split) <;> first | rfl | simp

@[simp] theorem clearAlarm_fixed (id : Nat) (s : State) : (clearAlarm id s).1.fixed = s.fixed := by
  unfold clearAlarm
  simp only [onVault, onEnabled, onDoor, onRecord, onNumber, onSlot, onAlarm, refuse, refuseFor, ok]
  (repeat' split) <;> first | rfl | simp

@[simp] theorem listAlarms_fixed (start : Nat) (filter : Option AlarmFilter) (s : State) :
    (listAlarms start filter s).1.fixed = s.fixed := by
  unfold listAlarms
  simp only [onVault, onEnabled, onDoor, onRecord, onNumber, onSlot, onAlarm, refuse, refuseFor, ok]
  (repeat' split) <;> first | rfl | simp

@[simp] theorem readAlarm_fixed (id : Nat) (s : State) : (readAlarm id s).1.fixed = s.fixed := by
  unfold readAlarm
  simp only [onVault, onEnabled, onDoor, onRecord, onNumber, onSlot, onAlarm, refuse, refuseFor, ok]
  (repeat' split) <;> first | rfl | simp

@[simp] theorem getAttention_fixed (s : State) : (getAttention s).1.fixed = s.fixed := by
  simp [getAttention]

@[simp] theorem setAttentionEnable_fixed (enable : Causes) (s : State) :
    (setAttentionEnable enable s).1.fixed = s.fixed := by
  simp [setAttentionEnable]

@[simp] theorem getSiteStatus_fixed (s : State) : (getSiteStatus s).1.fixed = s.fixed := by
  simp [getSiteStatus]

@[simp] theorem writeSite_fixed (w : SiteWrite) (s : State) : (writeSite w s).1.fixed = s.fixed := by
  unfold writeSite
  simp only [onVault, onEnabled, onDoor, onRecord, onNumber, onSlot, onAlarm, refuse, refuseFor, ok]
  (repeat' split) <;> first | rfl | simp

@[simp] theorem writeVault_fixed (v : Vault) (w : VaultWrite) (s : State) : (writeVault v w s).1.fixed = s.fixed := by
  unfold writeVault
  simp only [onVault, onEnabled, onDoor, onRecord, onNumber, onSlot, onAlarm, refuse, refuseFor, ok]
  (repeat' split) <;> first | rfl | simp

@[simp] theorem writeParams_fixed (group : GroupWrite) (s : State) : (writeParams group s).1.fixed = s.fixed := by
  cases group <;> simp only [writeParams, onVault, refuse, writeSite_fixed]
  split <;> simp

@[simp] theorem readParams_fixed (group : SiteScope) (s : State) : (readParams group s).1.fixed = s.fixed := by
  cases group <;> simp only [readParams, onVault, refuse, ok]
  split <;> simp

@[simp] theorem restart_fixed (s : State) : (restart s).1.fixed = s.fixed := by
  simp [restart]

@[simp] theorem getResetCause_fixed (s : State) : (getResetCause s).1.fixed = s.fixed := by
  simp [getResetCause]

end Sys2Proof.Machine
end

