-- ==== Sys2Proof/Laws/PerInstr.lean ====
section
/-!
SUPPORT. The family `Owned`: a host request has a code of 1 to 47 and an owner, and its command is the request of that code
given to that owner; any other command has neither code nor owner (11, The requests; R204).
-/

namespace Sys2Proof.Laws.Owned

open Sys2Proof.Machine

/-- A command has a request code exactly where it has an owner, the code lies in 1 to 47, and the command hands the
request of that code to that owner. -/
def Statement (i : Instr) : Prop :=
  match requestCode i, ownerOf i with
  | some code, some f => 1 ≤ code ∧ code ≤ 47 ∧ exec i = hostRequest code f
  | none, none => True
  | _, _ => False

theorem lookupCredential (number : Nat) : Statement (.lookupCredential number) := ⟨by decide, by decide, rfl⟩
theorem readSlot (slot : Nat) : Statement (.readSlot slot) := ⟨by decide, by decide, rfl⟩
theorem writeCredential (w : CredentialWrite) : Statement (.writeCredential w) := ⟨by decide, by decide, rfl⟩
theorem grantVaults (number : Nat) (vaults : VaultSet) : Statement (.grantVaults number vaults) :=
  ⟨by decide, by decide, rfl⟩
theorem revokeVaults (number : Nat) (vaults : VaultSet) : Statement (.revokeVaults number vaults) :=
  ⟨by decide, by decide, rfl⟩
theorem suspend (number : Nat) : Statement (.suspend number) := ⟨by decide, by decide, rfl⟩
theorem reinstate (number : Nat) : Statement (.reinstate number) := ⟨by decide, by decide, rfl⟩
theorem retire (number : Nat) : Statement (.retire number) := ⟨by decide, by decide, rfl⟩
theorem purge (slot : Nat) : Statement (.purge slot) := ⟨by decide, by decide, rfl⟩
theorem findFreeSlot : Statement (.findFreeSlot) := ⟨by decide, by decide, rfl⟩
theorem storeStatus : Statement (.storeStatus) := ⟨by decide, by decide, rfl⟩
theorem setCommissioningLock : Statement (.setCommissioningLock) := ⟨by decide, by decide, rfl⟩
theorem eraseAll : Statement (.eraseAll) := ⟨by decide, by decide, rfl⟩
theorem setTime (day minute second : Nat) : Statement (.setTime day minute second) := ⟨by decide, by decide, rfl⟩
theorem getTime : Statement (.getTime) := ⟨by decide, by decide, rfl⟩
theorem writeHolidays (days : List Nat) : Statement (.writeHolidays days) := ⟨by decide, by decide, rfl⟩
theorem readHolidays : Statement (.readHolidays) := ⟨by decide, by decide, rfl⟩
theorem writeSchedule (schedule : Nat) (windows : List Window) : Statement (.writeSchedule schedule windows) :=
  ⟨by decide, by decide, rfl⟩
theorem readSchedule (schedule : Nat) : Statement (.readSchedule schedule) := ⟨by decide, by decide, rfl⟩
theorem testOutput (vault : Nat) (cadence : Option Cadence) (tone : Option Tone) (strobe : Option Bool) (seconds : Nat) :
    Statement (.testOutput vault cadence tone strobe seconds) :=
  ⟨by decide, by decide, rfl⟩
theorem getLineStatus (scope : SiteScope) : Statement (.getLineStatus scope) := ⟨by decide, by decide, rfl⟩
theorem getReaderStatus (scope : ReaderScope) : Statement (.getReaderStatus scope) := ⟨by decide, by decide, rfl⟩
theorem setSiteMode (value : Option ModeValue) : Statement (.setSiteMode value) := ⟨by decide, by decide, rfl⟩
theorem releaseDoor (vault : Nat) (door : Option Door) (entering : Option (List Nat)) :
    Statement (.releaseDoor vault door entering) :=
  ⟨by decide, by decide, rfl⟩
theorem secureDoor (vault : Nat) (door : Option Door) : Statement (.secureDoor vault door) :=
  ⟨by decide, by decide, rfl⟩
theorem holdDoor (vault : Nat) (door : Option Door) (seconds : Nat) : Statement (.holdDoor vault door seconds) :=
  ⟨by decide, by decide, rfl⟩
theorem getDoorStatus (vault : Nat) : Statement (.getDoorStatus vault) := ⟨by decide, by decide, rfl⟩
theorem listOccupants (vault : Nat) : Statement (.listOccupants vault) := ⟨by decide, by decide, rfl⟩
theorem addOccupant (vault number : Nat) (link : Option Nat) : Statement (.addOccupant vault number link) :=
  ⟨by decide, by decide, rfl⟩
theorem removeOccupant (number : Nat) : Statement (.removeOccupant number) := ⟨by decide, by decide, rfl⟩
theorem confirmOccupancy (vault : Nat) : Statement (.confirmOccupancy vault) := ⟨by decide, by decide, rfl⟩
theorem globalHold (value : Option Bool) : Statement (.globalHold value) := ⟨by decide, by decide, rfl⟩
theorem setSuppressionParams (vault : Nat) (params : SuppressionWrite) :
    Statement (.setSuppressionParams vault params) :=
  ⟨by decide, by decide, rfl⟩
theorem readSuppressionParams (vault : Nat) : Statement (.readSuppressionParams vault) := ⟨by decide, by decide, rfl⟩
theorem resetSuppression (vault : Nat) : Statement (.resetSuppression vault) := ⟨by decide, by decide, rfl⟩
theorem getSuppressionStatus (vault : Nat) : Statement (.getSuppressionStatus vault) := ⟨by decide, by decide, rfl⟩
theorem ackAlarm (id : Nat) : Statement (.ackAlarm id) := ⟨by decide, by decide, rfl⟩
theorem clearAlarm (id : Nat) : Statement (.clearAlarm id) := ⟨by decide, by decide, rfl⟩
theorem listAlarms (start : Nat) (filter : Option AlarmFilter) : Statement (.listAlarms start filter) :=
  ⟨by decide, by decide, rfl⟩
theorem readAlarm (id : Nat) : Statement (.readAlarm id) := ⟨by decide, by decide, rfl⟩
theorem getAttention : Statement (.getAttention) := ⟨by decide, by decide, rfl⟩
theorem setAttentionEnable (enable : Causes) : Statement (.setAttentionEnable enable) := ⟨by decide, by decide, rfl⟩
theorem getSiteStatus : Statement (.getSiteStatus) := ⟨by decide, by decide, rfl⟩
theorem writeParams (group : GroupWrite) : Statement (.writeParams group) := ⟨by decide, by decide, rfl⟩
theorem readParams (group : SiteScope) : Statement (.readParams group) := ⟨by decide, by decide, rfl⟩
theorem restart : Statement (.restart) := ⟨by decide, by decide, rfl⟩
theorem getResetCause : Statement (.getResetCause) := ⟨by decide, by decide, rfl⟩
theorem requestTransaction (rest : List Byte) : Statement (.requestTransaction rest) := trivial
theorem responseTransaction (clocked : Nat) : Statement (.responseTransaction clocked) := trivial
theorem ignoredTransaction (first : Byte) (clocked : Nat) : Statement (.ignoredTransaction first clocked) := trivial
theorem completionOfProcessing : Statement (.completionOfProcessing) := trivial
theorem powerOnReset : Statement (.powerOnReset) := trivial
theorem supplyReset : Statement (.supplyReset) := trivial
theorem resetLineReset : Statement (.resetLineReset) := trivial
theorem endOfReset (supplyGood : Bool) : Statement (.endOfReset supplyGood) := trivial
theorem configurationRead : Statement (.configurationRead) := trivial
theorem scanTargetRead : Statement (.scanTargetRead) := trivial
theorem writeLow : Statement (.writeLow) := trivial
theorem supplyGood : Statement (.supplyGood) := trivial
theorem attemptCompletion (outcome : AttemptOutcome) : Statement (.attemptCompletion outcome) := trivial
theorem tickEvent (readings : Readings) : Statement (.tickEvent readings) := trivial
theorem referenceLost : Statement (.referenceLost) := trivial
theorem startUpReferenceTimeout : Statement (.startUpReferenceTimeout) := trivial
theorem referenceReturned : Statement (.referenceReturned) := trivial
theorem minuteEvent : Statement (.minuteEvent) := trivial
theorem outerContact (v : Vault) : Statement (.outerContact v) := trivial
theorem outerEgress (v : Vault) : Statement (.outerEgress v) := trivial
theorem vaultContactOpen (v : Vault) : Statement (.vaultContactOpen v) := trivial
theorem vaultContactClose (v : Vault) : Statement (.vaultContactClose v) := trivial
theorem boltsWithdrawn (v : Vault) : Statement (.boltsWithdrawn v) := trivial
theorem boltsThrown (v : Vault) : Statement (.boltsThrown v) := trivial
theorem vaultEgress (v : Vault) : Statement (.vaultEgress v) := trivial
theorem detectorChange (v : Vault) (second : Bool) : Statement (.detectorChange v second) := trivial
theorem manualRelease (v : Vault) : Statement (.manualRelease v) := trivial
theorem abortChange (v : Vault) : Statement (.abortChange v) := trivial
theorem isolateChange (v : Vault) : Statement (.isolateChange v) := trivial
theorem dischargeChange (v : Vault) : Statement (.dischargeChange v) := trivial
theorem duressButton (v : Vault) (vestibule : Bool) : Statement (.duressButton v vestibule) := trivial
theorem checkInButton (v : Vault) : Statement (.checkInButton v) := trivial
theorem siteLineChange (i : SiteLine) : Statement (.siteLineChange i) := trivial
theorem releaseCircuitChange (v : Vault) : Statement (.releaseCircuitChange v) := trivial
theorem evacuationCombinationCompletion : Statement (.evacuationCombinationCompletion) := trivial
theorem testClaimExpiry (v : Vault) : Statement (.testClaimExpiry v) := trivial
theorem pollTransactionStart : Statement (.pollTransactionStart) := trivial
theorem replyWindowExpiry : Statement (.replyWindowExpiry) := trivial
theorem readerReplyComplete (bytes : List Byte) : Statement (.readerReplyComplete bytes) := trivial
theorem pairWindowExpiry (v : Vault) : Statement (.pairWindowExpiry v) := trivial
theorem outerGrantLapse (v : Vault) : Statement (.outerGrantLapse v) := trivial
theorem vaultGrantLapse (v : Vault) : Statement (.vaultGrantLapse v) := trivial
theorem egressReleaseLapse (v : Vault) : Statement (.egressReleaseLapse v) := trivial
theorem travelTimerExpiry (v : Vault) : Statement (.travelTimerExpiry v) := trivial
theorem relockTimerExpiry (v : Vault) : Statement (.relockTimerExpiry v) := trivial
theorem heldTimerExpiry (v : Vault) (door : Door) : Statement (.heldTimerExpiry v door) := trivial
theorem loneWorkerChirp (v : Vault) : Statement (.loneWorkerChirp v) := trivial
theorem loneWorkerExpiry (v : Vault) : Statement (.loneWorkerExpiry v) := trivial
theorem countdownExpiry (v : Vault) : Statement (.countdownExpiry v) := trivial
theorem abortHoldLapse (v : Vault) : Statement (.abortHoldLapse v) := trivial
theorem releasePulseEnd (v : Vault) : Statement (.releasePulseEnd v) := trivial
theorem confirmWaitExpiry (v : Vault) : Statement (.confirmWaitExpiry v) := trivial
theorem soakEnd (v : Vault) : Statement (.soakEnd v) := trivial
theorem escalationExpiry (id : Nat) : Statement (.escalationExpiry id) := trivial
theorem readerReplyBegun : Statement (.readerReplyBegun) := trivial
theorem replyWindowOpen : Statement (.replyWindowOpen) := trivial

end Sys2Proof.Laws.Owned
end

