-- ==== Sys2Proof/Laws/SettingsFrame.lean ====
section
/-!
SUPPORT. The operations that leave the settings of the site (the configuration values in force, the site mode record, the
calendar and the time base) alone: every one that is no parameter request, no change of mode and no event of time.
-/

namespace Sys2Proof.Machine

set_option linter.unusedSimpArgs false
set_option linter.unusedTactic false
set_option linter.unreachableTactic false

/-- The settings of the site: the values in force, the mode record, the calendar and the time base. -/
def State.settings (s : State) : ConfigBlock × Mode × Bool × Cal × Tmb := (s.cfg, s.mode, s.auto, s.cal, s.tmb)

/-- A fold of changes that keep these fields keeps them. -/
theorem foldl_settings {α : Type} (f : State → α → State) (h : ∀ s a, (f s a).settings = s.settings) (l : List α) (s : State) :
    (l.foldl f s).settings = s.settings := by
  induction l generalizing s with
  | nil => rfl
  | cons a l ih => simp only [List.foldl_cons, ih, h]

/-- A change at every vault that keeps these fields keeps them. -/
theorem eachVault_settings (f : Vault → State → State) (h : ∀ v s, (f v s).settings = s.settings) (s : State) :
    (eachVault f s).settings = s.settings :=
  foldl_settings _ (fun s v => h v s) _ s

@[simp] theorem State.withDoor_settings (s : State) (v : Vault) (d : DoorRecord) : (s.withDoor v d).settings = s.settings := rfl
@[simp] theorem State.withSequencer_settings (s : State) (v : Vault) (q : SsqRecord) : (s.withSequencer v q).settings = s.settings := rfl
@[simp] theorem State.withOccupancy_settings (s : State) (v : Vault) (o : VaultOccupancy) : (s.withOccupancy v o).settings = s.settings := rfl
@[simp] theorem State.withClaimSet_settings (s : State) (v : Vault) (c : ClaimSet) : (s.withClaimSet v c).settings = s.settings := rfl
@[simp] theorem State.withPair_settings (s : State) (v : Vault) (p : Option PendingPair) : (s.withPair v p).settings = s.settings := rfl
@[simp] theorem State.withLines_settings (s : State) (v : Vault) (l : VaultLines) : (s.withLines v l).settings = s.settings := rfl
@[simp] theorem State.withLineRecord_settings (s : State) (v : Vault) (l : Line) (q : Qualification Reading) : (s.withLineRecord v l q).settings = s.settings := rfl
@[simp] theorem State.withRelease_settings (s : State) (v : Vault) (q : Qualification Circuit) : (s.withRelease v q).settings = s.settings := rfl
@[simp] theorem State.withAtu_settings (s : State) (a : Atu) : (s.withAtu a).settings = s.settings := rfl
@[simp] theorem State.withLink_settings (s : State) (l : Link) : (s.withLink l).settings = s.settings := rfl
@[simp] theorem State.withNva_settings (s : State) (n : Nva) : (s.withNva n).settings = s.settings := rfl
@[simp] theorem State.withReaders_settings (s : State) (v : Vault) (r : VaultReaders) : (s.withReaders v r).settings = s.settings := rfl
@[simp] theorem State.withReader_settings (s : State) (a : ReaderAddress) (r : ReaderRecord) : (s.withReader a r).settings = s.settings := rfl
@[simp] theorem State.withLqu_settings (s : State) (l : Lqu) : (s.withLqu l).settings = s.settings := rfl
@[simp] theorem State.withIndex_settings (s : State) (i : List (Nat × Nat)) : (s.withIndex i).settings = s.settings := rfl
@[simp] theorem State.withFailures_settings (s : State) (f : List FailureEntry) : (s.withFailures f).settings = s.settings := rfl
@[simp] theorem State.withReaderLine_settings (s : State) (r : ReaderLine) : (s.withReaderLine r).settings = s.settings := rfl
@[simp] theorem State.withWaiting_settings (s : State) (c : Causes) : (s.withWaiting c).settings = s.settings := rfl

@[simp] theorem causeAlarms_settings (s : State) : (causeAlarms s).settings = s.settings := by
  rfl

@[simp] theorem causeOccupancy_settings (s : State) : (causeOccupancy s).settings = s.settings := by
  rfl

@[simp] theorem causeSuppression_settings (s : State) : (causeSuppression s).settings = s.settings := by
  rfl

@[simp] theorem causeDoors_settings (s : State) : (causeDoors s).settings = s.settings := by
  rfl

@[simp] theorem causeStore_settings (s : State) : (causeStore s).settings = s.settings := by
  rfl

@[simp] theorem causeMode_settings (s : State) : (causeMode s).settings = s.settings := by
  rfl

@[simp] theorem causeVerdict_settings (s : State) : (causeVerdict s).settings = s.settings := by
  rfl

@[simp] theorem causeClock_settings (s : State) : (causeClock s).settings = s.settings := by
  rfl

@[simp] theorem claim_settings (v : Vault) (f : ClaimSet → ClaimSet) (s : State) : (claim v f s).settings = s.settings := by
  unfold claim
  split <;> rfl

@[simp] theorem claimForced_settings (v : Vault) (d : Door) (b : Bool) (s : State) :
    (claimForced v d b s).settings = s.settings := by
  simp [claimForced]

@[simp] theorem claimHeld_settings (v : Vault) (d : Door) (b : Bool) (s : State) :
    (claimHeld v d b s).settings = s.settings := by
  simp [claimHeld]

@[simp] theorem claimChirp_settings (v : Vault) (b : Bool) (s : State) : (claimChirp v b s).settings = s.settings := by
  simp [claimChirp]

@[simp] theorem claimSiteEvacuate_settings (v : Vault) (b : Bool) (s : State) :
    (claimSiteEvacuate v b s).settings = s.settings := by
  simp [claimSiteEvacuate]

@[simp] theorem claimSsq_settings (v : Vault) (k : Option ClaimKind) (s : State) :
    (claimSsq v k s).settings = s.settings := by
  simp [claimSsq]

@[simp] theorem claimTest_settings (v : Vault) (t : TestClaim) (s : State) :
    (claimTest v t s).settings = s.settings := by
  unfold claimTest
  dsimp only
  split <;> simp

@[simp] theorem endTest_settings (v : Vault) (s : State) : (endTest v s).settings = s.settings := by
  simp [endTest]

@[simp] theorem raise_settings (key : AlarmKey) (s : State) : (raise key s).1.settings = s.settings := by
  unfold raise
  dsimp only
  (repeat' split) <;> first | rfl | simp

@[simp] theorem raised_settings (key : AlarmKey) (s : State) : (raised key s).settings = s.settings := by
  simp [raised]

@[simp] theorem retireRecord_settings (id : Nat) (s : State) : (retireRecord id s).settings = s.settings := by
  rfl

@[simp] theorem endCondition_settings (key : AlarmKey) (s : State) : (endCondition key s).settings = s.settings := by
  unfold endCondition
  (repeat' split) <;> first | rfl | simp

@[simp] theorem doorAcknowledged_settings (key : AlarmKey) (s : State) :
    (doorAcknowledged key s).settings = s.settings := by
  unfold doorAcknowledged
  split <;> simp

@[simp] theorem acknowledgeRecord_settings (r : AlarmRecord) (s : State) :
    (acknowledgeRecord r s).settings = s.settings := by
  unfold acknowledgeRecord
  split <;> simp

@[simp] theorem forget_settings (number : Nat) (s : State) : (forget number s).settings = s.settings := by
  rfl

@[simp] theorem recordFailure_settings (number : Nat) (s : State) :
    (recordFailure number s).settings = s.settings := by
  unfold recordFailure
  (repeat' split) <;> first | rfl | simp

@[simp] theorem ageFailures_settings (s : State) : (ageFailures s).settings = s.settings := by
  rfl

@[simp] theorem startAttempt_settings (s : State) : (startAttempt s).settings = s.settings := by
  unfold startAttempt
  (repeat' split) <;> first | rfl | simp

@[simp] theorem place_settings (i : Image) (s : State) : (place i s).settings = s.settings := by
  unfold place
  split <;> simp

@[simp] theorem placeConfig_settings (s : State) : (placeConfig s).settings = s.settings := by
  simp [placeConfig]

@[simp] theorem placeOrOweConfig_settings (s : State) : (placeOrOweConfig s).settings = s.settings := by
  unfold placeOrOweConfig
  split <;> simp

@[simp] theorem placeOwed_settings (s : State) : (placeOwed s).settings = s.settings := by
  unfold placeOwed
  split <;> simp

@[simp] theorem damage_settings (t : Target) (number : Option Nat) (s : State) :
    (damage t number s).settings = s.settings := by
  unfold damage
  (repeat' split) <;> first | rfl | simp

@[simp] theorem entryLeft_settings (s : State) : (entryLeft s).settings = s.settings := by
  unfold entryLeft
  dsimp only
  split <;> simp

@[simp] theorem eraseNext_settings (e : ErasePass) (s : State) : (eraseNext e s).settings = s.settings := by
  unfold eraseNext
  split <;> simp

@[simp] theorem eraseCompleted_settings (e : ErasePass) (good : Bool) (s : State) :
    (eraseCompleted e good s).settings = s.settings := by
  simp [eraseCompleted, apply_ite State.settings]

@[simp] theorem queueCompleted_settings (good : Bool) (s : State) : (queueCompleted good s).settings = s.settings := by
  unfold queueCompleted
  (repeat' split) <;> first | rfl | simp

@[simp] theorem deviceChange_settings (slot : Nat) (f : CredRecord → CredRecord) (s : State) :
    (deviceChange slot f s).1.settings = s.settings := by
  unfold deviceChange
  (repeat' split) <;> first | rfl | simp

@[simp] theorem decrementUses_settings (number : Nat) (s : State) :
    (decrementUses number s).settings = s.settings := by
  unfold decrementUses
  (repeat' split) <;> first | rfl | simp

@[simp] theorem suspendLockedOut_settings (number : Nat) (s : State) :
    (suspendLockedOut number s).settings = s.settings := by
  unfold suspendLockedOut
  dsimp only
  (repeat' split) <;> first | rfl | simp

@[simp] theorem handVerdict_settings (a : ReaderAddress) (verdict : Verdict) (number : Option Nat) (s : State) :
    (handVerdict a verdict number s).settings = s.settings := by
  unfold handVerdict
  split <;> simp

@[simp] theorem readerMiss_settings (a : ReaderAddress) (s : State) : (readerMiss a s).settings = s.settings := by
  simp [readerMiss, apply_ite State.settings]

@[simp] theorem goodReply_settings (a : ReaderAddress) (tamper : Bool) (s : State) :
    (goodReply a tamper s).settings = s.settings := by
  unfold goodReply
  dsimp only
  (repeat' split) <;> first | rfl | simp

@[simp] theorem disableReaders_settings (v : Vault) (s : State) : (disableReaders v s).settings = s.settings := by
  simp [disableReaders]

@[simp] theorem addOccupants_settings (v : Vault) (adds : List EnteringEntry) (time : Instant) (s : State) :
    (addOccupants v adds time s).settings = s.settings := by
  rfl

@[simp] theorem endOccupant_settings (v : Vault) (e : Occupant) (s : State) :
    (endOccupant v e s).settings = s.settings := by
  simp [endOccupant, apply_ite State.settings]

@[simp] theorem setCertain_settings (v : Vault) (b : Bool) (s : State) : (setCertain v b s).settings = s.settings := by
  rfl

@[simp] theorem settleLink_settings (v : Vault) (fresh : List Nat) (s : State) (e : Occupant) :
    (settleLink v fresh s e).settings = s.settings := by
  unfold settleLink
  dsimp only
  (repeat' split) <;> simp

@[simp] theorem settleLinks_settings (v : Vault) (fresh : List Nat) (s : State) :
    (settleLinks v fresh s).settings = s.settings := by
  simp [settleLinks, foldl_settings]

@[simp] theorem settleLone_settings (v : Vault) (s : State) : (settleLone v s).settings = s.settings := by
  simp [settleLone, apply_ite State.settings, foldl_settings, eachVault_settings]

@[simp] theorem checkIn_settings (v : Vault) (number : Option Nat) (s : State) :
    (checkIn v number s).settings = s.settings := by
  unfold checkIn
  dsimp only
  (repeat' split) <;> first | rfl | simp

@[simp] theorem loneExpired_settings (v : Vault) (s : State) : (loneExpired v s).settings = s.settings := by
  unfold loneExpired
  dsimp only
  split <;> simp

@[simp] theorem clearOccupants_settings (v : Vault) (s : State) : (clearOccupants v s).settings = s.settings := by
  simp [clearOccupants, foldl_settings]

@[simp] theorem putDoor_settings (v : Vault) (d : DoorRecord) (s : State) : (putDoor v d s).settings = s.settings := by
  unfold putDoor
  split <;> simp

@[simp] theorem raiseForced_settings (v : Vault) (which : Door) (s : State) :
    (raiseForced v which s).settings = s.settings := by
  unfold raiseForced
  dsimp only
  split <;> simp

@[simp] theorem raiseHeld_settings (v : Vault) (which : Door) (s : State) :
    (raiseHeld v which s).settings = s.settings := by
  unfold raiseHeld
  dsimp only
  split <;> simp

@[simp] theorem raiseFault_settings (v : Vault) (drive : Drive) (s : State) :
    (raiseFault v drive s).settings = s.settings := by
  simp [raiseFault]

@[simp] theorem endForced_settings (v : Vault) (which : Door) (s : State) :
    (endForced v which s).settings = s.settings := by
  unfold endForced
  split <;> simp

@[simp] theorem endHeld_settings (v : Vault) (which : Door) (s : State) :
    (endHeld v which s).settings = s.settings := by
  unfold endHeld
  split <;> simp

@[simp] theorem endFaults_settings (v : Vault) (s : State) : (endFaults v s).settings = s.settings := by
  simp [endFaults, apply_ite State.settings]

@[simp] theorem setOuter_settings (v : Vault) (o : OuterState) (s : State) :
    (setOuter v o s).settings = s.settings := by
  unfold setOuter
  split <;> simp

@[simp] theorem withdrawOuter_settings (v : Vault) (s : State) : (withdrawOuter v s).settings = s.settings := by
  unfold withdrawOuter
  dsimp only
  (repeat' split) <;> first | rfl | simp

@[simp] theorem setVaultState_settings (v : Vault) (st : VaultState) (s : State) :
    (setVaultState v st s).settings = s.settings := by
  simp [setVaultState, apply_ite State.settings]

@[simp] theorem startRetract_settings (v : Vault) (s : State) : (startRetract v s).settings = s.settings := by
  unfold startRetract
  dsimp only
  split <;> simp

@[simp] theorem startExtend_settings (v : Vault) (s : State) : (startExtend v s).settings = s.settings := by
  unfold startExtend
  dsimp only
  split <;> simp

@[simp] theorem startEmergencyDrive_settings (v : Vault) (s : State) :
    (startEmergencyDrive v s).settings = s.settings := by
  rfl

@[simp] theorem restartEmergencyDrive_settings (v : Vault) (s : State) :
    (restartEmergencyDrive v s).settings = s.settings := by
  unfold restartEmergencyDrive
  split <;> simp

@[simp] theorem freeVaultDoor_settings (v : Vault) (s : State) : (freeVaultDoor v s).settings = s.settings := by
  unfold freeVaultDoor
  split <;> simp

@[simp] theorem recordGrant_settings (v : Vault) (g : VaultGrant) (s : State) :
    (recordGrant v g s).settings = s.settings := by
  simp [recordGrant]

@[simp] theorem recordOuterGrant_settings (v : Vault) (o : OuterOrigin) (s : State) :
    (recordOuterGrant v o s).settings = s.settings := by
  simp [recordOuterGrant]

@[simp] theorem outerEgressPress_settings (v : Vault) (s : State) : (outerEgressPress v s).settings = s.settings := by
  unfold outerEgressPress
  split <;> simp

@[simp] theorem vaultEgressPress_settings (v : Vault) (s : State) : (vaultEgressPress v s).settings = s.settings := by
  simp [vaultEgressPress, apply_ite State.settings]

@[simp] theorem secureWhereFree_settings (v : Vault) (s : State) : (secureWhereFree v s).settings = s.settings := by
  unfold secureWhereFree
  dsimp only
  (repeat' split) <;> first | rfl | simp

@[simp] theorem discardGrant_settings (v : Vault) (s : State) : (discardGrant v s).settings = s.settings := by
  simp [discardGrant]

@[simp] theorem discardEgress_settings (v : Vault) (s : State) : (discardEgress v s).settings = s.settings := by
  simp [discardEgress]

@[simp] theorem outerLapsed_settings (v : Vault) (s : State) : (outerLapsed v s).settings = s.settings := by
  unfold outerLapsed
  dsimp only
  split <;> simp

@[simp] theorem trimEntering_settings (v : Vault) (keep : EnteringEntry → Bool) (s : State) :
    (trimEntering v keep s).settings = s.settings := by
  unfold trimEntering
  dsimp only
  (repeat' split) <;> first | rfl | simp

@[simp] theorem cancelEntry_settings (v : Vault) (s : State) : (cancelEntry v s).settings = s.settings := by
  simp [cancelEntry]

@[simp] theorem outerOpened_settings (v : Vault) (first : Bool) (s : State) :
    (outerOpened v first s).settings = s.settings := by
  unfold outerOpened
  (repeat' split) <;> first | rfl | simp

@[simp] theorem outerClosed_settings (v : Vault) (s : State) : (outerClosed v s).settings = s.settings := by
  unfold outerClosed
  split <;> simp

@[simp] theorem vaultClosed_settings (v : Vault) (s : State) : (vaultClosed v s).settings = s.settings := by
  unfold vaultClosed
  dsimp only
  (repeat' split) <;> first | rfl | simp

@[simp] theorem enterOpen_settings (v : Vault) (s : State) : (enterOpen v s).settings = s.settings := by
  simp [enterOpen]

@[simp] theorem boltsWithdrawnActive_settings (v : Vault) (s : State) :
    (boltsWithdrawnActive v s).settings = s.settings := by
  unfold boltsWithdrawnActive
  (repeat' split) <;> first | rfl | simp

@[simp] theorem boltsThrownActive_settings (v : Vault) (s : State) :
    (boltsThrownActive v s).settings = s.settings := by
  unfold boltsThrownActive
  (repeat' split) <;> first | rfl | simp

@[simp] theorem boltsThrownLost_settings (v : Vault) (s : State) : (boltsThrownLost v s).settings = s.settings := by
  unfold boltsThrownLost
  split <;> simp

@[simp] theorem travelExpired_settings (v : Vault) (s : State) : (travelExpired v s).settings = s.settings := by
  unfold travelExpired
  dsimp only
  split <;> simp

@[simp] theorem relockExpired_settings (v : Vault) (s : State) : (relockExpired v s).settings = s.settings := by
  unfold relockExpired
  dsimp only
  split <;> simp

@[simp] theorem heldExpired_settings (v : Vault) (which : Door) (s : State) :
    (heldExpired v which s).settings = s.settings := by
  simp [heldExpired]

@[simp] theorem emergencyStart_settings (v : Vault) (s : State) : (emergencyStart v s).settings = s.settings := by
  simp [emergencyStart]

@[simp] theorem emergencyEnd_settings (v : Vault) (s : State) : (emergencyEnd v s).1.settings = s.settings := by
  unfold emergencyEnd
  dsimp only
  (repeat' split) <;> first | rfl | simp

@[simp] theorem beginDoors_settings (v : Vault) (s : State) : (beginDoors v s).settings = s.settings := by
  unfold beginDoors
  split <;> simp

@[simp] theorem disableDoors_settings (v : Vault) (s : State) : (disableDoors v s).settings = s.settings := by
  simp [disableDoors]

@[simp] theorem lapsePair_settings (v : Vault) (s : State) : (lapsePair v s).settings = s.settings := by
  unfold lapsePair
  split <;> simp

@[simp] theorem alertsAtChange_settings (v : Vault) (old new : SsqState) (s : State) :
    (alertsAtChange v old new s).settings = s.settings := by
  simp [alertsAtChange, apply_ite State.settings]

@[simp] theorem neighboursAtChange_settings (v : Vault) (old new : SsqState) (s : State) :
    (neighboursAtChange v old new s).settings = s.settings := by
  unfold neighboursAtChange
  split <;> simp

@[simp] theorem inhibitedAtChange_settings (v : Vault) (old new : SsqState) (s : State) :
    (inhibitedAtChange v old new s).1.settings = s.settings := by
  unfold inhibitedAtChange
  dsimp only
  (repeat' split) <;> first | rfl | simp

@[simp] theorem changeState_settings (v : Vault) (q : SsqRecord) (s : State) :
    (changeState v q s).1.settings = s.settings := by
  simp [changeState]

@[simp] theorem enter_settings (v : Vault) (q : SsqRecord) (s : State) : (enter v q s).settings = s.settings := by
  simp [enter]

@[simp] theorem enterReleasing_settings (v : Vault) (s : State) : (enterReleasing v s).settings = s.settings := by
  simp [enterReleasing]

@[simp] theorem expireCountdown_settings (v : Vault) (s : State) : (expireCountdown v s).settings = s.settings := by
  unfold expireCountdown
  split <;> simp

@[simp] theorem resumeCountdown_settings (v : Vault) (s : State) : (resumeCountdown v s).settings = s.settings := by
  unfold resumeCountdown
  dsimp only
  split <;> simp

@[simp] theorem recheckHolds_settings (v : Vault) (s : State) : (recheckHolds v s).settings = s.settings := by
  unfold recheckHolds
  dsimp only
  (repeat' split) <;> first | rfl | simp

@[simp] theorem setEgress_settings (v : Vault) (e : EgressCondition) (s : State) :
    (setEgress v e s).settings = s.settings := by
  simp [setEgress]

@[simp] theorem egressPressed_settings (v : Vault) (s : State) : (egressPressed v s).settings = s.settings := by
  unfold egressPressed
  split <;> simp

@[simp] theorem egressConsumed_settings (v : Vault) (s : State) : (egressConsumed v s).settings = s.settings := by
  unfold egressConsumed
  split <;> simp

@[simp] theorem egressUnopened_settings (v : Vault) (s : State) : (egressUnopened v s).settings = s.settings := by
  unfold egressUnopened
  split <;> simp

@[simp] theorem contactLeft_settings (v : Vault) (s : State) : (contactLeft v s).settings = s.settings := by
  simp [contactLeft, apply_ite State.settings]

@[simp] theorem moveTo_settings (v : Vault) (q : SsqRecord) (s : State) : (moveTo v q s).settings = s.settings := by
  unfold moveTo
  dsimp only
  split <;> simp

@[simp] theorem commit_settings (v : Vault) (s : State) : (commit v s).settings = s.settings := by
  rfl

@[simp] theorem beginCountdown_settings (v : Vault) (path : Path) (s : State) :
    (beginCountdown v path s).settings = s.settings := by
  simp [beginCountdown]

@[simp] theorem inhibit_settings (v : Vault) (s : State) : (inhibit v s).settings = s.settings := by
  simp [inhibit]

@[simp] theorem confirmFire_settings (v : Vault) (s : State) : (confirmFire v s).settings = s.settings := by
  simp [confirmFire, apply_ite State.settings]

@[simp] theorem enterAlert_settings (v : Vault) (s : State) : (enterAlert v s).settings = s.settings := by
  simp [enterAlert]

@[simp] theorem judgeDetectors_settings (v : Vault) (s : State) : (judgeDetectors v s).settings = s.settings := by
  simp [judgeDetectors, apply_ite State.settings]

@[simp] theorem detectorTaken_settings (v : Vault) (active : Bool) (s : State) :
    (detectorTaken v active s).settings = s.settings := by
  unfold detectorTaken
  (repeat' split) <;> first | rfl | simp

@[simp] theorem occupancyReported_settings (v : Vault) (s : State) :
    (occupancyReported v s).settings = s.settings := by
  unfold occupancyReported
  dsimp only
  (repeat' split) <;> first | rfl | simp

@[simp] theorem manualRelease_settings (v : Vault) (s : State) : (manualRelease v s).settings = s.settings := by
  unfold manualRelease
  dsimp only
  (repeat' split) <;> first | rfl | simp

@[simp] theorem abortTaken_settings (v : Vault) (state : Reading) (s : State) :
    (abortTaken v state s).settings = s.settings := by
  unfold abortTaken
  dsimp only
  (repeat' split) <;> first | rfl | simp

@[simp] theorem abortLapsed_settings (v : Vault) (s : State) : (abortLapsed v s).settings = s.settings := by
  simp [abortLapsed]

@[simp] theorem enterDischarged_settings (v : Vault) (d : DischargeDetail) (s : State) :
    (enterDischarged v d s).settings = s.settings := by
  simp [enterDischarged]

@[simp] theorem pulseEnded_settings (v : Vault) (s : State) : (pulseEnded v s).settings = s.settings := by
  unfold pulseEnded
  dsimp only
  split <;> simp

@[simp] theorem dischargeActive_settings (v : Vault) (s : State) : (dischargeActive v s).settings = s.settings := by
  unfold dischargeActive
  split <;> simp

@[simp] theorem isolate_settings (v : Vault) (s : State) : (isolate v s).settings = s.settings := by
  unfold isolate
  split <;> simp

@[simp] theorem returnToQuiet_settings (v : Vault) (s : State) : (returnToQuiet v s).settings = s.settings := by
  simp [returnToQuiet]

@[simp] theorem deisolate_settings (v : Vault) (s : State) : (deisolate v s).settings = s.settings := by
  unfold deisolate
  split <;> simp

@[simp] theorem resetDischarged_settings (v : Vault) (s : State) : (resetDischarged v s).settings = s.settings := by
  unfold resetDischarged
  dsimp only
  (repeat' split) <;> first | rfl | simp

@[simp] theorem disableSequencer_settings (v : Vault) (s : State) : (disableSequencer v s).settings = s.settings := by
  unfold disableSequencer
  dsimp only
  (repeat' split) <;> first | rfl | simp

@[simp] theorem enableSequencer_settings (v : Vault) (s : State) : (enableSequencer v s).settings = s.settings := by
  rfl

@[simp] theorem reporting_settings (v : Vault) (f : State → State) (s : State) (h : ∀ s, (f s).settings = s.settings) :
    (reporting v f s).settings = s.settings := by
  unfold reporting
  simp [apply_ite State.settings, h]

@[simp] theorem settleRegister_settings (v : Vault) (fresh : List Nat) (s : State) :
    (settleRegister v fresh s).settings = s.settings := by
  simp [settleRegister]

@[simp] theorem removeOccupant_settings (v : Vault) (s : State) (number : Nat) :
    (removeOccupant v s number).settings = s.settings := by
  unfold removeOccupant
  split <;> simp

@[simp] theorem applyGrant_settings (v : Vault) (g : VaultGrant) (time : Instant) (s : State) :
    (applyGrant v g time s).settings = s.settings := by
  simp [applyGrant, foldl_settings]

@[simp] theorem consumeGrant_settings (v : Vault) (g : VaultGrant) (egress : Bool) (time : Instant) (s : State) :
    (consumeGrant v g egress time s).settings = s.settings := by
  simp [consumeGrant, apply_ite State.settings]

@[simp] theorem consumeEgress_settings (v : Vault) (s : State) : (consumeEgress v s).settings = s.settings := by
  unfold consumeEgress
  split <;> simp

@[simp] theorem openConsuming_settings (v : Vault) (time : Instant) (s : State) :
    (openConsuming v time s).settings = s.settings := by
  unfold openConsuming
  apply reporting_settings
  intro s
  dsimp only
  (repeat' split) <;> simp

@[simp] theorem openForced_settings (v : Vault) (first : Bool) (s : State) : (openForced v first s).settings = s.settings := by
  unfold openForced
  apply reporting_settings
  intro s
  dsimp only
  split <;> simp

@[simp] theorem openEmergency_settings (v : Vault) (time : Instant) (s : State) :
    (openEmergency v time s).settings = s.settings := by
  unfold openEmergency
  apply reporting_settings
  intro s
  dsimp only
  split <;> simp

@[simp] theorem vaultOpened_settings (v : Vault) (first : Bool) (time : Instant) (s : State) :
    (vaultOpened v first time s).settings = s.settings := by
  unfold vaultOpened
  (repeat' split) <;> first | rfl | simp

@[simp] theorem handExitGrant_settings (v : Vault) (exiting : List Nat) (s : State) :
    (handExitGrant v exiting s).settings = s.settings := by
  unfold handExitGrant
  dsimp only
  split
  · rw [causeDoors_settings, reporting_settings]
    simp
  · simp

@[simp] theorem egressLapsed_settings (v : Vault) (s : State) : (egressLapsed v s).settings = s.settings := by
  simp [egressLapsed]

@[simp] theorem releaseEnds_settings (v : Vault) (s : State) : (releaseEnds v s).settings = s.settings := by
  simp [releaseEnds, apply_ite State.settings]

@[simp] theorem latchVault_settings (v : Vault) (s : State) : (latchVault v s).settings = s.settings := by
  simp [latchVault, apply_ite State.settings]

@[simp] theorem evacuationCompleted_settings (s : State) : (evacuationCompleted s).settings = s.settings := by
  simp [evacuationCompleted, apply_ite State.settings, foldl_settings, eachVault_settings]

@[simp] theorem latchEnds_settings (s : State) : (latchEnds s).settings = s.settings := by
  simp [latchEnds, eachVault_settings]

@[simp] theorem lockdownVault_settings (v : Vault) (s : State) : (lockdownVault v s).settings = s.settings := by
  simp [lockdownVault]

@[simp] theorem repeatLockouts_settings (s : State) : (repeatLockouts s).settings = s.settings := by
  simp [repeatLockouts, foldl_settings]

@[simp] theorem checkEntry_settings (v : Vault) (number : Nat) (digits : List Nat) (except : Option Vault) (s : State) :
    (checkEntry v number digits except s).1.settings = s.settings := by
  unfold checkEntry
  dsimp only
  (repeat' split) <;> first | rfl | simp

theorem checkEntry_settings_of_eq {v : Vault} {number : Nat} {digits : List Nat} {except : Option Vault} {s t : State}
    {r : Except Verdict (Nat × CredRecord × Bool)} (h : checkEntry v number digits except s = (t, r)) :
    t.settings = s.settings := by
  have := checkEntry_settings v number digits except s
  rwa [h] at this

@[simp] theorem presentOuter_settings (v : Vault) (number : Nat) (digits : List Nat) (s : State) :
    (presentOuter v number digits s).1.settings = s.settings := by
  unfold presentOuter
  split
  · next h => exact checkEntry_settings_of_eq h
  · next h => (repeat' split) <;> simp [checkEntry_settings_of_eq h]

@[simp] theorem admit_settings (v : Vault) (set : List EnteringEntry) (pair : Bool) (s : State) :
    (admitSet v set pair s).1.settings = s.settings := by
  unfold admitSet
  (repeat' split) <;> first | rfl | (simp [apply_ite State.settings, foldl_settings, eachVault_settings]; done) | (simp [apply_ite State.settings]; rfl)

@[simp] theorem admitAlone_settings (v : Vault) (number : Nat) (duress : Bool) (s : State) :
    (admitAlone v number duress s).1.settings = s.settings := by
  simp [admitAlone]

@[simp] theorem formPair_settings (v : Vault) (number : Nat) (duress : Bool) (s : State) :
    (formPair v number duress s).settings = s.settings := by
  rfl

@[simp] theorem decideAlone_settings (v : Vault) (number : Nat) (duress : Bool) (s : State) :
    (decideAlone v number duress s).1.settings = s.settings := by
  unfold decideAlone
  (repeat' split) <;> first | rfl | simp

@[simp] theorem meetPair_settings (v : Vault) (p : PendingPair) (number : Nat) (duress : Bool) (s : State) :
    (meetPair v p number duress s).1.settings = s.settings := by
  unfold meetPair
  (repeat' split) <;> first | rfl | simp

@[simp] theorem firstAgain_settings (v : Vault) (p : PendingPair) (duress : Bool) (s : State) :
    (firstAgain v p duress s).1.settings = s.settings := by
  unfold firstAgain
  split <;> simp

@[simp] theorem presentInner_settings (v : Vault) (number : Nat) (digits : List Nat) (s : State) :
    (presentInner v number digits s).1.settings = s.settings := by
  unfold presentInner
  split
  · next h => exact checkEntry_settings_of_eq h
  · next h =>
    dsimp only
    (repeat' split) <;> simp [checkEntry_settings_of_eq h]

@[simp] theorem presentCheckIn_settings (v : Vault) (number : Nat) (s : State) :
    (presentCheckIn v number s).1.settings = s.settings := by
  unfold presentCheckIn
  split <;> simp

@[simp] theorem appendExit_settings (v : Vault) (g : VaultGrant) (number : Nat) (s : State) :
    (appendExit v g number s).settings = s.settings := by
  simp [appendExit, apply_ite State.settings]

@[simp] theorem presentExit_settings (v : Vault) (number : Nat) (s : State) :
    (presentExit v number s).1.settings = s.settings := by
  unfold presentExit
  split <;> simp

@[simp] theorem decidePresentation_settings (a : ReaderAddress) (number : Nat) (purpose : Purpose) (digits : List Nat) (s : State) :
    (decidePresentation a number purpose digits s).1.settings = s.settings := by
  unfold decidePresentation
  (repeat' split) <;> first | rfl | simp

@[simp] theorem present_settings (a : ReaderAddress) (number : Nat) (purpose : Purpose) (digits : List Nat) (s : State) :
    (present a number purpose digits s).settings = s.settings := by
  unfold present
  dsimp only
  split <;> simp

@[simp] theorem sampleLines_settings (r : Readings) (s : State) : (sampleLines r s).settings = s.settings := by
  unfold sampleLines
  refine Eq.trans rfl (eachVault_settings _ (fun v s => ?_) s)
  split <;> rfl

@[simp] theorem lineFault_settings (id : LineIdentity) (new : Reading) (s : State) :
    (lineFault id new s).settings = s.settings := by
  unfold lineFault
  split <;> simp

@[simp] theorem deliverLine_settings (v : Vault) (l : Line) (old : Option Reading) (new : Reading) (time : Instant) (s : State) :
    (deliverLine v l old new time s).settings = s.settings := by
  unfold deliverLine
  dsimp only
  (repeat' split) <;> first | rfl | simp

@[simp] theorem takeLine_settings (v : Vault) (l : Line) (s : State) : (takeLine v l s).settings = s.settings := by
  unfold takeLine
  dsimp only
  (repeat' split) <;> first | rfl | simp

@[simp] theorem takeRelease_settings (v : Vault) (s : State) : (takeRelease v s).settings = s.settings := by
  unfold takeRelease
  dsimp only
  (repeat' split) <;> first | rfl | simp

@[simp] theorem recheckAllHolds_settings (s : State) : (recheckAllHolds s).settings = s.settings := by
  simp [recheckAllHolds, eachVault_settings]

@[simp] theorem judgeHoldAll_settings (s : State) : (judgeHoldAll s).settings = s.settings := by
  unfold judgeHoldAll
  dsimp only
  split <;> simp

@[simp] theorem judgeCombination_settings (s : State) : (judgeCombination s).settings = s.settings := by
  unfold judgeCombination
  dsimp only
  split <;> simp

@[simp] theorem takeSiteLine_settings (i : SiteLine) (s : State) : (takeSiteLine i s).settings = s.settings := by
  unfold takeSiteLine
  dsimp only
  (repeat' split) <;> first | rfl | simp

@[simp] theorem tickCombination_settings (s : State) : (tickCombination s).settings = s.settings := by
  unfold tickCombination
  (repeat' split) <;> first | rfl | simp

@[simp] theorem completeCombination_settings (s : State) : (completeCombination s).settings = s.settings := by
  simp [completeCombination]

@[simp] theorem roleFault_settings (i : SiteLine) (old new : Role) (s : State) :
    (roleFault i old new s).settings = s.settings := by
  unfold roleFault
  (repeat' split) <;> first | rfl | simp

@[simp] theorem disableLines_settings (v : Vault) (s : State) : (disableLines v s).settings = s.settings := by
  unfold disableLines
  rw [State.withLines_settings, endCondition_settings]
  exact foldl_settings _ (fun s l => endCondition_settings _ s) _ s

@[simp] theorem beginTransaction_settings (s : State) : (beginTransaction s).settings = s.settings := by
  unfold beginTransaction
  split <;> simp

@[simp] theorem endTransaction_settings (s : State) : (endTransaction s).settings = s.settings := by
  rfl

@[simp] theorem transactionMissed_settings (s : State) : (transactionMissed s).settings = s.settings := by
  unfold transactionMissed
  split <;> simp

@[simp] theorem presentReply_settings (a : ReaderAddress) (number : Nat) (purpose : Purpose) (digits : List Nat) (s : State) :
    (presentReply a number purpose digits s).settings = s.settings := by
  unfold presentReply
  dsimp only
  split <;> simp

@[simp] theorem takeReply_settings (a : ReaderAddress) (bytes : List Byte) (s : State) :
    (takeReply a bytes s).settings = s.settings := by
  unfold takeReply
  split <;> simp

@[simp] theorem transactionReplied_settings (bytes : List Byte) (s : State) :
    (transactionReplied bytes s).settings = s.settings := by
  unfold transactionReplied
  split <;> simp

@[simp] theorem disableOnLine_settings (v : Vault) (s : State) : (disableOnLine v s).settings = s.settings := by
  rfl

@[simp] theorem enableOnLine_settings (s : State) : (enableOnLine s).settings = s.settings := by
  unfold enableOnLine
  split <;> simp

@[simp] theorem chirp_settings (v : Vault) (s : State) : (chirp v s).settings = s.settings := by
  simp [chirp]

@[simp] theorem escalate_settings (id : Nat) (s : State) : (escalate id s).settings = s.settings := by
  rfl

@[simp] theorem tickTimers_settings (s : State) : (tickTimers s).settings = s.settings := by
  rfl

@[simp] theorem ok_settings (b : Body) (s : State) : (ok b s).1.settings = s.settings := by
  rfl

@[simp] theorem refuse_settings (st : Status) (s : State) : (refuse st s).1.settings = s.settings := by
  rfl

@[simp] theorem refuseFor_settings (v : Verdict) (s : State) : (refuseFor v s).1.settings = s.settings := by
  rfl

@[simp] theorem answerRequest_settings (code : Nat) (f : Service) (s : State) (h : ∀ s, (f s).1.settings = s.settings) :
    (answerRequest code f s).1.settings = s.settings := by
  unfold answerRequest
  first
    | (simp [h]; done)
    | ((repeat' split) <;> simp [h])

@[simp] theorem holdResponse_settings (code : Nat) (tag : Byte) (a : Answer) (s : State) :
    (holdResponse code tag a s).settings = s.settings := by
  rfl

@[simp] theorem changed_settings (slot : Nat) (s : State) : (changed slot s).1.settings = s.settings := by
  simp [changed]

@[simp] theorem placeRecord_settings (slot : Nat) (r : CredRecord) (s : State) :
    (placeRecord slot r s).settings = s.settings := by
  simp [placeRecord]

@[simp] theorem lookupCredential_settings (number : Nat) (s : State) :
    (lookupCredential number s).1.settings = s.settings := by
  unfold lookupCredential
  simp only [onVault, onEnabled, onDoor, onRecord, onNumber, onSlot, onAlarm, refuse, refuseFor, ok]
  (repeat' split) <;> first | rfl | simp

@[simp] theorem readSlot_settings (slot : Nat) (s : State) : (readSlot slot s).1.settings = s.settings := by
  unfold readSlot
  simp only [onVault, onEnabled, onDoor, onRecord, onNumber, onSlot, onAlarm, refuse, refuseFor, ok]
  (repeat' split) <;> first | rfl | simp

@[simp] theorem forgetSome_settings (number : Option Nat) (s : State) :
    (forgetSome number s).settings = s.settings := by
  unfold forgetSome
  split <;> simp

@[simp] theorem writeCredential_settings (w : CredentialWrite) (s : State) :
    (writeCredential w s).1.settings = s.settings := by
  unfold writeCredential
  simp only [onVault, onEnabled, onDoor, onRecord, onNumber, onSlot, onAlarm, refuse, refuseFor, ok]
  (repeat' split) <;> first | rfl | simp

@[simp] theorem changeVaults_settings (number : Nat) (next : VaultSet → VaultSet) (s : State) :
    (changeVaults number next s).1.settings = s.settings := by
  unfold changeVaults
  simp only [onRecord, onNumber, refuse, ok]
  (repeat' split) <;> simp

@[simp] theorem grantVaults_settings (number : Nat) (vaults : VaultSet) (s : State) :
    (grantVaults number vaults s).1.settings = s.settings := by
  simp [grantVaults]

@[simp] theorem revokeVaults_settings (number : Nat) (vaults : VaultSet) (s : State) :
    (revokeVaults number vaults s).1.settings = s.settings := by
  simp [revokeVaults]

@[simp] theorem suspend_settings (number : Nat) (s : State) : (suspend number s).1.settings = s.settings := by
  unfold suspend
  simp only [onVault, onEnabled, onDoor, onRecord, onNumber, onSlot, onAlarm, refuse, refuseFor, ok]
  (repeat' split) <;> first | rfl | simp

@[simp] theorem reinstate_settings (number : Nat) (s : State) : (reinstate number s).1.settings = s.settings := by
  unfold reinstate
  simp only [onVault, onEnabled, onDoor, onRecord, onNumber, onSlot, onAlarm, refuse, refuseFor, ok]
  (repeat' split) <;> first | rfl | simp

@[simp] theorem retire_settings (number : Nat) (s : State) : (retire number s).1.settings = s.settings := by
  unfold retire
  simp only [onVault, onEnabled, onDoor, onRecord, onNumber, onSlot, onAlarm, refuse, refuseFor, ok]
  (repeat' split) <;> first | rfl | simp

@[simp] theorem purge_settings (slot : Nat) (s : State) : (purge slot s).1.settings = s.settings := by
  unfold purge
  simp only [onVault, onEnabled, onDoor, onRecord, onNumber, onSlot, onAlarm, refuse, refuseFor, ok]
  (repeat' split) <;> first | rfl | simp

@[simp] theorem findFreeSlot_settings (s : State) : (findFreeSlot s).1.settings = s.settings := by
  unfold findFreeSlot
  simp only [onVault, onEnabled, onDoor, onRecord, onNumber, onSlot, onAlarm, refuse, refuseFor, ok]
  (repeat' split) <;> first | rfl | simp

@[simp] theorem storeStatus_settings (s : State) : (storeStatus s).1.settings = s.settings := by
  simp [storeStatus]

@[simp] theorem getTime_settings (s : State) : (getTime s).1.settings = s.settings := by
  simp [getTime]

@[simp] theorem readHolidays_settings (s : State) : (readHolidays s).1.settings = s.settings := by
  simp [readHolidays]

@[simp] theorem readSchedule_settings (schedule : Nat) (s : State) :
    (readSchedule schedule s).1.settings = s.settings := by
  unfold readSchedule
  simp only [onVault, onEnabled, onDoor, onRecord, onNumber, onSlot, onAlarm, refuse, refuseFor, ok]
  (repeat' split) <;> first | rfl | simp

@[simp] theorem testOutput_settings (vault : Nat) (cadence : Option Cadence) (tone : Option Tone) (strobe : Option Bool) (seconds : Nat) (s : State) :
    (testOutput vault cadence tone strobe seconds s).1.settings = s.settings := by
  unfold testOutput
  simp only [onVault, onEnabled, onDoor, onRecord, onNumber, onSlot, onAlarm, refuse, refuseFor, ok]
  (repeat' split) <;> first | rfl | simp

@[simp] theorem vaultLineStatus_settings (v : Vault) (s : State) : (vaultLineStatus v s).1.settings = s.settings := by
  simp [vaultLineStatus]

@[simp] theorem siteLineStatus_settings (s : State) : (siteLineStatus s).1.settings = s.settings := by
  simp [siteLineStatus]

@[simp] theorem getLineStatus_settings (scope : SiteScope) (s : State) : (getLineStatus scope s).1.settings = s.settings := by
  cases scope <;> simp only [getLineStatus, onVault, refuse, siteLineStatus_settings]
  split <;> simp

@[simp] theorem getReaderStatus_settings (scope : ReaderScope) (s : State) :
    (getReaderStatus scope s).1.settings = s.settings := by
  unfold getReaderStatus
  simp only [onVault, onEnabled, onDoor, onRecord, onNumber, onSlot, onAlarm, refuse, refuseFor, ok]
  (repeat' split) <;> first | rfl | simp

@[simp] theorem releaseOuter_settings (v : Vault) (s : State) : (releaseOuter v s).1.settings = s.settings := by
  unfold releaseOuter
  simp only [onVault, onEnabled, onDoor, onRecord, onNumber, onSlot, onAlarm, refuse, refuseFor, ok]
  (repeat' split) <;> first | rfl | simp

@[simp] theorem releaseVault_settings (v : Vault) (numbers : List Nat) (s : State) :
    (releaseVault v numbers s).1.settings = s.settings := by
  unfold releaseVault
  simp only [onVault, onEnabled, onDoor, onRecord, onNumber, onSlot, onAlarm, refuse, refuseFor, ok]
  (repeat' split) <;> first | rfl | simp

@[simp] theorem releaseDoor_settings (vault : Nat) (door : Option Door) (entering : Option (List Nat)) (s : State) :
    (releaseDoor vault door entering s).1.settings = s.settings := by
  unfold releaseDoor
  simp only [onVault, onEnabled, onDoor, onRecord, onNumber, onSlot, onAlarm, refuse, refuseFor, ok]
  (repeat' split) <;> first | rfl | simp

@[simp] theorem secureVault_settings (v : Vault) (s : State) : (secureVault v s).settings = s.settings := by
  unfold secureVault
  dsimp only
  (repeat' split) <;> first | rfl | simp

@[simp] theorem secureDoor_settings (vault : Nat) (door : Option Door) (s : State) :
    (secureDoor vault door s).1.settings = s.settings := by
  unfold secureDoor
  simp only [onVault, onEnabled, onDoor, onRecord, onNumber, onSlot, onAlarm, refuse, refuseFor, ok]
  (repeat' split) <;> first | rfl | simp

@[simp] theorem holdDoor_settings (vault : Nat) (door : Option Door) (seconds : Nat) (s : State) :
    (holdDoor vault door seconds s).1.settings = s.settings := by
  unfold holdDoor
  simp only [onVault, onEnabled, onDoor, onRecord, onNumber, onSlot, onAlarm, refuse, refuseFor, ok]
  (repeat' split) <;> first | rfl | simp

@[simp] theorem getDoorStatus_settings (vault : Nat) (s : State) :
    (getDoorStatus vault s).1.settings = s.settings := by
  unfold getDoorStatus
  simp only [onVault, onEnabled, onDoor, onRecord, onNumber, onSlot, onAlarm, refuse, refuseFor, ok]
  (repeat' split) <;> first | rfl | simp

@[simp] theorem listOccupants_settings (vault : Nat) (s : State) :
    (listOccupants vault s).1.settings = s.settings := by
  unfold listOccupants
  simp only [onVault, onEnabled, onDoor, onRecord, onNumber, onSlot, onAlarm, refuse, refuseFor, ok]
  (repeat' split) <;> first | rfl | simp

@[simp] theorem addOccupant_settings (v : Vault) (number : Nat) (link : Option Nat) (s : State) :
    (addOccupant v number link s).settings = s.settings := by
  simp [addOccupant]

@[simp] theorem addOccupantRequest_settings (vault number : Nat) (link : Option Nat) (s : State) :
    (addOccupantRequest vault number link s).1.settings = s.settings := by
  unfold addOccupantRequest
  simp only [onVault, onEnabled, onDoor, onRecord, onNumber, onSlot, onAlarm, refuse, refuseFor, ok]
  (repeat' split) <;> first | rfl | simp

@[simp] theorem dropOccupant_settings (v : Vault) (number : Nat) (s : State) :
    (dropOccupant v number s).settings = s.settings := by
  simp [dropOccupant]

@[simp] theorem removeOccupantRequest_settings (number : Nat) (s : State) :
    (removeOccupantRequest number s).1.settings = s.settings := by
  unfold removeOccupantRequest
  simp only [onVault, onEnabled, onDoor, onRecord, onNumber, onSlot, onAlarm, refuse, refuseFor, ok]
  (repeat' split) <;> first | rfl | simp

@[simp] theorem confirmOccupancy_settings (vault : Nat) (s : State) :
    (confirmOccupancy vault s).1.settings = s.settings := by
  unfold confirmOccupancy
  simp only [onVault, onEnabled, onDoor, onRecord, onNumber, onSlot, onAlarm, refuse, refuseFor, ok]
  (repeat' split) <;> first | rfl | simp

@[simp] theorem globalHold_settings (value : Option Bool) (s : State) :
    (globalHold value s).1.settings = s.settings := by
  unfold globalHold
  simp only [onVault, onEnabled, onDoor, onRecord, onNumber, onSlot, onAlarm, refuse, refuseFor, ok]
  (repeat' split) <;> first | rfl | (simp [apply_ite State.settings, apply_ite Prod.fst]; done) | (simp; rfl)

@[simp] theorem readSuppressionParams_settings (vault : Nat) (s : State) :
    (readSuppressionParams vault s).1.settings = s.settings := by
  unfold readSuppressionParams
  simp only [onVault, onEnabled, onDoor, onRecord, onNumber, onSlot, onAlarm, refuse, refuseFor, ok]
  (repeat' split) <;> first | rfl | simp

@[simp] theorem sequencerAnswer_settings (v : Vault) (s : State) : (sequencerAnswer v s).1.settings = s.settings := by
  simp [sequencerAnswer]

@[simp] theorem resetSuppression_settings (vault : Nat) (s : State) :
    (resetSuppression vault s).1.settings = s.settings := by
  unfold resetSuppression
  simp only [onVault, onEnabled, onDoor, onRecord, onNumber, onSlot, onAlarm, refuse, refuseFor, ok]
  (repeat' split) <;> first | rfl | simp

@[simp] theorem getSuppressionStatus_settings (vault : Nat) (s : State) :
    (getSuppressionStatus vault s).1.settings = s.settings := by
  unfold getSuppressionStatus
  simp only [onVault, onEnabled, onDoor, onRecord, onNumber, onSlot, onAlarm, refuse, refuseFor, ok]
  (repeat' split) <;> first | rfl | simp

@[simp] theorem ackAlarm_settings (id : Nat) (s : State) : (ackAlarm id s).1.settings = s.settings := by
  unfold ackAlarm
  simp only [onVault, onEnabled, onDoor, onRecord, onNumber, onSlot, onAlarm, refuse, refuseFor, ok]
  (repeat' split) <;> first | rfl | simp

@[simp] theorem clearAlarm_settings (id : Nat) (s : State) : (clearAlarm id s).1.settings = s.settings := by
  unfold clearAlarm
  simp only [onVault, onEnabled, onDoor, onRecord, onNumber, onSlot, onAlarm, refuse, refuseFor, ok]
  (repeat' split) <;> first | rfl | simp

@[simp] theorem listAlarms_settings (start : Nat) (filter : Option AlarmFilter) (s : State) :
    (listAlarms start filter s).1.settings = s.settings := by
  unfold listAlarms
  simp only [onVault, onEnabled, onDoor, onRecord, onNumber, onSlot, onAlarm, refuse, refuseFor, ok]
  (repeat' split) <;> first | rfl | simp

@[simp] theorem readAlarm_settings (id : Nat) (s : State) : (readAlarm id s).1.settings = s.settings := by
  unfold readAlarm
  simp only [onVault, onEnabled, onDoor, onRecord, onNumber, onSlot, onAlarm, refuse, refuseFor, ok]
  (repeat' split) <;> first | rfl | simp

@[simp] theorem getAttention_settings (s : State) : (getAttention s).1.settings = s.settings := by
  simp [getAttention]

@[simp] theorem setAttentionEnable_settings (enable : Causes) (s : State) :
    (setAttentionEnable enable s).1.settings = s.settings := by
  simp [setAttentionEnable]

@[simp] theorem getSiteStatus_settings (s : State) : (getSiteStatus s).1.settings = s.settings := by
  simp [getSiteStatus]

@[simp] theorem readParams_settings (group : SiteScope) (s : State) : (readParams group s).1.settings = s.settings := by
  cases group <;> simp only [readParams, onVault, refuse, ok]
  split <;> simp

@[simp] theorem restart_settings (s : State) : (restart s).1.settings = s.settings := by
  simp [restart]

@[simp] theorem getResetCause_settings (s : State) : (getResetCause s).1.settings = s.settings := by
  simp [getResetCause]

end Sys2Proof.Machine
end

