-- ==== Sys2Proof/Laws/Steps.lean ====
section
/-!
SUPPORT. What the forms of a command do: settling, taking an event of the last tick, and answering a request.
-/

namespace Sys2Proof.Machine

/-! ## Settling -/

theorem settle_due (s : State) : (settle s).due = [] := rfl

/-- With no event waiting, settling changes nothing. -/
theorem settle_of_nil {s : State} (h : s.due = []) : settle s = s := by
  unfold settle
  rw [h]
  cases s
  cases h
  rfl

theorem settle_settle (s : State) : settle (settle s) = settle s := settle_of_nil (settle_due s)

theorem settle_phase (s : State) : (settle s).phase = s.phase := congrArg (fun x => x.2.1) (settle_fixed s)

theorem settle_pending (s : State) : (settle s).pending = s.pending :=
  congrArg (fun x => x.2.2.2.2.2.2) (settle_fixed s)

/-! ## Events -/

theorem event_awake (f : State → State) {s : State} (h : s.phase ≠ .reset) : event f s = .next (f s) := by
  simp [event, h]

theorem event_reset (f : State → State) {s : State} (h : s.phase = .reset) : event f s = .next s := by
  simp [event, h]

theorem settledEvent_awake (f : State → State) {s : State} (h : s.awake) : settledEvent f s = .next (f s) := by
  rw [settledEvent, settle_of_nil h.2, event_awake f h.1]

/-- Whether an event still stands does not depend on the events that wait. -/
theorem stillDue_due (s : State) (l : List Due) (d : Due) : State.stillDue { s with due := l } d = s.stillDue d := by
  cases d <;> rfl

/-- The command of an event that waits takes it. -/
theorem takeDue_comes {s : State} {d : Due} (h : s.comes d) : takeDue d s = perform d (s.without d) := by
  unfold takeDue performDue State.without
  rw [if_pos h.2.1, if_pos (by rw [stillDue_due]; exact h.2.2)]

/-- An event that does not wait has no effect. -/
theorem takeDue_absent {s : State} {d : Due} (h : d ∉ s.due) : takeDue d s = s := by
  unfold takeDue
  rw [if_neg h]

theorem event_comes {s : State} {d : Due} (h : s.comes d) : event (takeDue d) s = .next (perform d (s.without d)) := by
  rw [event_awake _ h.1, takeDue_comes h]

/-! ## Requests -/

/-- The link record after an answer. -/
theorem holdResponse_eq (code : Nat) (tag : Byte) (a : Answer) (s : State) (h : s.link.tag = tag) :
    holdResponse code tag a s = s.answered code a.status a.body := by
  subst h
  rfl

/-- A request that reaches its owner in a part that is ready. -/
theorem hostRequest_ready (code : Nat) (f : Service) {s : State} (h : s.ready) :
    hostRequest code f s = .next (holdResponse code s.link.tag (f s).2 (f s).1) := by
  unfold hostRequest acceptRequest
  rw [settle_of_nil h.2]
  simp [h.1, answerRequest]

/-- A request whose owner leaves the tag of the request buffer alone. -/
theorem hostRequest_answered (code : Nat) (f : Service) {s : State} (h : s.ready) (ht : (f s).1.link.tag = s.link.tag) :
    hostRequest code f s = .next ((f s).1.answered code (f s).2.status (f s).2.body) := by
  rw [hostRequest_ready code f h, holdResponse_eq code _ _ _ ht]

/-- A request whose owner changes nothing. -/
theorem hostRequest_unchanged (code : Nat) (f : Service) {s : State} (h : s.ready) {a : Answer} (hf : f s = (s, a)) :
    hostRequest code f s = .next (s.answered code a.status a.body) := by
  rw [hostRequest_answered code f h (by rw [hf]), hf]

/-- A request while the scan runs (R204). -/
theorem hostRequest_scanning (code : Nat) (f : Service) {s : State} (h : s.phase = .scanning) (hd : s.due = [])
    (hc : duringScan code = false) : hostRequest code f s = .next (s.answered code .notReady .empty) := by
  unfold hostRequest acceptRequest
  rw [settle_of_nil hd]
  simp [h, hc, answerRequest, refuse]
  exact holdResponse_eq _ _ _ _ rfl

/-- No request is taken while a reset is held. -/
theorem hostRequest_reset (code : Nat) (f : Service) {s : State} (h : s.phase = .reset) :
    hostRequest code f s = .next (settle s) := by
  unfold hostRequest acceptRequest
  simp [settle_phase, h]

end Sys2Proof.Machine
end

