-- ==== Sys2Proof/Laws/Store.lean ====
section
/-!
SUPPORT. The array: reading after a write, and the canonical form, which every operation on the array keeps.
-/

namespace Sys2Proof.Machine

/-! ## Lists with rising addresses -/

theorem risingFrom_weaken {α : Type} {b c : Nat} (h : c ≤ b) {m : List (Nat × α)} (hm : risingFrom (some b) m = true) :
    risingFrom (some c) m = true := by
  cases m with
  | nil => rfl
  | cons e m =>
    simp only [risingFrom, Bool.and_eq_true, decide_eq_true_eq] at hm ⊢
    exact ⟨Nat.lt_of_le_of_lt h hm.1, hm.2⟩

theorem risingFrom_none {α : Type} {b : Nat} {m : List (Nat × α)} (hm : risingFrom (some b) m = true) :
    risingFrom none m = true := by
  cases m with
  | nil => rfl
  | cons e m =>
    simp only [risingFrom, Bool.and_eq_true] at hm ⊢
    exact hm.2

/-- An address at or below the bound of a rising list is not listed. -/
theorem lookupAt_of_le {α : Type} {b j : Nat} (h : j ≤ b) {m : List (Nat × α)} (hm : risingFrom (some b) m = true) :
    lookupAt j m = none := by
  cases m with
  | nil => rfl
  | cons e m =>
    simp only [risingFrom, Bool.and_eq_true, decide_eq_true_eq] at hm
    have : j < e.1 := Nat.lt_of_le_of_lt h hm.1
    simp [lookupAt, Nat.ne_of_lt this, this]

theorem risingFrom_insertAt {α : Type} {b : Nat} (k : Nat) (a : α) (hk : b < k) {m : List (Nat × α)}
    (hm : risingFrom (some b) m = true) : risingFrom (some b) (insertAt k a m) = true := by
  induction m generalizing b with
  | nil => simpa [insertAt, risingFrom] using hk
  | cons e m ih =>
    simp only [risingFrom, Bool.and_eq_true, decide_eq_true_eq] at hm
    unfold insertAt
    split
    · next h => simp [risingFrom, hk, h, hm.2]
    · split
      · next h => subst h; simp [risingFrom, hk, hm.2]
      · next h h' =>
        have : e.1 < k := by omega
        simp [risingFrom, hm.1, ih this hm.2]

theorem risingFrom_removeAt {α : Type} {b : Nat} (k : Nat) {m : List (Nat × α)}
    (hm : risingFrom (some b) m = true) : risingFrom (some b) (removeAt k m) = true := by
  induction m generalizing b with
  | nil => rfl
  | cons e m ih =>
    simp only [risingFrom, Bool.and_eq_true, decide_eq_true_eq] at hm
    unfold removeAt
    split
    · exact risingFrom_weaken (Nat.le_of_lt hm.1) hm.2
    · simp [risingFrom, hm.1, ih hm.2]

theorem risingFrom_none_insertAt {α : Type} (k : Nat) (a : α) {m : List (Nat × α)} (hm : risingFrom none m = true) :
    risingFrom none (insertAt k a m) = true := by
  cases m with
  | nil => rfl
  | cons e m =>
    simp only [risingFrom] at hm
    unfold insertAt
    split
    · next h => simp [risingFrom, h, hm]
    · split
      · next h => subst h; simp [risingFrom, hm]
      · next h h' => simpa [risingFrom] using risingFrom_insertAt k a (by omega) hm

theorem risingFrom_none_removeAt {α : Type} (k : Nat) {m : List (Nat × α)} (hm : risingFrom none m = true) :
    risingFrom none (removeAt k m) = true := by
  cases m with
  | nil => rfl
  | cons e m =>
    simp only [risingFrom] at hm
    unfold removeAt
    split
    · exact risingFrom_none hm
    · simpa [risingFrom] using risingFrom_removeAt k hm

/-- Reading after an insertion: the value put there, and at every other address what stood there. -/
theorem lookupAt_insertAt {α : Type} (k j : Nat) (a : α) (m : List (Nat × α)) (hm : risingFrom none m = true) :
    lookupAt j (insertAt k a m) = if j = k then some a else lookupAt j m := by
  induction m with
  | nil => simp [insertAt, lookupAt]
  | cons e m ih =>
    have hm' : risingFrom (some e.1) m = true := by simpa [risingFrom] using hm
    unfold insertAt
    split
    · next h =>
      by_cases hj : j = k
      · simp [lookupAt, hj]
      · by_cases hlt : j < k
        · have h1 : j < e.1 := Nat.lt_trans hlt h
          simp [lookupAt, hj, hlt, h1, Nat.ne_of_lt h1]
        · simp [lookupAt, hj, hlt]
    · split
      · next h =>
        subst h
        by_cases hj : j = e.1
        · simp [lookupAt, hj]
        · simp [lookupAt, hj]
      · next h h' =>
        have ih' := ih (risingFrom_none hm')
        by_cases hj : j = e.1
        · have : ¬ j = k := by omega
          simp [lookupAt, hj, show ¬ e.1 = k by omega]
        · by_cases hlt : j < e.1
          · simp [lookupAt, hj, hlt, show ¬ j = k by omega]
          · simp [lookupAt, hj, hlt, ih']

/-- Reading after a removal: nothing there, and at every other address what stood there. -/
theorem lookupAt_removeAt {α : Type} (k j : Nat) (m : List (Nat × α)) (hm : risingFrom none m = true) :
    lookupAt j (removeAt k m) = if j = k then none else lookupAt j m := by
  induction m with
  | nil => simp [removeAt, lookupAt]
  | cons e m ih =>
    have hm' : risingFrom (some e.1) m = true := by simpa [risingFrom] using hm
    unfold removeAt
    split
    · next h =>
      by_cases hj : j = k
      · have hl : lookupAt j m = none := lookupAt_of_le (by omega) hm'
        simp [hj]
        rw [← hj]
        exact hl
      · by_cases hlt : j < e.1
        · have hl : lookupAt j m = none := lookupAt_of_le (Nat.le_of_lt hlt) hm'
          simp [lookupAt, hj, hlt, hl, show ¬ j = e.1 by omega]
        · simp [lookupAt, hj, hlt, show ¬ j = e.1 by omega]
    · next h =>
      by_cases hj : j = e.1
      · simp [lookupAt, hj, show ¬ e.1 = k by omega]
      · by_cases hlt : j < e.1
        · by_cases hk : j = k
          · subst hk
            simp [lookupAt, hj, hlt]
          · simp [lookupAt, hj, hlt, hk]
        · simp [lookupAt, hj, hlt, ih (risingFrom_none hm')]

theorem forall_insertAt {α : Type} (p : Nat × α → Bool) (k : Nat) (a : α) (hp : p (k, a) = true) :
    ∀ m : List (Nat × α), m.all p = true → (insertAt k a m).all p = true := by
  intro m
  induction m with
  | nil => intro _; simpa [insertAt] using hp
  | cons e m ih =>
    intro hm
    simp only [List.all_cons, Bool.and_eq_true] at hm
    unfold insertAt
    split
    · simp [hp, hm.1, hm.2]
    · split
      · simp [hp, hm.2]
      · simp [hm.1, ih hm.2]

theorem forall_removeAt {α : Type} (p : Nat × α → Bool) (k : Nat) :
    ∀ m : List (Nat × α), m.all p = true → (removeAt k m).all p = true := by
  intro m
  induction m with
  | nil => intro _; rfl
  | cons e m ih =>
    intro hm
    simp only [List.all_cons, Bool.and_eq_true] at hm
    unfold removeAt
    split
    · exact hm.2
    · simp [hm.1, ih hm.2]

/-- A stored value keeps the canonical form. -/
theorem canonical_storeAt {α : Type} [DecidableEq α] (dflt : α) (k : Nat) (a : α) {m : List (Nat × α)}
    (hm : canonical dflt m = true) : canonical dflt (storeAt dflt k a m) = true := by
  simp only [canonical, Bool.and_eq_true] at hm
  unfold storeAt
  split
  · simp only [canonical, Bool.and_eq_true]
    exact ⟨risingFrom_none_removeAt k hm.1, forall_removeAt _ k m hm.2⟩
  · next h =>
    simp only [canonical, Bool.and_eq_true]
    exact ⟨risingFrom_none_insertAt k a hm.1, forall_insertAt _ k a (by simpa using h) m hm.2⟩

/-- Reading after a stored value: that value there, and at every other address what stood there. -/
theorem lookupAt_storeAt {α : Type} [DecidableEq α] (dflt : α) (k j : Nat) (a : α) {m : List (Nat × α)}
    (hm : canonical dflt m = true) :
    (lookupAt j (storeAt dflt k a m)).getD dflt = if j = k then a else (lookupAt j m).getD dflt := by
  simp only [canonical, Bool.and_eq_true] at hm
  unfold storeAt
  split
  · next h => rw [lookupAt_removeAt k j m hm.1]; split <;> simp [h]
  · rw [lookupAt_insertAt k j a m hm.1]; split <;> simp

/-! ## The array -/

/-- A stored slot: its cell reads back, every other slot and every schedule record reads as before. -/
theorem NvArray.slotCell_storeSlot {a : NvArray} (h : a.canonical = true) (n m : Nat) (c : Cell (List Byte)) :
    (a.storeSlot n c).slotCell m = if m = n then c else a.slotCell m := by
  simp only [NvArray.canonical, Bool.and_eq_true] at h
  exact lookupAt_storeAt erasedSlot n m c h.1

theorem NvArray.scheduleCell_storeSchedule {a : NvArray} (h : a.canonical = true) (n m : Nat) (c : Cell (List Byte)) :
    (a.storeSchedule n c).scheduleCell m = if m = n then c else a.scheduleCell m := by
  simp only [NvArray.canonical, Bool.and_eq_true] at h
  exact lookupAt_storeAt erasedSchedule n m c h.2

theorem NvArray.canonical_storeSlot {a : NvArray} (h : a.canonical = true) (n : Nat) (c : Cell (List Byte)) :
    (a.storeSlot n c).canonical = true := by
  simp only [NvArray.canonical, NvArray.storeSlot, Bool.and_eq_true] at h ⊢
  exact ⟨canonical_storeAt erasedSlot n c h.1, h.2⟩

theorem NvArray.canonical_storeSchedule {a : NvArray} (h : a.canonical = true) (n : Nat) (c : Cell (List Byte)) :
    (a.storeSchedule n c).canonical = true := by
  simp only [NvArray.canonical, NvArray.storeSchedule, Bool.and_eq_true] at h ⊢
  exact ⟨h.1, canonical_storeAt erasedSchedule n c h.2⟩

/-- Programming an image keeps the canonical form. -/
theorem NvArray.canonical_program {a : NvArray} (h : a.canonical = true) (i : Image) : (a.program i).canonical = true := by
  cases i with
  | slot n r => exact NvArray.canonical_storeSlot h n _
  | schedule n w => exact NvArray.canonical_storeSchedule h n _
  | holidays d => exact h
  | config b => exact h

/-- A target left with a failed check keeps the canonical form. -/
theorem NvArray.canonical_spoil {a : NvArray} (h : a.canonical = true) (t : Target) : (a.spoil t).canonical = true := by
  cases t with
  | slot n => exact NvArray.canonical_storeSlot h n _
  | schedule n => exact NvArray.canonical_storeSchedule h n _
  | holidays => exact h
  | config => exact h

/-- Whatever an attempt leaves, the canonical form is kept. -/
theorem NvArray.canonical_leave {a : NvArray} (h : a.canonical = true) (i : Image) (l : Leftover) :
    (a.leave i l).canonical = true := by
  cases l with
  | oldContent => exact h
  | newImage => exact NvArray.canonical_program h i
  | checkFails => exact NvArray.canonical_spoil h i.target

/-- All that an attempt does to the array: its target is left as one of the three that R32 and R37 name. -/
theorem attemptArray_leaves (a : Attempt) (o : AttemptOutcome) (array : NvArray) :
    ∃ l, attemptArray a o array = array.leave a.image l := by
  unfold attemptArray
  split
  · exact ⟨.checkFails, rfl⟩
  · cases o with
    | verifyMatches => exact ⟨.newImage, rfl⟩
    | verifyDiffers l => exact ⟨l, rfl⟩

theorem canonical_attemptArray {array : NvArray} (h : array.canonical = true) (a : Attempt) (o : AttemptOutcome) :
    (attemptArray a o array).canonical = true := by
  obtain ⟨l, e⟩ := attemptArray_leaves a o array
  rw [e]
  exact NvArray.canonical_leave h a.image l

/-- Programming leaves every slot but its target as it was. -/
theorem NvArray.slotCell_program {a : NvArray} (h : a.canonical = true) {i : Image} {m : Nat} (hm : i.target ≠ .slot m) :
    (a.program i).slotCell m = a.slotCell m := by
  cases i with
  | slot n r => exact (NvArray.slotCell_storeSlot h n m _).trans (if_neg fun (e : m = n) => hm (e ▸ rfl))
  | schedule n w => rfl
  | holidays d => rfl
  | config b => rfl

/-- What an attempt leaves stands in its target alone. -/
theorem NvArray.slotCell_leave {a : NvArray} (h : a.canonical = true) {i : Image} (l : Leftover) {m : Nat}
    (hm : i.target ≠ .slot m) : (a.leave i l).slotCell m = a.slotCell m := by
  cases l with
  | oldContent => rfl
  | newImage => exact NvArray.slotCell_program h hm
  | checkFails =>
    cases i with
    | slot n r => exact (NvArray.slotCell_storeSlot h n m _).trans (if_neg fun (e : m = n) => hm (e ▸ rfl))
    | schedule n w => rfl
    | holidays d => rfl
    | config b => rfl

/-! ## The numbers that are taken -/

theorem mem_keys_of_lookupAt {α : Type} {k : Nat} {a : α} {m : List (Nat × α)} (h : lookupAt k m = some a) :
    k ∈ m.map Prod.fst := by
  induction m with
  | nil => simp [lookupAt] at h
  | cons e m ih =>
    unfold lookupAt at h
    split at h
    · next hk => exact List.mem_cons.2 (.inl hk)
    · split at h
      · cases h
      · exact List.mem_cons_of_mem _ (ih h)

set_option maxRecDepth 10000 in
/-- What an unlisted slot holds has no number (R42). -/
theorem cellNumber_erasedSlot : cellNumber erasedSlot = none := by
  have h : cellRecord erasedSlot = some none := by decide
  simp only [cellNumber, h]

/-- A slot whose array content holds a number is listed in the array or among the overwritten cells. -/
theorem State.listed_of_settledNumber {s : State} {n k : Nat} (h : s.settledNumber n = some k) :
    n ∈ s.array.slots.map Prod.fst ++ s.nva.unsettled.map Prod.fst := by
  unfold State.settledNumber at h
  split at h
  · cases h
  · cases hu : lookupAt n s.nva.unsettled with
    | some x => exact List.mem_append.2 (.inr (mem_keys_of_lookupAt hu))
    | none =>
      cases ha : lookupAt n s.array.slots with
      | some c => exact List.mem_append.2 (.inl (mem_keys_of_lookupAt ha))
      | none =>
        rw [hu, NvArray.slotCell, ha] at h
        simp only [Option.getD_none, cellNumber_erasedSlot, reduceCtorEq] at h

/-- All that the DUPLICATE check asks: a number is taken where the array content of another slot holds it, or the queued
image of one (R6). -/
theorem State.numberTaken_iff (s : State) (number slot : Nat) :
    s.numberTaken number slot = true ↔
      (∃ n, n ≠ slot ∧ s.settledNumber n = some number)
        ∨ ∃ e ∈ s.nva.queue, ∃ n r, e.image = .slot n (some r) ∧ n ≠ slot ∧ r.number = number := by
  simp only [State.numberTaken, Bool.or_eq_true, List.any_eq_true]
  refine or_congr ⟨?_, ?_⟩ ⟨?_, ?_⟩
  · rintro ⟨n, -, h⟩
    simp only [Bool.and_eq_true, decide_eq_true_eq] at h
    exact ⟨n, h⟩
  · rintro ⟨n, h⟩
    exact ⟨n, State.listed_of_settledNumber h.2, by simpa using h⟩
  · rintro ⟨e, he, h⟩
    split at h
    · next n r hi => exact ⟨e, he, n, r, hi, by simpa using h⟩
    · cases h
  · rintro ⟨e, he, n, r, hi, h⟩
    exact ⟨e, he, by rw [hi]; simpa using h⟩

/-- An attempt that does not settle leaves every slot the number it held for the DUPLICATE check (R6, R32). -/
theorem State.settledNumber_overwritten {s t : State} (hc : s.array.canonical = true)
    (hu : risingFrom none s.nva.unsettled = true) {i : Image} {l : Leftover} (ha : t.array = s.array.leave i l)
    (hk : t.nva.unsettled = s.keptNumbers i.target) (hd : t.nva.damagedSlots = s.nva.damagedSlots) (n : Nat) :
    t.settledNumber n = s.settledNumber n := by
  by_cases hm : i.target = .slot n
  · rw [hm] at hk
    simp only [State.settledNumber, hd, hk, State.keptNumbers, lookupAt_insertAt _ _ _ _ hu]
    split <;> simp
  · have hl : lookupAt n (s.keptNumbers i.target) = lookupAt n s.nva.unsettled := by
      unfold State.keptNumbers
      split
      · next k hk' => exact (lookupAt_insertAt k n _ _ hu).trans (if_neg fun (e : n = k) => hm (e ▸ hk'))
      · rfl
    simp only [State.settledNumber, hd, hk, hl, ha, NvArray.slotCell_leave hc l hm]

/-- The array of a new part is in canonical form. -/
theorem canonical_deliveredArray : deliveredArray.canonical = true := by decide

/-! ## The operations that touch the array, and what else they leave alone -/

/-- What `fixed` names but for the array and the count of free values. -/
def State.steady (s : State) : Phase × Nat × ResetKind × SupplyLevel × List Instr :=
  (s.phase, s.scanPos, s.resetKind, s.supply, s.pending)

theorem State.array_of_fixed {s t : State} (h : s.fixed = t.fixed) : s.array = t.array := congrArg (·.1) h
theorem State.phase_of_fixed {s t : State} (h : s.fixed = t.fixed) : s.phase = t.phase := congrArg (·.2.1) h
theorem State.scanPos_of_fixed {s t : State} (h : s.fixed = t.fixed) : s.scanPos = t.scanPos := congrArg (·.2.2.1) h
theorem State.resetKind_of_fixed {s t : State} (h : s.fixed = t.fixed) : s.resetKind = t.resetKind :=
  congrArg (·.2.2.2.1) h
theorem State.supply_of_fixed {s t : State} (h : s.fixed = t.fixed) : s.supply = t.supply := congrArg (·.2.2.2.2.1) h
theorem State.freeCount_of_fixed {s t : State} (h : s.fixed = t.fixed) : s.freeCount = t.freeCount :=
  congrArg (·.2.2.2.2.2.1) h
theorem State.pending_of_fixed {s t : State} (h : s.fixed = t.fixed) : s.pending = t.pending :=
  congrArg (·.2.2.2.2.2.2) h
theorem State.steady_of_fixed {s t : State} (h : s.fixed = t.fixed) : s.steady = t.steady := by
  simp only [State.steady, State.phase_of_fixed h, State.scanPos_of_fixed h, State.resetKind_of_fixed h,
    State.supply_of_fixed h, State.pending_of_fixed h]

/-- All that a completed attempt does to the fixed fields: the array holds what the attempt leaves in its target (R31,
R32, R35). -/
theorem attemptCompleted_fixed (o : AttemptOutcome) (s : State) :
    (attemptCompleted o s).fixed =
      match s.nva.inFlight with
      | none => s.fixed
      | some a => State.fixed { s with array := attemptArray a o s.array } := by
  unfold attemptCompleted
  cases h : s.nva.inFlight with
  | none => rfl
  | some a =>
    dsimp only
    rw [startAttempt_fixed]
    split
    · rfl
    · split
      · rw [eraseCompleted_fixed]; rfl
      · rw [queueCompleted_fixed]; rfl

/-- All that a reset does to the fixed fields where an attempt is in flight (R37). -/
theorem tearAttempt_steady (s : State) : (tearAttempt s).steady = s.steady := by
  unfold tearAttempt
  split <;> rfl

theorem canonical_tearAttempt {s : State} (h : s.array.canonical = true) : (tearAttempt s).array.canonical = true := by
  unfold tearAttempt
  split
  · exact h
  · exact NvArray.canonical_leave h _ _

end Sys2Proof.Machine
end

