-- ==== Sys2Proof/Laws/StoreFrame.lean ====
section
/-!
SUPPORT. The operations that leave the volatile store (the write queue, the attempt in flight, the damaged sets, the erase pass) and
the number index alone: every one that neither places a write, nor programs, nor damages a target.
-/

namespace Sys2Proof.Machine

set_option linter.unusedSimpArgs false
set_option linter.unusedTactic false
set_option linter.unreachableTactic false

/-- The volatile store: the NVA and the number index. -/
def State.store (s : State) : Nva × List (Nat × Nat) := (s.nva, s.index)

/-- A fold of changes that keep these fields keeps them. -/
theorem foldl_store {α : Type} (f : State → α → State) (h : ∀ s a, (f s a).store = s.store) (l : List α) (s : State) :
    (l.foldl f s).store = s.store := by
  induction l generalizing s with
  | nil => rfl
  | cons a l ih => simp only [List.foldl_cons, ih, h]

/-- A change at every vault that keeps these fields keeps them. -/
theorem eachVault_store (f : Vault → State → State) (h : ∀ v s, (f v s).store = s.store) (s : State) :
    (eachVault f s).store = s.store :=
  foldl_store _ (fun s v => h v s) _ s

@[simp] theorem State.withDoor_store (s : State) (v : Vault) (d : DoorRecord) : (s.withDoor v d).store = s.store := rfl
@[simp] theorem State.withSequencer_store (s : State) (v : Vault) (q : SsqRecord) : (s.withSequencer v q).store = s.store := rfl
@[simp] theorem State.withOccupancy_store (s : State) (v : Vault) (o : VaultOccupancy) : (s.withOccupancy v o).store = s.store := rfl
@[simp] theorem State.withClaimSet_store (s : State) (v : Vault) (c : ClaimSet) : (s.withClaimSet v c).store = s.store := rfl
@[simp] theorem State.withPair_store (s : State) (v : Vault) (p : Option PendingPair) : (s.withPair v p).store = s.store := rfl
@[simp] theorem State.withGroup_store (s : State) (v : Vault) (g : VaultGroup) : (s.withGroup v g).store = s.store := rfl
@[simp] theorem State.withSite_store (s : State) (g : SiteGroup) : (s.withSite g).store = s.store := rfl
@[simp] theorem State.withStaged_store (s : State) (v : Vault) (p : SuppressionSet) : (s.withStaged v p).store = s.store := rfl
@[simp] theorem State.withLines_store (s : State) (v : Vault) (l : VaultLines) : (s.withLines v l).store = s.store := rfl
@[simp] theorem State.withLineRecord_store (s : State) (v : Vault) (l : Line) (q : Qualification Reading) : (s.withLineRecord v l q).store = s.store := rfl
@[simp] theorem State.withRelease_store (s : State) (v : Vault) (q : Qualification Circuit) : (s.withRelease v q).store = s.store := rfl
@[simp] theorem State.withAtu_store (s : State) (a : Atu) : (s.withAtu a).store = s.store := rfl
@[simp] theorem State.withLink_store (s : State) (l : Link) : (s.withLink l).store = s.store := rfl
@[simp] theorem State.withReaders_store (s : State) (v : Vault) (r : VaultReaders) : (s.withReaders v r).store = s.store := rfl
@[simp] theorem State.withReader_store (s : State) (a : ReaderAddress) (r : ReaderRecord) : (s.withReader a r).store = s.store := rfl
@[simp] theorem State.withLqu_store (s : State) (l : Lqu) : (s.withLqu l).store = s.store := rfl
@[simp] theorem State.withCal_store (s : State) (c : Cal) : (s.withCal c).store = s.store := rfl
@[simp] theorem State.withFailures_store (s : State) (f : List FailureEntry) : (s.withFailures f).store = s.store := rfl
@[simp] theorem State.withReaderLine_store (s : State) (r : ReaderLine) : (s.withReaderLine r).store = s.store := rfl
@[simp] theorem State.withWaiting_store (s : State) (c : Causes) : (s.withWaiting c).store = s.store := rfl



@[simp] theorem causeAlarms_store (s : State) : (causeAlarms s).store = s.store := by
  rfl

@[simp] theorem causeOccupancy_store (s : State) : (causeOccupancy s).store = s.store := by
  rfl

@[simp] theorem causeSuppression_store (s : State) : (causeSuppression s).store = s.store := by
  rfl

@[simp] theorem causeDoors_store (s : State) : (causeDoors s).store = s.store := by
  rfl

@[simp] theorem causeStore_store (s : State) : (causeStore s).store = s.store := by
  rfl

@[simp] theorem causeMode_store (s : State) : (causeMode s).store = s.store := by
  rfl

@[simp] theorem causeVerdict_store (s : State) : (causeVerdict s).store = s.store := by
  rfl

@[simp] theorem causeClock_store (s : State) : (causeClock s).store = s.store := by
  rfl

@[simp] theorem claim_store (v : Vault) (f : ClaimSet → ClaimSet) (s : State) : (claim v f s).store = s.store := by
  unfold claim
  split <;> rfl

@[simp] theorem claimForced_store (v : Vault) (d : Door) (b : Bool) (s : State) :
    (claimForced v d b s).store = s.store := by
  simp [claimForced]

@[simp] theorem claimHeld_store (v : Vault) (d : Door) (b : Bool) (s : State) :
    (claimHeld v d b s).store = s.store := by
  simp [claimHeld]

@[simp] theorem claimChirp_store (v : Vault) (b : Bool) (s : State) : (claimChirp v b s).store = s.store := by
  simp [claimChirp]

@[simp] theorem claimSiteEvacuate_store (v : Vault) (b : Bool) (s : State) :
    (claimSiteEvacuate v b s).store = s.store := by
  simp [claimSiteEvacuate]

@[simp] theorem claimSsq_store (v : Vault) (k : Option ClaimKind) (s : State) : (claimSsq v k s).store = s.store := by
  simp [claimSsq]

@[simp] theorem claimTest_store (v : Vault) (t : TestClaim) (s : State) : (claimTest v t s).store = s.store := by
  unfold claimTest
  dsimp only
  split <;> simp

@[simp] theorem endTest_store (v : Vault) (s : State) : (endTest v s).store = s.store := by
  simp [endTest]

@[simp] theorem raise_store (key : AlarmKey) (s : State) : (raise key s).1.store = s.store := by
  unfold raise
  dsimp only
  (repeat' split) <;> first | rfl | simp

@[simp] theorem raised_store (key : AlarmKey) (s : State) : (raised key s).store = s.store := by
  simp [raised]

@[simp] theorem retireRecord_store (id : Nat) (s : State) : (retireRecord id s).store = s.store := by
  rfl

@[simp] theorem endCondition_store (key : AlarmKey) (s : State) : (endCondition key s).store = s.store := by
  unfold endCondition
  (repeat' split) <;> first | rfl | simp

@[simp] theorem doorAcknowledged_store (key : AlarmKey) (s : State) : (doorAcknowledged key s).store = s.store := by
  unfold doorAcknowledged
  split <;> simp

@[simp] theorem acknowledgeRecord_store (r : AlarmRecord) (s : State) : (acknowledgeRecord r s).store = s.store := by
  unfold acknowledgeRecord
  split <;> simp

@[simp] theorem forget_store (number : Nat) (s : State) : (forget number s).store = s.store := by
  rfl

@[simp] theorem recordFailure_store (number : Nat) (s : State) : (recordFailure number s).store = s.store := by
  unfold recordFailure
  (repeat' split) <;> first | rfl | simp

@[simp] theorem ageFailures_store (s : State) : (ageFailures s).store = s.store := by
  rfl

@[simp] theorem referenceLost_store (s : State) : (referenceLost s).store = s.store := by
  simp [referenceLost, apply_ite State.store]
  rfl

@[simp] theorem referenceReturned_store (s : State) : (referenceReturned s).store = s.store := by
  simp [referenceReturned, apply_ite State.store]
  rfl

@[simp] theorem handVerdict_store (a : ReaderAddress) (verdict : Verdict) (number : Option Nat) (s : State) :
    (handVerdict a verdict number s).store = s.store := by
  unfold handVerdict
  split <;> simp

@[simp] theorem readerMiss_store (a : ReaderAddress) (s : State) : (readerMiss a s).store = s.store := by
  simp [readerMiss, apply_ite State.store]

@[simp] theorem goodReply_store (a : ReaderAddress) (tamper : Bool) (s : State) :
    (goodReply a tamper s).store = s.store := by
  unfold goodReply
  dsimp only
  (repeat' split) <;> first | rfl | simp

@[simp] theorem disableReaders_store (v : Vault) (s : State) : (disableReaders v s).store = s.store := by
  simp [disableReaders]

@[simp] theorem addOccupants_store (v : Vault) (adds : List EnteringEntry) (time : Instant) (s : State) :
    (addOccupants v adds time s).store = s.store := by
  rfl

@[simp] theorem endOccupant_store (v : Vault) (e : Occupant) (s : State) : (endOccupant v e s).store = s.store := by
  simp [endOccupant, apply_ite State.store]

@[simp] theorem setCertain_store (v : Vault) (b : Bool) (s : State) : (setCertain v b s).store = s.store := by
  rfl

@[simp] theorem settleLink_store (v : Vault) (fresh : List Nat) (s : State) (e : Occupant) :
    (settleLink v fresh s e).store = s.store := by
  unfold settleLink
  dsimp only
  (repeat' split) <;> simp

@[simp] theorem settleLinks_store (v : Vault) (fresh : List Nat) (s : State) :
    (settleLinks v fresh s).store = s.store := by
  simp [settleLinks, foldl_store]

@[simp] theorem settleLone_store (v : Vault) (s : State) : (settleLone v s).store = s.store := by
  simp [settleLone, apply_ite State.store, foldl_store, eachVault_store]

@[simp] theorem checkIn_store (v : Vault) (number : Option Nat) (s : State) :
    (checkIn v number s).store = s.store := by
  unfold checkIn
  dsimp only
  (repeat' split) <;> first | rfl | simp

@[simp] theorem loneExpired_store (v : Vault) (s : State) : (loneExpired v s).store = s.store := by
  unfold loneExpired
  dsimp only
  split <;> simp

@[simp] theorem clearOccupants_store (v : Vault) (s : State) : (clearOccupants v s).store = s.store := by
  simp [clearOccupants, foldl_store]

@[simp] theorem putDoor_store (v : Vault) (d : DoorRecord) (s : State) : (putDoor v d s).store = s.store := by
  unfold putDoor
  split <;> simp

@[simp] theorem raiseForced_store (v : Vault) (which : Door) (s : State) :
    (raiseForced v which s).store = s.store := by
  unfold raiseForced
  dsimp only
  split <;> simp

@[simp] theorem raiseHeld_store (v : Vault) (which : Door) (s : State) : (raiseHeld v which s).store = s.store := by
  unfold raiseHeld
  dsimp only
  split <;> simp

@[simp] theorem raiseFault_store (v : Vault) (drive : Drive) (s : State) : (raiseFault v drive s).store = s.store := by
  simp [raiseFault]

@[simp] theorem endForced_store (v : Vault) (which : Door) (s : State) : (endForced v which s).store = s.store := by
  unfold endForced
  split <;> simp

@[simp] theorem endHeld_store (v : Vault) (which : Door) (s : State) : (endHeld v which s).store = s.store := by
  unfold endHeld
  split <;> simp

@[simp] theorem endFaults_store (v : Vault) (s : State) : (endFaults v s).store = s.store := by
  simp [endFaults, apply_ite State.store]

@[simp] theorem setOuter_store (v : Vault) (o : OuterState) (s : State) : (setOuter v o s).store = s.store := by
  unfold setOuter
  split <;> simp

@[simp] theorem withdrawOuter_store (v : Vault) (s : State) : (withdrawOuter v s).store = s.store := by
  unfold withdrawOuter
  dsimp only
  (repeat' split) <;> first | rfl | simp

@[simp] theorem setVaultState_store (v : Vault) (st : VaultState) (s : State) :
    (setVaultState v st s).store = s.store := by
  simp [setVaultState, apply_ite State.store]

@[simp] theorem startRetract_store (v : Vault) (s : State) : (startRetract v s).store = s.store := by
  unfold startRetract
  dsimp only
  split <;> simp

@[simp] theorem startExtend_store (v : Vault) (s : State) : (startExtend v s).store = s.store := by
  unfold startExtend
  dsimp only
  split <;> simp

@[simp] theorem startEmergencyDrive_store (v : Vault) (s : State) : (startEmergencyDrive v s).store = s.store := by
  rfl

@[simp] theorem restartEmergencyDrive_store (v : Vault) (s : State) : (restartEmergencyDrive v s).store = s.store := by
  unfold restartEmergencyDrive
  split <;> simp

@[simp] theorem freeVaultDoor_store (v : Vault) (s : State) : (freeVaultDoor v s).store = s.store := by
  unfold freeVaultDoor
  split <;> simp

@[simp] theorem recordGrant_store (v : Vault) (g : VaultGrant) (s : State) : (recordGrant v g s).store = s.store := by
  simp [recordGrant]

@[simp] theorem recordOuterGrant_store (v : Vault) (o : OuterOrigin) (s : State) :
    (recordOuterGrant v o s).store = s.store := by
  simp [recordOuterGrant]

@[simp] theorem outerEgressPress_store (v : Vault) (s : State) : (outerEgressPress v s).store = s.store := by
  unfold outerEgressPress
  split <;> simp

@[simp] theorem vaultEgressPress_store (v : Vault) (s : State) : (vaultEgressPress v s).store = s.store := by
  simp [vaultEgressPress, apply_ite State.store]

@[simp] theorem secureWhereFree_store (v : Vault) (s : State) : (secureWhereFree v s).store = s.store := by
  unfold secureWhereFree
  dsimp only
  (repeat' split) <;> first | rfl | simp

@[simp] theorem discardGrant_store (v : Vault) (s : State) : (discardGrant v s).store = s.store := by
  simp [discardGrant]

@[simp] theorem discardEgress_store (v : Vault) (s : State) : (discardEgress v s).store = s.store := by
  simp [discardEgress]

@[simp] theorem outerLapsed_store (v : Vault) (s : State) : (outerLapsed v s).store = s.store := by
  unfold outerLapsed
  dsimp only
  split <;> simp

@[simp] theorem trimEntering_store (v : Vault) (keep : EnteringEntry → Bool) (s : State) :
    (trimEntering v keep s).store = s.store := by
  unfold trimEntering
  dsimp only
  (repeat' split) <;> first | rfl | simp

@[simp] theorem cancelEntry_store (v : Vault) (s : State) : (cancelEntry v s).store = s.store := by
  simp [cancelEntry]

@[simp] theorem outerOpened_store (v : Vault) (first : Bool) (s : State) :
    (outerOpened v first s).store = s.store := by
  unfold outerOpened
  (repeat' split) <;> first | rfl | simp

@[simp] theorem outerClosed_store (v : Vault) (s : State) : (outerClosed v s).store = s.store := by
  unfold outerClosed
  split <;> simp

@[simp] theorem vaultClosed_store (v : Vault) (s : State) : (vaultClosed v s).store = s.store := by
  unfold vaultClosed
  dsimp only
  (repeat' split) <;> first | rfl | simp

@[simp] theorem enterOpen_store (v : Vault) (s : State) : (enterOpen v s).store = s.store := by
  simp [enterOpen]

@[simp] theorem boltsWithdrawnActive_store (v : Vault) (s : State) : (boltsWithdrawnActive v s).store = s.store := by
  unfold boltsWithdrawnActive
  (repeat' split) <;> first | rfl | simp

@[simp] theorem boltsThrownActive_store (v : Vault) (s : State) : (boltsThrownActive v s).store = s.store := by
  unfold boltsThrownActive
  (repeat' split) <;> first | rfl | simp

@[simp] theorem boltsThrownLost_store (v : Vault) (s : State) : (boltsThrownLost v s).store = s.store := by
  unfold boltsThrownLost
  split <;> simp

@[simp] theorem travelExpired_store (v : Vault) (s : State) : (travelExpired v s).store = s.store := by
  unfold travelExpired
  dsimp only
  split <;> simp

@[simp] theorem relockExpired_store (v : Vault) (s : State) : (relockExpired v s).store = s.store := by
  unfold relockExpired
  dsimp only
  split <;> simp

@[simp] theorem heldExpired_store (v : Vault) (which : Door) (s : State) :
    (heldExpired v which s).store = s.store := by
  simp [heldExpired]

@[simp] theorem emergencyStart_store (v : Vault) (s : State) : (emergencyStart v s).store = s.store := by
  simp [emergencyStart]

@[simp] theorem emergencyEnd_store (v : Vault) (s : State) : (emergencyEnd v s).1.store = s.store := by
  unfold emergencyEnd
  dsimp only
  (repeat' split) <;> first | rfl | simp

@[simp] theorem beginDoors_store (v : Vault) (s : State) : (beginDoors v s).store = s.store := by
  unfold beginDoors
  split <;> simp

@[simp] theorem disableDoors_store (v : Vault) (s : State) : (disableDoors v s).store = s.store := by
  simp [disableDoors]

@[simp] theorem lapsePair_store (v : Vault) (s : State) : (lapsePair v s).store = s.store := by
  unfold lapsePair
  split <;> simp

@[simp] theorem alertsAtChange_store (v : Vault) (old new : SsqState) (s : State) :
    (alertsAtChange v old new s).store = s.store := by
  simp [alertsAtChange, apply_ite State.store]

@[simp] theorem neighboursAtChange_store (v : Vault) (old new : SsqState) (s : State) :
    (neighboursAtChange v old new s).store = s.store := by
  unfold neighboursAtChange
  split <;> simp

@[simp] theorem inhibitedAtChange_store (v : Vault) (old new : SsqState) (s : State) :
    (inhibitedAtChange v old new s).1.store = s.store := by
  unfold inhibitedAtChange
  dsimp only
  (repeat' split) <;> first | rfl | simp

@[simp] theorem changeState_store (v : Vault) (q : SsqRecord) (s : State) : (changeState v q s).1.store = s.store := by
  simp [changeState]

@[simp] theorem enter_store (v : Vault) (q : SsqRecord) (s : State) : (enter v q s).store = s.store := by
  simp [enter]

@[simp] theorem enterReleasing_store (v : Vault) (s : State) : (enterReleasing v s).store = s.store := by
  simp [enterReleasing]

@[simp] theorem expireCountdown_store (v : Vault) (s : State) : (expireCountdown v s).store = s.store := by
  unfold expireCountdown
  split <;> simp

@[simp] theorem resumeCountdown_store (v : Vault) (s : State) : (resumeCountdown v s).store = s.store := by
  unfold resumeCountdown
  dsimp only
  split <;> simp

@[simp] theorem recheckHolds_store (v : Vault) (s : State) : (recheckHolds v s).store = s.store := by
  unfold recheckHolds
  dsimp only
  (repeat' split) <;> first | rfl | simp

@[simp] theorem setEgress_store (v : Vault) (e : EgressCondition) (s : State) : (setEgress v e s).store = s.store := by
  simp [setEgress]

@[simp] theorem egressPressed_store (v : Vault) (s : State) : (egressPressed v s).store = s.store := by
  unfold egressPressed
  split <;> simp

@[simp] theorem egressConsumed_store (v : Vault) (s : State) : (egressConsumed v s).store = s.store := by
  unfold egressConsumed
  split <;> simp

@[simp] theorem egressUnopened_store (v : Vault) (s : State) : (egressUnopened v s).store = s.store := by
  unfold egressUnopened
  split <;> simp

@[simp] theorem contactLeft_store (v : Vault) (s : State) : (contactLeft v s).store = s.store := by
  simp [contactLeft, apply_ite State.store]

@[simp] theorem moveTo_store (v : Vault) (q : SsqRecord) (s : State) : (moveTo v q s).store = s.store := by
  unfold moveTo
  dsimp only
  split <;> simp

@[simp] theorem commit_store (v : Vault) (s : State) : (commit v s).store = s.store := by
  rfl

@[simp] theorem beginCountdown_store (v : Vault) (path : Path) (s : State) :
    (beginCountdown v path s).store = s.store := by
  simp [beginCountdown]

@[simp] theorem inhibit_store (v : Vault) (s : State) : (inhibit v s).store = s.store := by
  simp [inhibit]

@[simp] theorem confirmFire_store (v : Vault) (s : State) : (confirmFire v s).store = s.store := by
  simp [confirmFire, apply_ite State.store]

@[simp] theorem enterAlert_store (v : Vault) (s : State) : (enterAlert v s).store = s.store := by
  simp [enterAlert]

@[simp] theorem judgeDetectors_store (v : Vault) (s : State) : (judgeDetectors v s).store = s.store := by
  simp [judgeDetectors, apply_ite State.store]

@[simp] theorem detectorTaken_store (v : Vault) (active : Bool) (s : State) :
    (detectorTaken v active s).store = s.store := by
  unfold detectorTaken
  (repeat' split) <;> first | rfl | simp

@[simp] theorem occupancyReported_store (v : Vault) (s : State) : (occupancyReported v s).store = s.store := by
  unfold occupancyReported
  dsimp only
  (repeat' split) <;> first | rfl | simp

@[simp] theorem manualRelease_store (v : Vault) (s : State) : (manualRelease v s).store = s.store := by
  unfold manualRelease
  dsimp only
  (repeat' split) <;> first | rfl | simp

@[simp] theorem abortTaken_store (v : Vault) (state : Reading) (s : State) :
    (abortTaken v state s).store = s.store := by
  unfold abortTaken
  dsimp only
  (repeat' split) <;> first | rfl | simp

@[simp] theorem abortLapsed_store (v : Vault) (s : State) : (abortLapsed v s).store = s.store := by
  simp [abortLapsed]

@[simp] theorem enterDischarged_store (v : Vault) (d : DischargeDetail) (s : State) :
    (enterDischarged v d s).store = s.store := by
  simp [enterDischarged]

@[simp] theorem pulseEnded_store (v : Vault) (s : State) : (pulseEnded v s).store = s.store := by
  unfold pulseEnded
  dsimp only
  split <;> simp

@[simp] theorem dischargeActive_store (v : Vault) (s : State) : (dischargeActive v s).store = s.store := by
  unfold dischargeActive
  split <;> simp

@[simp] theorem isolate_store (v : Vault) (s : State) : (isolate v s).store = s.store := by
  unfold isolate
  split <;> simp

@[simp] theorem returnToQuiet_store (v : Vault) (s : State) : (returnToQuiet v s).store = s.store := by
  simp [returnToQuiet]

@[simp] theorem deisolate_store (v : Vault) (s : State) : (deisolate v s).store = s.store := by
  unfold deisolate
  split <;> simp

@[simp] theorem resetDischarged_store (v : Vault) (s : State) : (resetDischarged v s).store = s.store := by
  unfold resetDischarged
  dsimp only
  (repeat' split) <;> first | rfl | simp

@[simp] theorem disableSequencer_store (v : Vault) (s : State) : (disableSequencer v s).store = s.store := by
  unfold disableSequencer
  dsimp only
  (repeat' split) <;> first | rfl | simp

@[simp] theorem enableSequencer_store (v : Vault) (s : State) : (enableSequencer v s).store = s.store := by
  rfl

@[simp] theorem reporting_store (v : Vault) (f : State → State) (s : State) (h : ∀ s, (f s).store = s.store) :
    (reporting v f s).store = s.store := by
  unfold reporting
  simp [apply_ite State.store, h]

@[simp] theorem settleRegister_store (v : Vault) (fresh : List Nat) (s : State) :
    (settleRegister v fresh s).store = s.store := by
  simp [settleRegister]

@[simp] theorem removeOccupant_store (v : Vault) (s : State) (number : Nat) :
    (removeOccupant v s number).store = s.store := by
  unfold removeOccupant
  split <;> simp

@[simp] theorem applyGrant_store (v : Vault) (g : VaultGrant) (time : Instant) (s : State) :
    (applyGrant v g time s).store = s.store := by
  simp [applyGrant, foldl_store]

@[simp] theorem consumeGrant_store (v : Vault) (g : VaultGrant) (egress : Bool) (time : Instant) (s : State) :
    (consumeGrant v g egress time s).store = s.store := by
  simp [consumeGrant, apply_ite State.store]

@[simp] theorem consumeEgress_store (v : Vault) (s : State) : (consumeEgress v s).store = s.store := by
  unfold consumeEgress
  split <;> simp

@[simp] theorem openConsuming_store (v : Vault) (time : Instant) (s : State) :
    (openConsuming v time s).store = s.store := by
  unfold openConsuming
  apply reporting_store
  intro s
  dsimp only
  (repeat' split) <;> simp

@[simp] theorem openForced_store (v : Vault) (first : Bool) (s : State) : (openForced v first s).store = s.store := by
  unfold openForced
  apply reporting_store
  intro s
  dsimp only
  split <;> simp

@[simp] theorem openEmergency_store (v : Vault) (time : Instant) (s : State) :
    (openEmergency v time s).store = s.store := by
  unfold openEmergency
  apply reporting_store
  intro s
  dsimp only
  split <;> simp

@[simp] theorem vaultOpened_store (v : Vault) (first : Bool) (time : Instant) (s : State) :
    (vaultOpened v first time s).store = s.store := by
  unfold vaultOpened
  (repeat' split) <;> first | rfl | simp

@[simp] theorem handExitGrant_store (v : Vault) (exiting : List Nat) (s : State) :
    (handExitGrant v exiting s).store = s.store := by
  unfold handExitGrant
  dsimp only
  split
  · rw [causeDoors_store, reporting_store]
    simp
  · simp

@[simp] theorem egressLapsed_store (v : Vault) (s : State) : (egressLapsed v s).store = s.store := by
  simp [egressLapsed]

@[simp] theorem releaseEnds_store (v : Vault) (s : State) : (releaseEnds v s).store = s.store := by
  simp [releaseEnds, apply_ite State.store]

@[simp] theorem latchVault_store (v : Vault) (s : State) : (latchVault v s).store = s.store := by
  simp [latchVault, apply_ite State.store]

@[simp] theorem evacuationCompleted_store (s : State) : (evacuationCompleted s).store = s.store := by
  simp [evacuationCompleted, apply_ite State.store, foldl_store, eachVault_store]

@[simp] theorem latchEnds_store (s : State) : (latchEnds s).store = s.store := by
  simp [latchEnds, eachVault_store]

@[simp] theorem lockdownVault_store (v : Vault) (s : State) : (lockdownVault v s).store = s.store := by
  simp [lockdownVault]

@[simp] theorem setMode_store (mode : Mode) (auto : Bool) (s : State) : (setMode mode auto s).store = s.store := by
  unfold setMode
  dsimp only
  (repeat' split) <;> simp [eachVault_store] <;> rfl

@[simp] theorem evaluateMode_store (s : State) : (evaluateMode s).store = s.store := by
  unfold evaluateMode
  split <;> simp

@[simp] theorem checkEntry_store (v : Vault) (number : Nat) (digits : List Nat) (except : Option Vault) (s : State) :
    (checkEntry v number digits except s).1.store = s.store := by
  unfold checkEntry
  dsimp only
  (repeat' split) <;> first | rfl | simp

@[simp] theorem formPair_store (v : Vault) (number : Nat) (duress : Bool) (s : State) :
    (formPair v number duress s).store = s.store := by
  rfl

@[simp] theorem presentCheckIn_store (v : Vault) (number : Nat) (s : State) :
    (presentCheckIn v number s).1.store = s.store := by
  unfold presentCheckIn
  split <;> simp

@[simp] theorem appendExit_store (v : Vault) (g : VaultGrant) (number : Nat) (s : State) :
    (appendExit v g number s).store = s.store := by
  simp [appendExit, apply_ite State.store]

@[simp] theorem presentExit_store (v : Vault) (number : Nat) (s : State) :
    (presentExit v number s).1.store = s.store := by
  unfold presentExit
  split <;> simp

@[simp] theorem sampleLines_store (r : Readings) (s : State) : (sampleLines r s).store = s.store := by
  unfold sampleLines
  refine Eq.trans rfl (eachVault_store _ (fun v s => ?_) s)
  split <;> rfl

@[simp] theorem lineFault_store (id : LineIdentity) (new : Reading) (s : State) :
    (lineFault id new s).store = s.store := by
  unfold lineFault
  split <;> simp

@[simp] theorem deliverLine_store (v : Vault) (l : Line) (old : Option Reading) (new : Reading) (time : Instant) (s : State) :
    (deliverLine v l old new time s).store = s.store := by
  unfold deliverLine
  dsimp only
  (repeat' split) <;> first | rfl | simp

@[simp] theorem takeLine_store (v : Vault) (l : Line) (s : State) : (takeLine v l s).store = s.store := by
  unfold takeLine
  dsimp only
  (repeat' split) <;> first | rfl | simp

@[simp] theorem takeRelease_store (v : Vault) (s : State) : (takeRelease v s).store = s.store := by
  unfold takeRelease
  dsimp only
  (repeat' split) <;> first | rfl | simp

@[simp] theorem recheckAllHolds_store (s : State) : (recheckAllHolds s).store = s.store := by
  simp [recheckAllHolds, eachVault_store]

@[simp] theorem judgeHoldAll_store (s : State) : (judgeHoldAll s).store = s.store := by
  unfold judgeHoldAll
  dsimp only
  split <;> simp

@[simp] theorem judgeCombination_store (s : State) : (judgeCombination s).store = s.store := by
  unfold judgeCombination
  dsimp only
  split <;> simp

@[simp] theorem takeSiteLine_store (i : SiteLine) (s : State) : (takeSiteLine i s).store = s.store := by
  unfold takeSiteLine
  dsimp only
  (repeat' split) <;> first | rfl | simp

@[simp] theorem tickCombination_store (s : State) : (tickCombination s).store = s.store := by
  unfold tickCombination
  (repeat' split) <;> first | rfl | simp

@[simp] theorem completeCombination_store (s : State) : (completeCombination s).store = s.store := by
  simp [completeCombination]

@[simp] theorem roleFault_store (i : SiteLine) (old new : Role) (s : State) :
    (roleFault i old new s).store = s.store := by
  unfold roleFault
  (repeat' split) <;> first | rfl | simp

@[simp] theorem setRoles_store (roles : PerSite Role) (s : State) : (setRoles roles s).store = s.store := by
  simp [setRoles, apply_ite State.store, foldl_store, eachVault_store]

@[simp] theorem disableLines_store (v : Vault) (s : State) : (disableLines v s).store = s.store := by
  unfold disableLines
  rw [State.withLines_store, endCondition_store]
  exact foldl_store _ (fun s l => endCondition_store _ s) _ s

@[simp] theorem beginTransaction_store (s : State) : (beginTransaction s).store = s.store := by
  unfold beginTransaction
  split <;> simp

@[simp] theorem endTransaction_store (s : State) : (endTransaction s).store = s.store := by
  rfl

@[simp] theorem transactionMissed_store (s : State) : (transactionMissed s).store = s.store := by
  unfold transactionMissed
  split <;> simp

@[simp] theorem disableOnLine_store (v : Vault) (s : State) : (disableOnLine v s).store = s.store := by
  rfl

@[simp] theorem enableOnLine_store (s : State) : (enableOnLine s).store = s.store := by
  unfold enableOnLine
  split <;> simp

@[simp] theorem disableVault_store (v : Vault) (s : State) : (disableVault v s).store = s.store := by
  unfold disableVault
  dsimp only
  split <;> simp

@[simp] theorem enableVault_store (v : Vault) (s : State) : (enableVault v s).store = s.store := by
  simp [enableVault, apply_ite State.store]

@[simp] theorem setEnabled_store (v : Vault) (b : Bool) (s : State) : (setEnabled v b s).store = s.store := by
  simp [setEnabled, apply_ite State.store]

@[simp] theorem applyVault_store (v : Vault) (g : VaultGroup) (s : State) : (applyVault v g s).store = s.store := by
  simp [applyVault, apply_ite State.store]

@[simp] theorem applySite_store (g : SiteGroup) (s : State) : (applySite g s).store = s.store := by
  simp [applySite]

theorem State.withCfg_store (s : State) (b : ConfigBlock) : State.store { s with cfg := b } = s.store := rfl

@[simp] theorem applyConfig_store (b : ConfigBlock) (s : State) : (applyConfig b s).store = s.store := by
  unfold applyConfig
  rw [State.withCfg_store, eachVault_store _ (fun v s => applyVault_store v _ s), applySite_store]
  rfl

@[simp] theorem chirp_store (v : Vault) (s : State) : (chirp v s).store = s.store := by
  simp [chirp]

@[simp] theorem escalate_store (id : Nat) (s : State) : (escalate id s).store = s.store := by
  rfl

@[simp] theorem tickTimers_store (s : State) : (tickTimers s).store = s.store := by
  rfl

@[simp] theorem tickOnce_store (r : Readings) (s : State) : (tickOnce r s).store = s.store := by
  unfold tickOnce
  (repeat' split) <;> first | rfl | (simp [apply_ite State.store, foldl_store, eachVault_store]; done) | (simp [apply_ite State.store]; rfl)

@[simp] theorem ok_store (b : Body) (s : State) : (ok b s).1.store = s.store := by
  rfl

@[simp] theorem refuse_store (st : Status) (s : State) : (refuse st s).1.store = s.store := by
  rfl

@[simp] theorem refuseFor_store (v : Verdict) (s : State) : (refuseFor v s).1.store = s.store := by
  rfl

@[simp] theorem answerRequest_store (code : Nat) (f : Service) (s : State) (h : ∀ s, (f s).1.store = s.store) :
    (answerRequest code f s).1.store = s.store := by
  unfold answerRequest
  first
    | (simp [h]; done)
    | ((repeat' split) <;> simp [h])

@[simp] theorem holdResponse_store (code : Nat) (tag : Byte) (a : Answer) (s : State) :
    (holdResponse code tag a s).store = s.store := by
  rfl

@[simp] theorem changed_store (slot : Nat) (s : State) : (changed slot s).1.store = s.store := by
  simp [changed]

@[simp] theorem lookupCredential_store (number : Nat) (s : State) : (lookupCredential number s).1.store = s.store := by
  unfold lookupCredential
  simp only [onVault, onEnabled, onDoor, onRecord, onNumber, onSlot, onAlarm, refuse, refuseFor, ok]
  (repeat' split) <;> first | rfl | simp

@[simp] theorem readSlot_store (slot : Nat) (s : State) : (readSlot slot s).1.store = s.store := by
  unfold readSlot
  simp only [onVault, onEnabled, onDoor, onRecord, onNumber, onSlot, onAlarm, refuse, refuseFor, ok]
  (repeat' split) <;> first | rfl | simp

@[simp] theorem forgetSome_store (number : Option Nat) (s : State) : (forgetSome number s).store = s.store := by
  unfold forgetSome
  split <;> simp

@[simp] theorem findFreeSlot_store (s : State) : (findFreeSlot s).1.store = s.store := by
  unfold findFreeSlot
  simp only [onVault, onEnabled, onDoor, onRecord, onNumber, onSlot, onAlarm, refuse, refuseFor, ok]
  (repeat' split) <;> first | rfl | simp

@[simp] theorem storeStatus_store (s : State) : (storeStatus s).1.store = s.store := by
  simp [storeStatus]

@[simp] theorem setTime_store (day minute second : Nat) (s : State) :
    (setTime day minute second s).1.store = s.store := by
  unfold setTime
  simp only [onVault, onEnabled, onDoor, onRecord, onNumber, onSlot, onAlarm, refuse, refuseFor, ok]
  (repeat' split) <;> first | rfl | (simp [apply_ite State.store, apply_ite Prod.fst]; done) | (simp; rfl)

@[simp] theorem getTime_store (s : State) : (getTime s).1.store = s.store := by
  simp [getTime]

@[simp] theorem readHolidays_store (s : State) : (readHolidays s).1.store = s.store := by
  simp [readHolidays]

@[simp] theorem readSchedule_store (schedule : Nat) (s : State) : (readSchedule schedule s).1.store = s.store := by
  unfold readSchedule
  simp only [onVault, onEnabled, onDoor, onRecord, onNumber, onSlot, onAlarm, refuse, refuseFor, ok]
  (repeat' split) <;> first | rfl | simp

@[simp] theorem testOutput_store (vault : Nat) (cadence : Option Cadence) (tone : Option Tone) (strobe : Option Bool) (seconds : Nat) (s : State) :
    (testOutput vault cadence tone strobe seconds s).1.store = s.store := by
  unfold testOutput
  simp only [onVault, onEnabled, onDoor, onRecord, onNumber, onSlot, onAlarm, refuse, refuseFor, ok]
  (repeat' split) <;> first | rfl | simp

@[simp] theorem vaultLineStatus_store (v : Vault) (s : State) : (vaultLineStatus v s).1.store = s.store := by
  simp [vaultLineStatus]

@[simp] theorem siteLineStatus_store (s : State) : (siteLineStatus s).1.store = s.store := by
  simp [siteLineStatus]

@[simp] theorem getLineStatus_store (scope : SiteScope) (s : State) : (getLineStatus scope s).1.store = s.store := by
  cases scope <;> simp only [getLineStatus, onVault, refuse, siteLineStatus_store]
  split <;> simp

@[simp] theorem getReaderStatus_store (scope : ReaderScope) (s : State) :
    (getReaderStatus scope s).1.store = s.store := by
  unfold getReaderStatus
  simp only [onVault, onEnabled, onDoor, onRecord, onNumber, onSlot, onAlarm, refuse, refuseFor, ok]
  (repeat' split) <;> first | rfl | simp

@[simp] theorem releaseOuter_store (v : Vault) (s : State) : (releaseOuter v s).1.store = s.store := by
  unfold releaseOuter
  simp only [onVault, onEnabled, onDoor, onRecord, onNumber, onSlot, onAlarm, refuse, refuseFor, ok]
  (repeat' split) <;> first | rfl | simp

@[simp] theorem releaseVault_store (v : Vault) (numbers : List Nat) (s : State) :
    (releaseVault v numbers s).1.store = s.store := by
  unfold releaseVault
  simp only [onVault, onEnabled, onDoor, onRecord, onNumber, onSlot, onAlarm, refuse, refuseFor, ok]
  (repeat' split) <;> first | rfl | simp

@[simp] theorem releaseDoor_store (vault : Nat) (door : Option Door) (entering : Option (List Nat)) (s : State) :
    (releaseDoor vault door entering s).1.store = s.store := by
  unfold releaseDoor
  simp only [onVault, onEnabled, onDoor, onRecord, onNumber, onSlot, onAlarm, refuse, refuseFor, ok]
  (repeat' split) <;> first | rfl | simp

@[simp] theorem secureVault_store (v : Vault) (s : State) : (secureVault v s).store = s.store := by
  unfold secureVault
  dsimp only
  (repeat' split) <;> first | rfl | simp

@[simp] theorem secureDoor_store (vault : Nat) (door : Option Door) (s : State) :
    (secureDoor vault door s).1.store = s.store := by
  unfold secureDoor
  simp only [onVault, onEnabled, onDoor, onRecord, onNumber, onSlot, onAlarm, refuse, refuseFor, ok]
  (repeat' split) <;> first | rfl | simp

@[simp] theorem holdDoor_store (vault : Nat) (door : Option Door) (seconds : Nat) (s : State) :
    (holdDoor vault door seconds s).1.store = s.store := by
  unfold holdDoor
  simp only [onVault, onEnabled, onDoor, onRecord, onNumber, onSlot, onAlarm, refuse, refuseFor, ok]
  (repeat' split) <;> first | rfl | simp

@[simp] theorem getDoorStatus_store (vault : Nat) (s : State) : (getDoorStatus vault s).1.store = s.store := by
  unfold getDoorStatus
  simp only [onVault, onEnabled, onDoor, onRecord, onNumber, onSlot, onAlarm, refuse, refuseFor, ok]
  (repeat' split) <;> first | rfl | simp

@[simp] theorem listOccupants_store (vault : Nat) (s : State) : (listOccupants vault s).1.store = s.store := by
  unfold listOccupants
  simp only [onVault, onEnabled, onDoor, onRecord, onNumber, onSlot, onAlarm, refuse, refuseFor, ok]
  (repeat' split) <;> first | rfl | simp

@[simp] theorem addOccupant_store (v : Vault) (number : Nat) (link : Option Nat) (s : State) :
    (addOccupant v number link s).store = s.store := by
  simp [addOccupant]

@[simp] theorem addOccupantRequest_store (vault number : Nat) (link : Option Nat) (s : State) :
    (addOccupantRequest vault number link s).1.store = s.store := by
  unfold addOccupantRequest
  simp only [onVault, onEnabled, onDoor, onRecord, onNumber, onSlot, onAlarm, refuse, refuseFor, ok]
  (repeat' split) <;> first | rfl | simp

@[simp] theorem dropOccupant_store (v : Vault) (number : Nat) (s : State) :
    (dropOccupant v number s).store = s.store := by
  simp [dropOccupant]

@[simp] theorem removeOccupantRequest_store (number : Nat) (s : State) :
    (removeOccupantRequest number s).1.store = s.store := by
  unfold removeOccupantRequest
  simp only [onVault, onEnabled, onDoor, onRecord, onNumber, onSlot, onAlarm, refuse, refuseFor, ok]
  (repeat' split) <;> first | rfl | simp

@[simp] theorem confirmOccupancy_store (vault : Nat) (s : State) : (confirmOccupancy vault s).1.store = s.store := by
  unfold confirmOccupancy
  simp only [onVault, onEnabled, onDoor, onRecord, onNumber, onSlot, onAlarm, refuse, refuseFor, ok]
  (repeat' split) <;> first | rfl | simp

@[simp] theorem globalHold_store (value : Option Bool) (s : State) : (globalHold value s).1.store = s.store := by
  unfold globalHold
  simp only [onVault, onEnabled, onDoor, onRecord, onNumber, onSlot, onAlarm, refuse, refuseFor, ok]
  (repeat' split) <;> first | rfl | (simp [apply_ite State.store, apply_ite Prod.fst]; done) | (simp; rfl)

@[simp] theorem readSuppressionParams_store (vault : Nat) (s : State) :
    (readSuppressionParams vault s).1.store = s.store := by
  unfold readSuppressionParams
  simp only [onVault, onEnabled, onDoor, onRecord, onNumber, onSlot, onAlarm, refuse, refuseFor, ok]
  (repeat' split) <;> first | rfl | simp

@[simp] theorem sequencerAnswer_store (v : Vault) (s : State) : (sequencerAnswer v s).1.store = s.store := by
  simp [sequencerAnswer]

@[simp] theorem resetSuppression_store (vault : Nat) (s : State) : (resetSuppression vault s).1.store = s.store := by
  unfold resetSuppression
  simp only [onVault, onEnabled, onDoor, onRecord, onNumber, onSlot, onAlarm, refuse, refuseFor, ok]
  (repeat' split) <;> first | rfl | simp

@[simp] theorem getSuppressionStatus_store (vault : Nat) (s : State) :
    (getSuppressionStatus vault s).1.store = s.store := by
  unfold getSuppressionStatus
  simp only [onVault, onEnabled, onDoor, onRecord, onNumber, onSlot, onAlarm, refuse, refuseFor, ok]
  (repeat' split) <;> first | rfl | simp

@[simp] theorem ackAlarm_store (id : Nat) (s : State) : (ackAlarm id s).1.store = s.store := by
  unfold ackAlarm
  simp only [onVault, onEnabled, onDoor, onRecord, onNumber, onSlot, onAlarm, refuse, refuseFor, ok]
  (repeat' split) <;> first | rfl | simp

@[simp] theorem clearAlarm_store (id : Nat) (s : State) : (clearAlarm id s).1.store = s.store := by
  unfold clearAlarm
  simp only [onVault, onEnabled, onDoor, onRecord, onNumber, onSlot, onAlarm, refuse, refuseFor, ok]
  (repeat' split) <;> first | rfl | simp

@[simp] theorem listAlarms_store (start : Nat) (filter : Option AlarmFilter) (s : State) :
    (listAlarms start filter s).1.store = s.store := by
  unfold listAlarms
  simp only [onVault, onEnabled, onDoor, onRecord, onNumber, onSlot, onAlarm, refuse, refuseFor, ok]
  (repeat' split) <;> first | rfl | simp

@[simp] theorem readAlarm_store (id : Nat) (s : State) : (readAlarm id s).1.store = s.store := by
  unfold readAlarm
  simp only [onVault, onEnabled, onDoor, onRecord, onNumber, onSlot, onAlarm, refuse, refuseFor, ok]
  (repeat' split) <;> first | rfl | simp

@[simp] theorem getAttention_store (s : State) : (getAttention s).1.store = s.store := by
  simp [getAttention]

@[simp] theorem setAttentionEnable_store (enable : Causes) (s : State) :
    (setAttentionEnable enable s).1.store = s.store := by
  simp [setAttentionEnable]

@[simp] theorem getSiteStatus_store (s : State) : (getSiteStatus s).1.store = s.store := by
  simp [getSiteStatus]

@[simp] theorem readParams_store (group : SiteScope) (s : State) : (readParams group s).1.store = s.store := by
  cases group <;> simp only [readParams, onVault, refuse, ok]
  split <;> simp

@[simp] theorem restart_store (s : State) : (restart s).1.store = s.store := by
  simp [restart]

@[simp] theorem getResetCause_store (s : State) : (getResetCause s).1.store = s.store := by
  simp [getResetCause]

end Sys2Proof.Machine
end

