-- ==== Sys2Proof/Tests/Slice0.lean ====
section
/-!
SUPPORT. Tests on small states: an ill-formed term that each check of `WellFormed.lean` refuses, images and frames written
out byte by byte from the Formats section, single steps whose outcome the chapters give, and for each statement a witness
that its hypotheses can be met, clause by clause.
-/

open Sys2Proof Sys2Proof.Machine

set_option maxRecDepth 100000

namespace Sys2Proof.Tests

/-! ## States -/

/-- The part right after the end of the scan, with the delivered array and the default configuration. -/
def base : Machine.State := { State.reset with phase := .running, scanPos := 2082 }

/-- An ACTIVE credential for every vault with no PIN. -/
def card (k : Nat) : CredRecord :=
  { number := k, state := .active, vaults := 0xFF, escortRequired := false, mayEscort := false, schedule := none
    expiry := none, uses := none, pin := none, duress := none, revision := 1 }

/-- A record stored in a slot, with its number in the index. -/
def stored (n : Nat) (r : CredRecord) (s : Machine.State) : Machine.State :=
  { s with array := { s.array with slots := [(n, .content (encodeSlot (some r)))] }, index := [(r.number, n)] }

/-- A qualified change of a line of vault 0 waits. -/
def changing (l : Line) (old : Option Reading) (new : Reading) (s : Machine.State) : Machine.State :=
  { s.withLineRecord .v0 l
      { qualified := old, candidate := some new, run := 4, start := some zeroInstant, last := some new } with
    due := [.line .v0 l] }

/-- A line of vault 0 is qualified. -/
def lined (l : Line) (x : Reading) (s : Machine.State) : Machine.State :=
  s.withLineRecord .v0 l { unqualified with qualified := some x }

/-- An event of the last tick waits. -/
def waits (d : Due) (s : Machine.State) : Machine.State := { s with due := [d] }

/-- The door of vault 0 changed. -/
def doored (f : DoorRecord → DoorRecord) (s : Machine.State) : Machine.State := s.withDoor .v0 (f (s.door .v0))

/-- The vault door of vault 0 in a state. -/
def shut (x : VaultState) (s : Machine.State) : Machine.State := doored (fun d => { d with vault := x }) s

/-- The sequencer of vault 0 changed. -/
def fired (f : SsqRecord → SsqRecord) (s : Machine.State) : Machine.State := s.withSequencer .v0 (f (s.sequencer .v0))

/-- The sequencer of vault 0 in a state. -/
def inState (x : SsqState) (s : Machine.State) : Machine.State := fired (fun q => { q with state := x }) s

/-- A countdown of vault 0 on a path with a remaining time. -/
def counting (x : SsqState) (p : Path) (n : Nat) (s : Machine.State) : Machine.State :=
  fired (fun q => { q with state := x, path := some p, remaining := some n, clear := true }) s

/-- An occupant who entered at the start of the calendar. -/
def person (k : Nat) (left : Option Nat) : Occupant :=
  { number := k, entered := zeroInstant, link := none, wanted := false, checkIn := left, underDuress := false, overdue := false }

/-- Vault 0 with an occupant list. -/
def housing (l : List Occupant) (certain : Bool) (s : Machine.State) : Machine.State :=
  s.withOccupancy .v0 { entries := l, certain := certain }

/-- The mode and the auto flag. -/
def moded (m : Mode) (a : Bool) (s : Machine.State) : Machine.State := { s with mode := m, auto := a }

/-- The values in force of vault 0 changed. -/
def grouped (f : VaultGroup → VaultGroup) (s : Machine.State) : Machine.State := s.withGroup .v0 (f (s.group .v0))

/-- An alarm record of a key and state. -/
def alarm (id : Nat) (key : AlarmKey) (st : AlarmState) : AlarmRecord :=
  { id := id, key := key, raisedAt := { day := 0, minute := 0, second := 0 }, state := st, level := 1, occurrences := 1
    escalation := none }

/-- The alarm table replaced. -/
def alarmed (l : List AlarmRecord) (s : Machine.State) : Machine.State := { s with atu := { s.atu with table := l } }

/-- A full alarm table, every record in one state. -/
def fullTable (st : AlarmState) : List AlarmRecord :=
  (List.range 48).map fun i => alarm (i + 1) { kind := .loneWorker, vault := none, credential := some i, detail := none } st

/-- A vault-door grant of an origin. -/
def grantOf (o : VaultOrigin) (e : List Nat) (x : List Nat) : VaultGrant :=
  { origin := o, entering := e.map fun k => { number := k, duress := false, link := none }, exiting := x
    unrecorded := false, lapse := some 1 }

/-- An attempt in flight for the oldest entry, the schedule record 31. -/
def programmed (attempts : Nat) : Machine.State :=
  { base with nva := { base.nva with
      queue := [⟨.schedule 31 [⟨1, 0, 0⟩], attempts⟩]
      inFlight := some { image := .schedule 31 [⟨1, 0, 0⟩], discard := false, spoiled := false } } }

/-- The FREE image of a purged slot 12 at its attempt, with number 40,117 in the cell and what is kept of earlier ones. -/
def purging (kept : List (Nat × Option Nat)) : Machine.State :=
  { stored 12 (card 40117) base with
    index := []
    nva := { base.nva with
      queue := [⟨.slot 12 none, 0⟩]
      inFlight := some { image := .slot 12 none, discard := false, spoiled := false }
      unsettled := kept } }

/-- The status that a request is answered. -/
def statusOf (c : Instr) (s : Machine.State) : Option Status :=
  match exec c s with
  | .next t => t.link.response.map Response.status
  | _ => none

/-- One field of the next state. -/
def after {α : Type} (f : Machine.State → α) (c : Instr) (s : Machine.State) : Option α :=
  match exec c s with
  | .next t => some (f t)
  | _ => none

/-- The reading NORMAL on every line. -/
def quietReadings : Readings where
  vaults := PerVault.replicate { lines := PerLine.make fun _ => .normal, release := .intact }
  site := PerSite.make fun _ => .normal

/-- The same with one line of vault 0 replaced. -/
def readingOf (l : Line) (x : Reading) : Readings :=
  let v : VaultReadings := { lines := (PerLine.make fun _ => Reading.normal).set l x, release := .intact }
  { quietReadings with vaults := quietReadings.vaults.set .v0 v }

/-- The fields of a credential write that pass every check on slot 0. -/
def plainWrite : CredentialWrite :=
  { slot := 0, number := 7, state := some .active, vaults := 1, escortRequired := false, mayEscort := false
    schedule := none, expiry := none, uses := none, secrets := .give none none, expected := none }

/-! ## Ill-formed terms -/

theorem test_wf_numbers : ([.lookupCredential 4294967296, .grantVaults 4294967296 0, .revokeVaults 4294967296 0,
    .suspend 4294967296, .reinstate 4294967296, .retire 4294967296, .removeOccupant 4294967296,
    .addOccupant 0 4294967296 none, .addOccupant 0 1 (some 4294967296),
    .releaseDoor 0 (some .vault) (some [1, 4294967296])].all fun i => !Instr.wellFormed i) = true := by decide

theorem test_wf_slots : ([.readSlot 65536, .purge 65536].all fun i => !Instr.wellFormed i) = true := by decide

theorem test_wf_credential_write : ([{ plainWrite with slot := 65536 }, { plainWrite with number := 4294967296 },
    { plainWrite with schedule := some 256 }, { plainWrite with expiry := some 65536 },
    { plainWrite with uses := some 65536 }, { plainWrite with expected := some 256 }].all
      fun w => !Instr.wellFormed (.writeCredential w)) = true
    ∧ Instr.wellFormed (.writeCredential plainWrite) = true := by decide

theorem test_wf_alarm_ids : ([.ackAlarm 65536, .clearAlarm 65536, .readAlarm 65536, .escalationExpiry 0,
    .escalationExpiry 65536].all fun i => !Instr.wellFormed i) = true := by decide

theorem test_wf_transactions : ([.responseTransaction 0, .ignoredTransaction 0xA5#8 1, .ignoredTransaction 0x5A#8 1,
    .ignoredTransaction 0#8 0, .readerReplyComplete []].all fun i => !Instr.wellFormed i) = true := by decide

theorem test_wf_readings : Instr.wellFormed (.tickEvent (readingOf .outerContact .opened)) = false
    ∧ Instr.wellFormed (.tickEvent quietReadings) = true := by decide

/-! ## Images and frames written out from the Formats section -/

/-- R213: the image of credential 4,294,967,294, SUSPENDED, vault 0, escort-required, schedule 31, expiry 65,534, uses
65,535, PIN 1234, duress code 98765432, revision 255. -/
theorem test_record_image : encodeSlot (some
      { number := 4294967294, state := .suspended, vaults := 1, escortRequired := true, mayEscort := false
        schedule := some 31, expiry := some 65534, uses := some 65535, pin := some [1, 2, 3, 4]
        duress := some [9, 8, 7, 6, 5, 4, 3, 2], revision := 255 })
    = [0xFF, 0xFF, 0xFF, 0xFE, 0x02, 0x01, 0x1D, 0x1F, 0xFF, 0xFE, 0xFF, 0xFF, 0x48, 0x12, 0x34, 0xFF, 0xFF, 0x98, 0x76,
       0x54, 0x32, 0xFF, 0x5C, 0x47] := by decide

/-- R213: two windows, Monday to Friday 00:00 to 23:59 and HOL 08:00 to 18:00, in the 22-byte schedule image. -/
theorem test_schedule_image : encodeSchedule [⟨0x1F, 0, 1439⟩, ⟨0x80, 480, 1080⟩]
    = [0x02, 0x1F, 0x00, 0x00, 0x05, 0x9F, 0x80, 0x01, 0xE0, 0x04, 0x38, 0, 0, 0, 0, 0, 0, 0, 0, 0, 0, 0x68] := by decide

/-- R215: the POLL of the reader at address 0, and its replies IDLE, TAMPER and PRESENT of number 7; a wrong check. -/
theorem test_reader_frames : pollFrame ⟨.v0, .outer⟩ = [0x00, 0x01, 0x00, 0x15]
    ∧ parseReply ⟨.v0, .outer⟩ [0x00, 0x81, 0x00, 0xA3] = some .idle
    ∧ parseReply ⟨.v0, .outer⟩ [0x00, 0x83, 0x00, 0x89] = some .tamper
    ∧ parseReply ⟨.v0, .outer⟩ [0x00, 0x82, 0x06, 0, 0, 0, 7, 0, 0, 0x43] = some (.present 7 .entry [])
    ∧ parseReply ⟨.v0, .outer⟩ [0x00, 0x81, 0x00, 0xA2] = none := by decide

/-- R212: a GET-TIME frame, one with an undefined code, one with a body it does not take, and one with a wrong CRC. -/
theorem test_link_frames :
    (frameRequest [0xA5, 0x0F, 0x09, 0x00, 0x44, 0x5A]).toOption = some (15, .getTime)
    ∧ (match frameRequest [0xA5, 0x30, 0x09, 0x00, 0xAD, 0xCE] with | .error e => decide (e = .unknownRequest) | _ => false) = true
    ∧ (match frameRequest [0xA5, 0x0F, 0x09, 0x01, 0x00, 0x61, 0x71] with | .error e => decide (e = .badLength) | _ => false) = true
    ∧ (match frameRequest [0xA5, 0x0F, 0x09, 0x00, 0x44, 0x5B] with | .error e => decide (e = .badFrame) | _ => false) = true := by
  decide

/-! ## Single steps -/

/-- R50, R202, R211: the end of a POWER-ON reset leaves the part as `State.reset` has it. -/
theorem test_end_of_reset : exec (.endOfReset true)
    { State.reset with phase := .reset, atu := resetAtu } = .next State.reset := rfl

/-- R41: a part as delivered is in MAINTENANCE after the configuration read. -/
theorem test_configuration_read : after (·.mode) .configurationRead State.reset = some .maintenance := by decide

theorem test_set_time_bounds : statusOf (.setTime 65535 1439 59) base = some .ok
    ∧ statusOf (.setTime 65536 1439 59) base = some .badField ∧ statusOf (.setTime 65535 1440 59) base = some .badField
    ∧ statusOf (.setTime 65535 1439 60) base = some .badField := by decide

theorem test_schedule_bounds : statusOf (.readSchedule 31) base = some .ok ∧ statusOf (.readSchedule 32) base = some .badField
    ∧ statusOf (.writeSchedule 31 [⟨0xFF, 0, 1439⟩]) base = some .ok
    ∧ statusOf (.writeSchedule 31 [⟨0xFF, 0, 1440⟩]) base = some .badField
    ∧ statusOf (.writeSchedule 31 [⟨0, 0, 1439⟩]) base = some .badField := by decide

theorem test_slot_bounds : statusOf (.readSlot 2047) base = some .ok ∧ statusOf (.readSlot 2048) base = some .badField
    ∧ statusOf (.lookupCredential 4294967294) base = some .notFound
    ∧ statusOf (.lookupCredential 4294967295) base = some .badField ∧ statusOf (.lookupCredential 0) base = some .badField := by
  decide

theorem test_vault_bounds : ([.getDoorStatus 7, .listOccupants 7, .getSuppressionStatus 7, .readSuppressionParams 7,
      .getLineStatus (.vault 7), .readParams (.vault 7), .getReaderStatus (.address 23)].all
        fun c => decide (statusOf c base = some .ok)) = true
    ∧ ([.getDoorStatus 8, .listOccupants 8, .getSuppressionStatus 8, .readSuppressionParams 8, .getLineStatus (.vault 8),
      .readParams (.vault 8), .getReaderStatus (.address 24)].all
        fun c => decide (statusOf c base = some .badField)) = true := by decide

theorem test_list_alarms_bounds : statusOf (.listAlarms 48 (some .all)) base = some .ok
    ∧ statusOf (.listAlarms 49 (some .all)) base = some .badField ∧ statusOf (.listAlarms 0 (some .all)) base = some .badField := by
  decide

/-- R57, R58: a window that runs past midnight is contained on the next day up to its end. -/
theorem test_window_past_midnight :
    windowContains [] ⟨0x20, 1320, 360⟩ 1 359 = true ∧ windowContains [] ⟨0x20, 1320, 360⟩ 1 360 = false
    ∧ windowContains [] ⟨0x20, 1320, 360⟩ 0 1319 = false ∧ windowContains [] ⟨0x20, 1320, 360⟩ 0 1320 = true := by decide

/-- R48: the last instant of the calendar is followed by the zero instant, UNSYNCHRONISED. -/
theorem test_calendar_end : after (fun t => (t.cal.instant, t.cal.state)) (.tickEvent quietReadings)
    { base with cal := { base.cal with instant := ⟨65535, 1439, 59, 99⟩, state := .synchronised } }
      = some (zeroInstant, .unsynchronised) := by decide

/-- R43: the ticks of one second take 32,768 reference cycles, 68 of them 328 and the others 327. -/
theorem test_accumulator_wraps : after (fun t => (t.tmb.accumulator, t.tmb.length)) (.tickEvent quietReadings)
    { base with tmb := { base.tmb with source := .reference, accumulator := 32 } } = some (0, some 328) := by decide

/-- Worked sequence of R6: the number stays taken for slot 300 until the FREE image of slot 12 settles. -/
theorem test_number_taken_until_settled :
    after (·.numberTaken 40117 300) (.attemptCompletion (.verifyDiffers .checkFails)) (purging []) = some true
      ∧ after (·.numberTaken 40117 12) (.attemptCompletion (.verifyDiffers .checkFails)) (purging []) = some false
      ∧ after (·.numberTaken 40117 300) (.attemptCompletion .verifyMatches) (purging [(12, some 40117)]) = some false := by
  decide

/-- R215: GET-READER-STATUS reports a verdict by its place in the R91 table. -/
theorem test_reader_status_verdict_code :
    let s := base.withReader ⟨.v0, .outer⟩ { resetReader with waiting := some { verdict := .suppression, number := some 7 } }
    after (fun t => t.link.response.map Response.body) (.getReaderStatus (.address 0)) s
      = some (some (.readers [{ inRound := true, status := .online, misses := 0, presentation := none
                                waiting := some { code := 27, number := some 7 }, inFlight := none, lastVerdict := none }]
          none)) := by decide

/-- R126, R131: a RELEASE-DOOR of the vault door with one number, and its use at the opening of the door. -/
theorem test_release_door : statusOf (.releaseDoor 0 (some .vault) (some [7])) base = some .ok
    ∧ after (fun t => (t.door .v0).vault) (.releaseDoor 0 (some .vault) (some [7])) base = some .retracting := by decide

/-! ## Witnesses of the statements -/

theorem witness_StepRunsTheFrontCommand :
    (base.withPending [.getTime, .restart]).pending = .getTime :: [.restart] ∧ base.pending = [] := by decide

theorem witness_EveryCommandCompletes : dueOf .getTime = none ∧ dueOf .minuteEvent = some .minute ∧ Due.minute ∉ base.due
    ∧ dueOf (.soakEnd .v0) = some (.soak .v0) ∧ { base with phase := .reset }.phase = .reset := by decide

theorem witness_RefusedRequestsChangeNothing : requestCode (.suspend 0) = some 6 ∧ base.ready
    ∧ statusOf (.suspend 0) base = some .badField ∧ State.reset.phase = .scanning ∧ State.reset.due = []
    ∧ requestCode .getTime = some 15 ∧ requestCode .getAttention = some 41 ∧ requestCode .getSiteStatus = some 43
    ∧ requestCode .getResetCause = some 47 := by decide

theorem witness_AResetLeavesTheResetState : base.awake ∧ base.nva.inFlight = none
    ∧ { base with phase := .reset }.phase = .reset ∧ { base with phase := .reset }.due = [] := by decide

theorem witness_TheArrayChangesOnlyByProgramming :
    ∃ t, step ((programmed 0).withPending [.attemptCompletion .verifyMatches]) = .next t ∧ t.array ≠ (programmed 0).array
      ∧ (programmed 0).array.canonical = true := ⟨_, rfl, by decide⟩

theorem witness_ResetMeetsTheInvariants : base.ready ∧ base.storeSound = true ∧ base.restSound = true := by decide

theorem witness_EveryStepKeepsTheStoreSound :
    (programmed 7).storeSound = true
      ∧ ∃ t, step ((programmed 7).withPending [.attemptCompletion (.verifyDiffers .checkFails)]) = .next t :=
  ⟨by decide, _, rfl⟩

theorem witness_EveryStepKeepsTheTablesSound :
    (alarmed (fullTable .clearedUnack) base).tablesSound = true
      ∧ ∃ t, step ((alarmed (fullTable .clearedUnack) base).withPending [.referenceLost]) = .next t := ⟨by decide, _, rfl⟩

theorem witness_EveryStepKeepsTheRegisterSound :
    (housing [person 7 none] true base).registerSound = true
      ∧ ∃ t, step ((housing [person 7 none] true base).withPending [.addOccupant 0 8 none]) = .next t := ⟨by decide, _, rfl⟩

theorem witness_EveryStepKeepsTheInterlock :
    (lined .boltsThrown .active base).interlocked = true
      ∧ (inState .inhibited (doored (fun d => { d with emergency := true, outer := .emergencyUnlocked }) base)).interlocked = true
      ∧ (inState .inhibited base).interlocked = false
      ∧ base.restSound = true ∧ base.claimsSound = true ∧ (inState .inhibited base).claimsSound = false
      ∧ ∃ t, step (base.withPending [.releaseDoor 0 (some .outer) none]) = .next t :=
  ⟨by decide, by decide, by decide, by decide, by decide, by decide, _, rfl⟩

theorem witness_EveryStepKeepsTheClearance :
    (housing [] true (counting .countdown .automatic 1 base)).clearanceKept = true
      ∧ ∃ t, step ((housing [] true (counting .countdown .automatic 1 base)).withPending [.addOccupant 0 8 none]) = .next t :=
  ⟨by decide, _, rfl⟩

theorem witness_EveryStepKeepsIdleVaultsAtRest :
    (grouped (fun g => { g with enabled := false }) base).restSound = true
      ∧ ∃ t, step ((grouped (fun g => { g with enabled := false }) base).withPending [.tickEvent quietReadings]) = .next t :=
  ⟨by decide, _, rfl⟩

theorem witness_EveryStepKeepsProgrammingAndTime : (programmed 0).programming = true ∧ (programmed 0).timeSound = true
    ∧ ∃ t, step ((programmed 0).withPending [.attemptCompletion .verifyMatches]) = .next t := ⟨by decide, by decide, _, rfl⟩

theorem witness_AVaultsEventTouchesThatVaultAlone :
    dueOf (.outerContact .v0) = some (.line .v0 .outerContact) ∧ Due.vault (.line .v0 .outerContact) = some .v0
      ∧ (changing .outerContact (some .normal) .active base).comes (.line .v0 .outerContact) := by decide

theorem witness_ImagesReadBack : recordInRange { card 4294967294 with
      schedule := some 31, expiry := some 65534, uses := some 65535, pin := some [1, 2, 3, 4], revision := 255 } = true
    ∧ (List.replicate 4 (Window.mk 0xFF 0 1439)).length ≤ 4
    ∧ ∀ x ∈ List.replicate 4 (Window.mk 0xFF 0 1439), goodWindow x = true := by decide

theorem witness_ReportsHideTheDigits :
    let r : CredRecord := { card 7 with pin := some [1, 2, 3, 4] }
    let r' : CredRecord := { card 7 with pin := some [5, 6, 7, 8] }
    (stored 0 r base).ready ∧ (stored 0 r' base).ready ∧ (stored 0 r base).slotContent 0 = .held r
      ∧ (stored 0 r' base).slotContent 0 = .held r' ∧ (stored 0 r base).slotOf 7 = some 0
      ∧ (stored 0 r' base).slotOf 7 = some 0 ∧ { r with pin := none, duress := none } = { r' with pin := none, duress := none }
      ∧ (digitsOf r.pin).length = (digitsOf r'.pin).length ∧ (stored 0 r base).cfg = (stored 0 r' base).cfg
      ∧ (stored 0 r base).failures = (stored 0 r' base).failures ∧ (stored 0 r base).link = (stored 0 r' base).link
      ∧ ((stored 0 r base).nva.queued (.slot 0)).isSome = ((stored 0 r' base).nva.queued (.slot 0)).isSome := by decide

theorem witness_PlacingCoalescesOrAppends : (programmed 0).nva.lawful = true
    ∧ ((programmed 0).nva.queued (Image.schedule 31 []).target).isSome = true
    ∧ (programmed 0).nva.queued (Image.holidays []).target = none ∧ Target.holidays ≠ (Image.schedule 31 []).target := by
  decide

theorem witness_RaisingAnAlarm :
    (∃ r ∈ base.atu.table, base.atu.lawful = true ∧ r.state ≠ .clearedUnack)
      ∧ (∃ r ∈ (fullTable .clearedUnack), (alarmed (fullTable .clearedUnack) base).atu.lawful = true ∧ r.state = .clearedUnack)
      ∧ (∀ r ∈ base.atu.table, r.key ≠ keyOf .clockFault none none) ∧ base.atu.table.length < 48
      ∧ (alarmed (fullTable .clearedUnack) base).atu.table = [] ++ alarm 1 { kind := .loneWorker, vault := none, credential := some 0, detail := none } .clearedUnack :: (fullTable .clearedUnack).tail
      ∧ (∀ x ∈ fullTable .clearedUnack, x.key ≠ keyOf .clockFault none none)
      ∧ (∀ r ∈ fullTable .raised, r.key ≠ keyOf .clockFault none none ∧ r.state ≠ .clearedUnack)
      ∧ (alarmed (fullTable .raised) base).atu.lawful = true ∧ (fullTable .raised).length = 48
      ∧ kindPriority (keyOf .clockFault none none).kind ≠ 1 := by decide

/-- A full alarm table that no kind of priority 1 may enter, and the latch that spares the site EVACUATION record. -/
theorem witness_RaisingPriorityOne :
    let key := duressCodeKey .v0 7
    let low := fullTable .acknowledged
    let high := (List.range 48).map fun i => alarm (i + 1) (duressCodeKey .v0 (100 + i)) .raised
    let latched : Machine.State := { base with atu := { base.atu with
      table := alarm 48 siteEvacuationKey .raised :: high.take 47, latch := true } }
    kindPriority key.kind = 1 ∧ (alarmed low base).atu.lawful = true ∧ low.length = 48
      ∧ (∀ x ∈ low, x.key ≠ key ∧ x.state ≠ .clearedUnack ∧ 2 ≤ kindPriority x.key.kind)
      ∧ (alarmed high base).atu.lawful = true ∧ high.length = 48 ∧ (∀ x ∈ high, ¬ 2 ≤ kindPriority x.key.kind)
      ∧ latched.atu.table.length = 48 ∧ (∀ x ∈ latched.atu.table, x.key ≠ key ∧ x.state ≠ .clearedUnack)
      ∧ (∀ x ∈ latched.atu.table, ¬ (2 ≤ kindPriority x.key.kind ∧ ¬ (latched.atu.latch = true ∧ x.key = siteEvacuationKey))) := by
  decide


/-- A part whose every slot reads DAMAGED. -/
def allDamaged : Machine.State := { base with nva := { base.nva with damagedSlots := List.range 2048 } }

theorem allDamaged_slot (n : Nat) (h : n < 2048) : allDamaged.slotContent n ≠ .free := by
  have : allDamaged.slotContent n = .damaged := by
    have hm : n ∈ allDamaged.nva.damagedSlots := List.mem_range.2 h
    show allDamaged.storedContent n = .damaged
    unfold State.storedContent
    simp only [hm]
    rfl
  rw [this]
  decide

theorem witness_CredentialReadsReportTheEffectiveContent :
    (stored 2047 (card 4294967294) base).ready
      ∧ (stored 2047 (card 4294967294) base).slotOf 4294967294 = some 2047
      ∧ (stored 2047 (card 4294967294) base).slotContent 2047 = .held (card 4294967294)
      ∧ (∀ e ∈ (stored 2047 (card 4294967294) base).failures, 0 < e.failures)
      ∧ base.slotContent 2047 = .free
      ∧ (stored 0 (card 7) base).slotContent 1 = .free ∧ (∀ m, m < 1 → (stored 0 (card 7) base).slotContent m ≠ .free) := by
  decide

theorem witness_FindFreeSlotNotFound : allDamaged.ready
    ∧ ∀ n, n < 2048 - allDamaged.cfg.site.bandSize → allDamaged.slotContent n ≠ .free :=
  ⟨⟨rfl, rfl⟩, fun n h => allDamaged_slot n h⟩

theorem witness_WriteCredentialFormsTheRecord :
    let s := stored 2047 { card 8 with pin := some [1, 2, 3, 4] } (moded .maintenance false base)
    let w : CredentialWrite := { plainWrite with
      slot := 2047, number := 4294967294, schedule := some 31, expiry := some 65534, uses := some 65535, expected := some 1 }
    s.ready ∧ s.storeSound = true ∧ s.mode = .maintenance ∧ w.state = some .active
      ∧ (w.escortRequired && w.mayEscort) = false
      ∧ s.slotContent w.slot = .held { card 8 with pin := some [1, 2, 3, 4] }
      ∧ w.secrets = .give none none ∧ { w with secrets := .keep }.secrets = .keep
      ∧ (s.slotContent w.slot).revision = 1 ∧ (s.slotContent w.slot).number = some 8 ∧ s.inUse 8 = false
      ∧ s.numberTaken w.number w.slot = false ∧ s.storeBusy = false
      ∧ statusOf (.writeCredential w) s = some .ok ∧ statusOf (.writeCredential { w with secrets := .keep }) s = some .ok
      ∧ statusOf (.writeCredential { w with secrets := .give (some [0, 0, 0, 0]) (some [0, 0, 0, 1]) }) s = some .ok := by
  decide

theorem witness_ChangesOfARecord :
    let s (r : CredRecord) := stored 2047 r base
    let r := { card 7 with vaults := 1 }
    (s r).ready ∧ (s r).storeSound = true ∧ (s r).slotOf 7 = some 2047 ∧ (s r).slotContent 2047 = .held r
      ∧ ¬ 2048 - (s r).cfg.site.bandSize ≤ 2047 ∧ (s r).storeBusy = false
      ∧ r.vaults ||| 1 = r.vaults ∧ r.vaults &&& ~~~2 = r.vaults ∧ r.vaults ||| 2 ≠ r.vaults ∧ r.vaults &&& ~~~1 ≠ r.vaults
      ∧ r.state = .active
      ∧ (s { r with state := .suspended }).slotContent 2047 = .held { r with state := .suspended }
      ∧ (s { r with state := .suspended }).storeSound = true := by decide

theorem witness_PurgeFreesTheSlot :
    let s := stored 2047 (card 7) base
    s.ready ∧ s.storeSound = true ∧ ¬ 2048 - s.cfg.site.bandSize ≤ 2047 ∧ s.slotContent 2047 ≠ .free
      ∧ (s.slotContent 2047).number = some 7 ∧ s.inUse 7 = false ∧ s.storeBusy = false
      ∧ s.settledNumber 2047 = some 7 ∧ (0 : Nat) ≠ 2047 := by decide

theorem witness_StatusRequestsReportTheRecords : base.ready ∧ 31 < 32 ∧ 32 ≤ 32 ∧ 8 ≤ 8 := by decide

theorem witness_HolidayAndScheduleWrites : base.ready ∧ base.storeSound = true ∧ base.storeBusy = false
    ∧ [0, 65535].Pairwise (· < ·) ∧ (∀ d ∈ [0, 65535], d ≤ 65535)
    ∧ ∀ x ∈ List.replicate 4 (Window.mk 1 0 1439), x.mask ≠ 0 ∧ x.start ≤ 1439 ∧ x.stop ≤ 1439 := by decide

/-- A part in MAINTENANCE with every vault ISOLATED. -/
def still : Machine.State :=
  { moded .maintenance false base with ssq := PerVault.replicate { resetSsq defaultSuppression with state := .isolated } }

theorem witness_CommissioningRequests : base.ready ∧ base.storeSound = true ∧ base.cfg.lock = false ∧ base.storeBusy = false
    ∧ { base with cfg := { base.cfg with lock := true } }.cfg.lock = true
    ∧ { base with nva := { base.nva with queue := (List.range 6).map fun n => ⟨.slot n none, 0⟩ } }.storeBusy = true
    ∧ { base with nva := { base.nva with queue := (List.range 6).map fun n => ⟨.slot n none, 0⟩ } }.storeSound = true
    ∧ still.ready ∧ still.mode = .maintenance ∧ still.nva.erase = none ∧ still.nva.inFlight = none ∧ still.supply = .good
    ∧ statusOf .eraseAll still = some .ok := by decide

theorem witness_EraseAllVaults : (∀ v, still.enabled v = true → (still.sequencer v).state = .isolated)
    ∧ ∀ v, (still.occupancy v).entries = [] ∧ still.pair v = none
      ∧ ∀ g, (still.door v).vaultGrant = some g → g.entering = [] ∧ g.exiting = [] := by
  constructor <;> intro v <;> cases v <;> decide

theorem witness_SetTimeSetsTheCalendar : (moded .maintenance false base).ready ∧ (moded .maintenance false base).auto = false
    ∧ base.ready ∧ base.auto = true ∧ 65535 < 65536 := by decide

theorem witness_GetTimeReportsTheCalendar : base.ready ∧ State.reset.phase = .scanning ∧ State.reset.due = []
    ∧ ∃ u, exec (.setTime 65535 1439 59) base = .next u := ⟨⟨rfl, rfl⟩, rfl, rfl, _, rfl⟩

theorem witness_TestClaimsBeginAndEnd :
    base.ready ∧ base.enabled .v0 = true ∧ (grouped (fun g => { g with enabled := false }) base).ready
      ∧ (grouped (fun g => { g with enabled := false }) base).enabled .v0 = false
      ∧ (waits (.testClaim .v0) (base.withClaimSet .v0 { noClaims with test := some ⟨.fast, .low, true, 1⟩ })).comes
          (.testClaim .v0)
      ∧ (base.claimSet .v0).ssq = stateClaim (base.sequencer .v0).state ∧ base.restSound = true ∧ base.claimsSound = true
      ∧ State.reset.restSound = true ∧ State.reset.acts .v0 = false
      ∧ statusOf (.testOutput 0 (some .slow) (some .high) (some true) 11) base = some .ok
      ∧ (exec (.testOutput 0 (some .slow) (some .high) (some true) 0) base matches .next _) := by decide

/-- R76, R77: each winning kind at the last tick of an interval of its cadence and at the first of the next. -/
theorem witness_SounderAndStrobe :
    let at' (c : ClaimSet) (p : Nat) : Option Tone × Bool :=
      let o := (base.withClaimSet .v0 { c with position := p }).vaultOutputs .v0
      (o.sounder, o.strobe)
    ([0, 49, 50, 99, 100, 149, 150, 199, 200, 249, 250, 399].map (at' { noClaims with ssq := some .evacuate })
        = [0, 0, 1, 1, 0, 0, 1, 1, 0, 0, 1, 1].map fun k => (if k = 0 then some .high else none, true))
      ∧ [0, 399].map (at' { noClaims with ssq := some .discharge, siteEvacuate := false }) = [(some .high, true), (some .high, true)]
      ∧ [24, 25].map (at' { noClaims with ssq := some .preDischarge, outerForced := true }) = [(some .high, true), (none, true)]
      ∧ [99, 100].map (at' { noClaims with ssq := some .alert, vaultHeld := true }) = [(some .low, true), (none, true)]
      ∧ [500].map (at' { noClaims with vaultForced := true, outerHeld := true }) = [(some .low, false)]
      ∧ [99, 100].map (at' { noClaims with vaultHeld := true, chirp := true }) = [(some .low, false), (none, false)]
      ∧ [9, 10].map (at' { noClaims with chirp := true, test := some ⟨.fast, .high, true, 1⟩ })
          = [(some .low, false), (none, false)]
      ∧ [24, 25].map (at' { noClaims with test := some ⟨.fast, .high, true, 1⟩ }) = [(some .high, true), (none, true)]
      ∧ [0].map (at' noClaims) = [(none, false)]
      ∧ [0].map (at' { noClaims with ssq := some .alert, siteEvacuate := true }) = [(some .high, true)] := by decide

theorem witness_LinesReadersAndOutputs : base.ready ∧ 7 < 8 ∧ 8 ≤ 8 ∧ 23 < 24 ∧ 24 ≤ 24 := by decide

theorem witness_SetSiteModeSetsTheRecord : base.ready ∧ base.storeSound = true
    ∧ statusOf (.setSiteMode (some .lockdown)) base = some .ok ∧ base.mode ≠ .lockdown := by decide

theorem witness_ReleaseDoorGivesAHostGrant :
    base.ready ∧ base.registerSound = true ∧ base.enabled .v0 = true ∧ (base.sequencer .v0).state = .quiet
      ∧ (base.door .v0).outer = .locked ∧ (base.door .v0).vault = .secured ∧ [1, 4294967294].Nodup
      ∧ (base.door .v0).vaultGrant = none ∧ (base.door .v0).egress = none
      ∧ (∀ k ∈ [1, 4294967294], base.atLimit k = false) ∧ base.mode ≠ .lockdown
      ∧ (∀ k ∈ [1, 4294967294], k ∉ base.placedNumbers) ∧ base.load .v0 + 2 ≤ (base.group .v0).limit
      ∧ base.siteLoad + 2 ≤ 64
      ∧ (grouped (fun g => { g with enabled := false }) base).enabled .v0 = false
      ∧ ((inState .alert base).sequencer .v0).state = .alert
      ∧ ((doored (fun d => { d with outer := .opened }) base).door .v0).outer ≠ .locked
      ∧ ((shut .opened base).door .v0).vault ≠ .secured ∧ ((shut .relockWait base).door .v0).vault = .relockWait := by decide

/-- The checks of R139 that fail one by one, at the states and the numbers where the clauses meet. -/
theorem witness_ReleaseDoorRefusals :
    let reason (l : List Nat) (s : Machine.State) := after (fun t => t.link.response.map Response.body)
      (.releaseDoor 0 (some .vault) (some l)) s
    let because (x : Verdict) : Option (Option Body) := some (some (.reason x))
    let ok (l : List Nat) (s : Machine.State) : Option Status := statusOf (.releaseDoor 0 (some .vault) (some l)) s
    reason [7] (inState .alert base) = because .suppression ∧ reason [7] (shut .opened base) = because .doorBusy
      ∧ reason [7] (doored (fun d => { d with outer := .opened }) base) = because .interlock
      ∧ reason [7] { base with failures := [⟨7, 5, 0⟩] } = because .lockedOut
      ∧ reason [7] (moded .lockdown false base) = because .lockdown ∧ ok [] (moded .lockdown false base) = some .ok
      ∧ reason [7] (housing [person 7 none] true base) = because .passback
      ∧ reason [7, 8] (grouped (fun g => { g with limit := 1 }) base) = because .full
      ∧ ok [7] (grouped (fun g => { g with limit := 1 }) base) = some .ok
      ∧ [[7, 8, 9], [0], [4294967295], [7, 7]].map (fun l => ok l base) = List.replicate 4 (some .badField)
      ∧ ok [4294967294] base = some .ok ∧ statusOf (.releaseDoor 8 (some .vault) none) base = some .badField
      ∧ statusOf (.releaseDoor 0 none none) base = some .badField
      ∧ statusOf (.releaseDoor 0 (some .outer) (some [])) base = some .badField := by decide

/-- A listed number that is escort-required. -/
theorem witness_ReleaseDoorEscort : (stored 0 { card 7 with escortRequired := true } base).escortRequired 7 = true
    ∧ (stored 0 { card 7 with mayEscort := true } base).mayEscort 7 = true := by decide


theorem witness_SecureDoorAndHoldDoor : base.ready ∧ base.enabled .v0 = true ∧ (base.door .v0).emergency = false
    ∧ ((doored (fun d => { d with outer := .opened }) base).door .v0).outer = .opened
    ∧ ((shut .opened base).door .v0).vault = .opened ∧ ((shut .opened base).door .v0).vaultHeldStands = false
    ∧ (base.door .v0).outer ≠ .opened ∧ (base.door .v0).vault ≠ .opened := by decide

theorem witness_GetDoorStatusReportsTheDoors : base.ready ∧ 8 ≤ 8
    ∧ (grouped (fun g => { g with enabled := false }) base).restSound = true
    ∧ (grouped (fun g => { g with enabled := false }) base).enabled .v0 = false := by decide

theorem witness_OccupancyRequests :
    let s := housing [person 7 none] true base
    s.ready ∧ s.enabled .v0 = true ∧ 8 ∉ s.placedNumbers ∧ s.load .v0 + 1 ≤ (s.group .v0).limit ∧ s.siteLoad + 1 ≤ 64
      ∧ (∃ e ∈ (s.occupancy .v0).entries, e.number = 7) ∧ s.registerSound = true
      ∧ (Vault.all.all fun w => (base.occupancy w).entries.all fun e => e.number ≠ 7) = true
      ∧ ((lined .vaultContact .active base).lineRecord .v0 .vaultContact).qualified = some .active
      ∧ (base.lineRecord .v0 .vaultContact).qualified ≠ some .active ∧ (base.occupancy .v0).certain = false
      ∧ ((inState .inhibited base).sequencer .v0).state = .inhibited ∧ 0 < (base.stagedSet .v0).dAuto
      ∧ ((housing [] true base).occupancy .v0).certain = true := by decide

/-- R155, R173: a visitor who wants an escort, and countdowns that an addition and a removal meet. -/
theorem witness_EscortAndCountdown :
    let visitor : Occupant := { person 7 none with wanted := true }
    let s := housing [visitor] true (stored 0 { card 8 with mayEscort := true } base)
    let state (c : Instr) (s : Machine.State) := after (fun t => (t.sequencer .v0).state) c s
    s.ready ∧ s.registerSound = true ∧ ((s.occupancy .v0).entries.map Occupant.number).Nodup ∧ s.atu.lawful = true
      ∧ s.atu.table.length + 2 + 4 ≤ Config.alarmSize ∧ s.settledLink [7, 8] visitor = some 8
      ∧ s.settledLink [7] visitor = none ∧ s.settledLink [7, 9] { visitor with link := some 9 } = some 9
      ∧ after (fun t => t.conditionStands (escortLeftKey .v0 7)) (.removeOccupant 8)
          (housing [{ visitor with link := some 8 }, person 8 none] true base) = some true
      ∧ state (.addOccupant 0 7 none) (housing [] true (counting .countdown .automatic 1 base)) = some .inhibited
      ∧ state (.addOccupant 0 7 none) (housing [] true (counting .awaitClosure .automatic 0 base)) = some .inhibited
      ∧ state (.addOccupant 0 7 none) (housing [] true (counting .countdown .manual 1 base)) = some .countdown
      ∧ state (.removeOccupant 7) (housing [person 7 none] true (inState .inhibited base)) = some .countdown := by decide


theorem witness_GlobalHoldHoldsTheCountdowns : base.ready
    ∧ ((counting .countdown .manual 1 base).sequencer .v0).state = .countdown
    ∧ (base.sequencer .v0).state = .quiet ∧ base.lqu.holdAll = false
    ∧ ((counting .held .manual 1 base).sequencer .v0).state = .held
    ∧ ((counting .held .manual 1 base).sequencer .v0).egress = .none
    ∧ ((counting .held .manual 1 base).sequencer .v0).abortElapsed = none
    ∧ 0 < ((counting .held .manual 1 base).sequencer .v0).remaining.getD 0 := by decide

/-- R171: the countdowns that resume, with time left and with none. -/
theorem witness_ResumedCountdowns :
    let state (s : Machine.State) := after (fun t => (t.sequencer .v0).state) (.globalHold (some false)) s
    let zero := counting .held .manual 0 base
    state (counting .held .manual 1 base) = some .countdown ∧ zero.countsNormal .v0 .vaultContact = true
      ∧ state zero = some .releasing ∧ (lined .vaultContact .active zero).countsNormal .v0 .vaultContact = false
      ∧ state (lined .vaultContact .active zero) = some .awaitClosure := by decide


theorem witness_SetSuppressionParamsStagesTheSet : base.ready ∧ base.storeSound = true ∧ base.storeBusy = false
    ∧ base.cfg.lock = false ∧ (SuppressionWrite.mk 0 601 700 3001 (some .continueCount) 51 0).resume = some .continueCount
    ∧ { still with cfg := { still.cfg with lock := true } }.storeSound = true
    ∧ (({ still with cfg := { still.cfg with lock := true } } : Machine.State).sequencer .v0).state = .isolated := by decide

theorem witness_ReadSuppressionParamsReportsBothSets : base.ready ∧ 8 ≤ 8 ∧ State.reset.phase = .scanning
    ∧ State.reset.due = [] := by decide

theorem witness_ResetSuppressionFollowsItsTable : base.ready ∧ base.enabled .v0 = true
    ∧ ((inState .alert base).sequencer .v0).state = .alert
    ∧ (base.lineRecord .v0 .detectorA).qualified ≠ some .active ∧ (base.lineRecord .v0 .manualRelease).qualified = none
    ∧ ((lined .detectorA .active (inState .alert base)).lineRecord .v0 .detectorA).qualified = some .active
    ∧ ((inState .isolated base).sequencer .v0).state = .isolated
    ∧ ((fired (fun q => { q with state := .discharged, soak := some 1 }) base).sequencer .v0).soak ≠ none
    ∧ ((inState .discharged base).sequencer .v0).soak = none
    ∧ ((lined .discharge .active (inState .discharged base)).lineRecord .v0 .discharge).qualified = some .active
    ∧ (base.lineRecord .v0 .discharge).qualified ≠ some .active := by decide

theorem witness_AckAndClearFollowTheirTables :
    let t (k : AlarmKey) (st : AlarmState) := alarmed [alarm 65535 k st] base
    let fault := keyOf .storeFault none (some (.store .config))
    (t fault .raised).ready ∧ (t fault .raised).atu.lawful = true ∧ (∀ r ∈ (t fault .raised).atu.table, r.id ≠ 1)
      ∧ alarm 65535 fault .raised ∈ (t fault .raised).atu.table ∧ 0 < (alarm 65535 fault .raised).id
      ∧ (t fault .clearedUnack).atu.owed = false ∧ (t fault .clearedUnack).atu.lawful = true
      ∧ hostClear fault = true ∧ fault ≠ keyOf .evacuation none none ∧ hostClear (keyOf .clockFault none none) = false
      ∧ (t (keyOf .evacuation none none) .raised).atu.lawful = true
      ∧ (t (keyOf .evacuation none none) .raised).lqu.stands = false := by decide

theorem witness_ListAlarmsGivesAPage : base.ready ∧ 1 ≤ 48 ∧ 48 ≤ 48 ∧ 48 < 49 := by decide

theorem witness_ReadAlarmReportsOneRecord : base.ready ∧ (∀ r ∈ base.atu.table, r.id ≠ 2) ∧ State.reset.phase = .scanning
    ∧ State.reset.due = []
    ∧ base.atu.table = [] ++ restartRecord .powerOn { day := 0, minute := 0, second := 0 } :: [] := by decide

theorem witness_AttentionSiteStatusAndRestart : base.awake ∧ base.phase = .running ∧ State.reset.awake := by decide

/-- A site group whose values lie at the ends of their lists and beyond their ranges. -/
def siteWrite : SiteWrite :=
  { failureLimit := 0, forgiveness := 0, bandSize := 512, maxAttempts := 21, trim := -128
    siteSchedule := 31, pairWindow := 61, roles := ⟨some .none, some .holdAll, some .evacuateMember, some .none⟩
    tComb := 0, e1 := 0, e2 := 1801 }

/-- A vault group of the same kind. -/
def vaultWrite : VaultWrite :=
  { enabled := some true, pairFlag := some false, allHours := some false, limit := 0
    loneInterval := 0, tBolt := 0, tGrant := 0, relock := 11, tHeld := 601, tOuter := 31
    classes := PerLine.make fun _ => 64 }

theorem witness_WriteParamsStoresTheGroup :
    base.ready ∧ base.storeSound = true ∧ base.cfg.lock = false ∧ base.storeBusy = false ∧ siteWrite.bandSize % 64 = 0
      ∧ (∀ l, goodClass (vaultWrite.classes.get l) = true) ∧ base.load .v0 ≤ 1
      ∧ statusOf (.writeParams (.site siteWrite)) base = some .ok
      ∧ statusOf (.writeParams (.vault 0 vaultWrite)) base = some .ok
      ∧ statusOf (.writeParams (.vault 0 { vaultWrite with enabled := none })) base = some .badField := by
  refine ⟨by decide, by decide, by decide, by decide, by decide, ?_, by decide, by decide, by decide, by decide⟩
  intro l
  cases l <;> decide

theorem witness_WriteParamsRefusals :
    let locked : Machine.State := { base with cfg := { base.cfg with lock := true }, mode := .openHours }
    let busy : Machine.State := { base with nva := { base.nva with queue := List.replicate 6 ⟨.holidays [], 0⟩ } }
    let site (w : SiteWrite) (s : Machine.State) := statusOf (.writeParams (.site w)) s
    let vault (w : VaultWrite) (s : Machine.State) := statusOf (.writeParams (.vault 0 w)) s
    let kept : VaultWrite := { vaultWrite with classes := (base.group .v0).classes }
    [576, 511, 1].map (fun n => site { siteWrite with bandSize := n } base) = List.replicate 3 (some .badField)
      ∧ site { siteWrite with siteSchedule := 32 } base = some .badField
      ∧ site { siteWrite with roles := ⟨some .none, some .none, some .none, none⟩ } base = some .badField
      ∧ [2, 63, 65, 128].map (fun n => vault { vaultWrite with classes := vaultWrite.classes.set .checkIn n } base)
          = List.replicate 4 (some .badField)
      ∧ statusOf (.writeParams (.vault 8 vaultWrite)) base = some .badField
      ∧ site siteWrite locked = some .locked ∧ site { siteWrite with bandSize := 0 } locked = some .ok
      ∧ site siteWrite (moded .maintenance false locked) = some .ok
      ∧ vault vaultWrite locked = some .locked ∧ vault { kept with enabled := some false } locked = some .locked
      ∧ vault kept locked = some .ok
      ∧ vault kept (housing [person 7 none, person 8 none] true base) = some .inUse
      ∧ vault { kept with limit := 2 } (housing [person 7 none, person 8 none] true base) = some .ok
      ∧ site siteWrite busy = some .storeBusy ∧ vault kept busy = some .storeBusy := by decide

/-- R100, R143, R159, R187: a vault that becomes enabled, under the latch and without it, and a pair flag cleared. -/
theorem witness_EnablingAndPairs :
    let off : Machine.State := grouped (fun g => { g with enabled := false }) base
    let latched : Machine.State := { off with atu := { off.atu with latch := true } }
    let paired : Machine.State := (grouped (fun g => { g with pairFlag := true }) base).withPair .v0 (some ⟨7, false, 1⟩)
    let door (s : Machine.State) := after (fun t => (t.door .v0).vault) (.writeParams (.vault 0 vaultWrite)) s
    off.enabled .v0 = false ∧ off.restSound = true ∧ off.atu.latch = false ∧ latched.restSound = true
      ∧ door off = some .extending ∧ door latched = some .emergencyReleased
      ∧ paired.enabled .v0 = true ∧ (paired.group .v0).pairFlag = true ∧ paired.pair .v0 = some ⟨7, false, 1⟩
      ∧ after (fun t => t.pair .v0) (.writeParams (.vault 0 vaultWrite)) paired = some none
      ∧ (base.group .v0).pairFlag = false := by decide


theorem witness_ReadParamsReportsTheGroup : base.ready ∧ 8 ≤ 8 := by decide

/-- A link record with a GET-TIME frame in processing. -/
def processing : Machine.State :=
  base.withLink { base.link with request := some [0xA5, 0x0F, 0x09, 0x00, 0x44, 0x5A], processing := true }

/-- A link record with an unread response. -/
def responding : Machine.State :=
  base.withLink { base.link with response := some { code := 46, tag := 9, status := .ok, overrun := false, body := .empty } }

theorem witness_LinkTransactions : base.awake ∧ base.link.restartArranged = false ∧ base.link.processing = false
    ∧ processing.awake ∧ processing.link.processing = true ∧ base.link.response = none
    ∧ (base.withLink { base.link with restartArranged := true }).link.restartArranged = true
    ∧ responding.link.response.isSome = true ∧ responding.link.read = false
    ∧ (responseFrame { code := 46, tag := 9, status := .ok, overrun := false, body := .empty }).length + 1 ≤ 8
    ∧ after (·.phase) (.responseTransaction 8) (responding.withLink { responding.link with restartArranged := true }) = some .reset
    ∧ after (·.phase) (.responseTransaction 7) (responding.withLink { responding.link with restartArranged := true }) = some .running
    ∧ (0#8 : Byte) ≠ 0xA5#8 ∧ (0#8 : Byte) ≠ 0x5A#8 := by decide

theorem witness_FramesAreCheckedAndRun : processing.awake ∧ processing.link.processing = true
    ∧ processing.link.request = some [0xA5, 0x0F, 0x09, 0x00, 0x44, 0x5A]
    ∧ frameRequest [0xA5, 0x0F, 0x09, 0x00, 0x44, 0x5A] = .ok (15, .getTime)
    ∧ frameRequest [0xA5, 0x0F, 0x09, 0x00, 0x44, 0x5B] = .error .badFrame
    ∧ crc16 [0xA5, 0x0F, 0x09, 0x00] = 0x44#8 ++ 0x5A#8 ∧ fieldlessRequest 15 = some .getTime
    ∧ crc16 [0xA5, 0x30, 0x09, 0x00] = 0xAD#8 ++ 0xCE#8 ∧ 47 < (0x30#8 : Byte).toNat
    ∧ crc16 [0xA5, 0x0F, 0x09, 0x01, 0x00] = 0x61#8 ++ 0x71#8 := by
  refine ⟨by decide, by decide, by decide, rfl, rfl, by decide, by decide, by decide, by decide, by decide⟩

/-- The scan before the read of a position. -/
def scanning (k : Nat) (a : NvArray) : Machine.State := { State.reset with scanPos := k, array := a }

theorem witness_TheScanReadsTheArray :
    (scanning 0 deliveredArray).phase = .scanning ∧ (scanning 0 deliveredArray).due = []
      ∧ (scanning 0 deliveredArray).restSound = true ∧ (scanning 0 deliveredArray).atu.latch = false
      ∧ (scanning 0 deliveredArray).atu.lawful = true ∧ (scanning 0 deliveredArray).alarmRoom
      ∧ structured erasedConfig = true ∧ (scanning 0 { deliveredArray with config := .checkFails }).array.config = .checkFails
      ∧ [0, 65535].Pairwise (· < ·) ∧ ¬ [1, 1].Pairwise (· < ·)
      ∧ (scanning 33 deliveredArray).scanPos = 2 + 31
      ∧ cellWindows ((scanning 33 deliveredArray).array.scheduleCell 31) = some []
      ∧ cellWindows ((scanning 33 { deliveredArray with schedules := [(31, .checkFails)] }).array.scheduleCell 31) = none
      ∧ (scanning 2080 deliveredArray).scanPos = 34 + 2046
      ∧ (scanning 2080 deliveredArray).array.slotCell 2046 = .content (encodeSlot none)
      ∧ (scanning 2081 deliveredArray).array.canonical = true := by decide

/-- R101: a stored LOCKDOWN resumes, and a stored OPEN-HOURS gives AFTER-HOURS with auto yes, which is then in force. -/
theorem witness_StoredModes :
    let read (m : StoredMode) := after (fun t => (t.mode, t.auto, t.cfg.site.stored)) .configurationRead (scanning 0
      { deliveredArray with config := .content { erasedConfig with site := { erasedConfig.site with stored := m } } })
    read ⟨.lockdown, false⟩ = some (.lockdown, false, ⟨.lockdown, false⟩)
      ∧ read ⟨.openHours, false⟩ = some (.afterHours, true, ⟨.afterHours, true⟩)
      ∧ read ⟨.maintenance, true⟩ = some (.afterHours, true, ⟨.afterHours, true⟩) := by decide

theorem witness_ScanOfTheSlots :
    let one : NvArray := { deliveredArray with slots := [(0, .content (encodeSlot (some (card 7))))] }
    let two : NvArray := { deliveredArray with slots :=
      [(0, .content (encodeSlot (some (card 7)))), (1, .content (encodeSlot (some (card 7))))] }
    one.slotCell 0 = .content (encodeSlot (some (card 7))) ∧ recordInRange (card 7) = true ∧ one.canonical = true
      ∧ two.slotCell 1 = .content (encodeSlot (some (card 7))) ∧ two.canonical = true
      ∧ after (·.nva.damagedSlots) .scanTargetRead (scanning 34 one) = some []
      ∧ after (·.nva.damagedSlots) .scanTargetRead (scanning 35 two) = some [1]
      ∧ after (·.index) .scanTargetRead (scanning 2081 one) = some [(7, 0)] := by decide

theorem witness_AttemptsSettleRetryAndDamage :
    (programmed 0).awake ∧ (programmed 0).storeSound = true ∧ (programmed 0).atu.lawful = true
      ∧ (programmed 0).nva.inFlight.isSome = true ∧ (programmed 0).nva.erase = none ∧ (programmed 0).nva.owed = false
      ∧ (programmed 0).nva.queue = ⟨.schedule 31 [⟨1, 0, 0⟩], 0⟩ :: [] ∧ 6 + 1 < (programmed 6).cfg.site.maxAttempts
      ∧ (programmed 7).cfg.site.maxAttempts ≤ 7 + 1 ∧ (programmed 7).alarmRoom
      ∧ AttemptOutcome.verifyDiffers .oldContent ≠ .verifyMatches
      ∧ (programmed 0).supply = .good ∧ { base with supply := .writeLow }.supply = .writeLow
      ∧ { base with supply := .writeLow }.nva.inFlight = none
      ∧ { State.reset with supply := .writeLow }.phase = .scanning
      ∧ (purging []).awake ∧ (purging []).storeSound = true ∧ (purging []).atu.lawful = true
      ∧ (purging []).nva.inFlight.map Attempt.image = (purging []).nva.queue.head?.map QueueEntry.image
      ∧ (Image.slot 12 none).target ≠ .slot 13 ∧ (purging [(12, some 40117)]).storeSound = true := by decide

theorem witness_EraseAndDiscardedAttempts :
    let s (n a : Nat) (discard : Bool) (e : Option ErasePass) : Machine.State :=
      { base with nva := { base.nva with
          erase := e.map fun _ => ⟨n, a⟩, inFlight := some { image := .slot 0 none, discard := discard, spoiled := false } } }
    (s 0 0 true none).storeSound = true ∧ (s 2080 0 false (some ⟨0, 0⟩)).storeSound = true
      ∧ (s 2080 0 false (some ⟨0, 0⟩)).nva.erase = some ⟨2080, 0⟩ ∧ (s 2081 6 false (some ⟨0, 0⟩)).nva.erase = some ⟨2081, 6⟩
      ∧ after (·.nva.erase) (.attemptCompletion .verifyMatches) (s 2081 6 false (some ⟨0, 0⟩)) = some none
      ∧ after (·.array.slotCell 0) (.attemptCompletion (.verifyDiffers .oldContent)) (s 0 0 true none) = some .checkFails
      ∧ after (·.array.slotCell 0) (.attemptCompletion .verifyMatches) (s 0 0 true none) = some erasedSlot := by decide

theorem witness_TheTickAdvancesTime : base.awake ∧ base.timeSound = true
    ∧ { base with cal := { base.cal with instant := ⟨65535, 1439, 59, 99⟩ } }.timeSound = true
    ∧ base.configured = true ∧ base.enabled .v0 = true ∧ readable .outerContact .active = true
    ∧ (base.lineRecord .v0 .outerContact).qualified ≠ some .active
    ∧ ((lined .outerContact .active base).lineRecord .v0 .outerContact).qualified = some .active
    ∧ State.reset.configured = false
    ∧ after (·.due) (.tickEvent (readingOf .outerContact .active))
        (base.withLineRecord .v0 .outerContact { unqualified with candidate := some .active, run := 3 })
        = some [.line .v0 .outerContact] := by decide

/-- Every timer at its last tick brings its event about and keeps its value. -/
theorem witness_LastTicks :
    let s : Machine.State := alarmed [{ alarm 5 (keyOf .restart none none) .raised with escalation := some 1 }]
      (housing [person 7 (some 6001)] true
        (fired (fun q => { q with
            state := .countdown, remaining := some 1, pulse := some 1, confirmWait := some 1, soak := some 1
            abortElapsed := some 9, committed := { q.committed with hMax := 1 } })
          (doored (fun d => { d with
              outerGrant := some ⟨.egress, 1⟩, vaultGrant := some (grantOf .exit [] []), egress := some 1, travel := some 1
              relock := some 1, outerHeld := some 1, vaultHeld := some 1 }) base)))
    let u : Machine.State := { (s.withPair .v0 (some ⟨9, false, 1⟩)).withClaimSet .v0
        { noClaims with test := some ⟨.fast, .low, true, 1⟩, position := 49 } with
      tmb := { s.tmb with startUp := some 99 }
      lqu := { s.lqu with stands := true, count := base.cfg.site.tComb * 100 - 1 } }
    u.awake ∧ u.timeSound = true
      ∧ after (·.due) (.tickEvent quietReadings) u = some [.startUpTimeout, .testClaim .v0, .pairWindow .v0, .outerGrant .v0,
          .vaultGrant .v0, .egressRelease .v0, .travel .v0, .relock .v0, .held .v0 .outer, .held .v0 .vault, .chirp .v0,
          .countdown .v0, .abortHold .v0, .pulse .v0, .confirmWait .v0, .soak .v0, .escalation 5, .evacuation]
      ∧ after (fun t => (t.claimSet .v0).position) (.tickEvent quietReadings) u = some 0 := by decide

/-- Every timer with more than one tick left loses one. -/
theorem witness_EarlierTicks :
    let s : Machine.State := housing [person 7 (some 6002)] true
      (fired (fun q => { q with state := .countdown, remaining := some 2, abortElapsed := some 30000, soak := some 2,
                                committed := { q.committed with hMax := 0 } })
        (doored (fun d => { d with travel := some 2, relock := some 2, outerHeld := some 2 }) base))
    after (fun t => [(t.door .v0).travel, (t.door .v0).relock, (t.door .v0).outerHeld, (t.sequencer .v0).remaining,
        (t.sequencer .v0).soak, (t.occupancy .v0).remaining, (t.sequencer .v0).abortElapsed]) (.tickEvent quietReadings) s
        = some [some 1, some 1, some 1, some 1, some 1, some 6001, some 30000]
      ∧ after (·.due) (.tickEvent quietReadings) s = some [] := by decide

theorem witness_ReferenceAndMinuteEvents :
    base.atu.lawful = true ∧ base.alarmRoom ∧ base.awake ∧ base.tmb.source = .rc
      ∧ { base with tmb := { base.tmb with source := .reference } }.tmb.source ≠ .rc
      ∧ (waits .startUpTimeout { base with tmb := { base.tmb with startUp := some 99 } }).comes .startUpTimeout
      ∧ { base with tmb := { base.tmb with startUp := none } }.tmb.startUp = none ∧ base.atu.owed = false
      ∧ (waits .minute base).comes .minute ∧ (waits .minute base).auto = true
      ∧ (waits .minute { base with failures := [⟨7, 5, 254⟩] }).comes .minute
      ∧ (waits .minute State.reset).phase = .scanning ∧ (waits .minute State.reset).comes .minute
      ∧ (waits .minute (moded .maintenance false base)).auto = false := by decide

/-- An owed lockout at a minute: its write has a place, it has none, and the record is not ACTIVE. -/
theorem witness_OwedLockouts :
    let s (r : CredRecord) : Machine.State :=
      waits .minute { stored 0 r (moded .openHours false base) with failures := [⟨7, 5, 200⟩, ⟨8, 1, 255⟩] }
    let full : Machine.State :=
      { s (card 7) with nva := { base.nva with queue := (List.range 8).map fun k => ⟨.schedule k [], 0⟩ } }
    (s (card 7)).comes .minute ∧ (s (card 7)).storeSound = true ∧ full.storeSound = true
      ∧ (s (card 7)).slotOf 7 = some 0 ∧ (s (card 7)).slotContent 0 = .held (card 7)
      ∧ (s (card 7)).devicePlace (.slot 0) = true ∧ full.devicePlace (.slot 0) = false
      ∧ after (fun t => (t.slotContent 0, t.failures)) .minuteEvent (s (card 7))
          = some (.held { card 7 with state := .suspended, revision := 2 }, [])
      ∧ after (·.failures) .minuteEvent full = some [⟨7, 5, 201⟩]
      ∧ after (·.failures) .minuteEvent (s { card 7 with state := .retired }) = some [] := by decide

theorem witness_OuterDoorEvents :
    base.atu.lawful = true ∧ (changing .outerContact none .active base).changes .v0 .outerContact .active
      ∧ (changing .outerContact (some .normal) .active base).changes .v0 .outerContact .active
      ∧ ((changing .outerContact (some .normal) .active base).lineRecord .v0 .outerContact).qualified ≠ none
      ∧ ((doored (fun d => { d with outer := .unlocked }) base).door .v0).outer = .unlocked
      ∧ (changing .outerContact (some .active) .normal (doored (fun d => { d with outer := .opened }) base)).changes .v0
          .outerContact .normal
      ∧ (changing .outerContact (some .normal) .active base).alarmRoom
      ∧ (changing .outerEgress (some .normal) .active base).changes .v0 .outerEgress .active
      ∧ (waits (.outerGrant .v0) (doored (fun d => { d with outer := .unlocked, outerGrant := some ⟨.host, 1⟩ }) base)).comes
          (.outerGrant .v0)
      ∧ (waits (.held .v0 .vault) (doored (fun d => { d with vault := .opened, vaultHeld := some 1 }) base)).comes
          (.held .v0 .vault)
      ∧ (waits (.held .v0 .outer) (doored (fun d => { d with outer := .opened, outerHeld := some 1 }) base)).comes
          (.held .v0 .outer) := by decide

theorem witness_BoltsPermissionsAndEgress :
    base.atu.lawful = true ∧ (changing .boltsWithdrawn (some .normal) .active (shut .retracting base)).changes .v0 .boltsWithdrawn .active
      ∧ (changing .boltsWithdrawn (some .active) .normal base).changes .v0 .boltsWithdrawn .normal
      ∧ (changing .boltsThrown (some .normal) .active (shut .extending base)).changes .v0 .boltsThrown .active
      ∧ (changing .boltsThrown (some .active) .normal base).changes .v0 .boltsThrown .normal
      ∧ ((shut .jammed base).door .v0).vaultGrant = none
      ∧ ((doored (fun d => { d with vault := .jammed, egress := some 1 }) base).door .v0).egress ≠ none
      ∧ (waits (.travel .v0) (doored (fun d => { d with vault := .retracting, travel := some 1 }) base)).comes (.travel .v0)
      ∧ (waits (.relock .v0) (doored (fun d => { d with vault := .relockWait, relock := some 1 }) base)).comes (.relock .v0)
      ∧ (waits (.vaultGrant .v0) (doored (fun d => { d with vault := .released, vaultGrant := some (grantOf .host [] []) }) base)).comes
          (.vaultGrant .v0)
      ∧ (waits (.egressRelease .v0) (doored (fun d => { d with vault := .released, egress := some 1 }) base)).comes
          (.egressRelease .v0)
      ∧ (changing .vaultEgress (some .normal) .active base).changes .v0 .vaultEgress .active
      ∧ (changing .vaultEgress (some .active) .normal base).changes .v0 .vaultEgress .normal := by decide

theorem witness_TheVaultDoorOpensAndCloses :
    let g := grantOf .entry [8] [7]
    let used := housing [person 7 none] true (doored (fun d => { d with vault := .released, vaultGrant := some g }) base)
    base.atu.lawful = true ∧ (changing .vaultContact (some .normal) .active used).changes .v0 .vaultContact .active
      ∧ (used.sequencer .v0).state = .quiet ∧ (used.door .v0).vaultGrant = some g
      ∧ (changing .vaultContact (some .normal) .active base).changes .v0 .vaultContact .active
      ∧ ((changing .vaultContact none .active base).lineRecord .v0 .vaultContact).qualified = none
      ∧ ((shut .emergencyReleased base).door .v0).vault = .emergencyReleased
      ∧ (changing .vaultContact (some .active) .normal (shut .opened base)).changes .v0 .vaultContact .normal
      ∧ ((shut .opened base).group .v0).relock ≠ 0
      ∧ ((grouped (fun x => { x with relock := 0 }) base).group .v0).relock = 0
      ∧ ((counting .awaitClosure .manual 0 base).sequencer .v0).state = .awaitClosure ∧ base.globalHold = false := by decide

/-- R155, R169, R173: openings in an automatic countdown, and under a grant with a visitor inside. -/
theorem witness_OpeningsInACountdown :
    let s (l : List Occupant) : Machine.State :=
      changing .vaultContact (some .normal) .active (housing l true (counting .held .automatic 1 base))
    let free (f : DoorRecord → DoorRecord) (l : List Occupant) := doored (fun d => f { d with vault := .released }) (s l)
    let exits (l : List Occupant) := fired (fun q => { q with egress := .pressed })
      (free (fun d => { d with egress := some 1 }) l)
    let granted (g : VaultGrant) (l : List Occupant) := free (fun d => { d with vaultGrant := some g }) l
    let state (s : Machine.State) := after (fun t => (t.sequencer .v0).state) (.vaultContactOpen .v0) s
    let visitor : Occupant := { person 7 none with wanted := true, link := some 8 }
    (s []).changes .v0 .vaultContact .active ∧ (s []).enabled .v0 = true ∧ ((s []).occupancy .v0).certain = true
      ∧ state (s []) = some .inhibited ∧ state (exits [person 7 none]) = some .inhibited
      ∧ state (exits []) = some .held ∧ state (granted (grantOf .host [] []) []) = some .inhibited
      ∧ state (granted (grantOf .entry [8] []) []) = some .inhibited
      ∧ ([visitor, person 8 none].map Occupant.number ++ (grantOf .entry [9] [8]).entering.map EnteringEntry.number).Nodup
      ∧ base.settledLink [7, 9] visitor = none := by decide


theorem witness_SuppressionLineChanges :
    base.atu.lawful = true ∧ (changing .detectorA (some .normal) .active base).changes .v0 .detectorA .active
      ∧ base.countsActive .v0 .detectorB = false ∧ base.enabled .v0 = true ∧ base.alarmRoom ∧ base.unheld .v0
      ∧ (lined .detectorB .active base).countsActive .v0 .detectorB = true
      ∧ ((fired (fun q => { q with clear := true }) base).sequencer .v0).clear = true
      ∧ (changing .detectorB (some .active) .normal (inState .alert base)).changes .v0 .detectorB .normal
      ∧ base.countsNormal .v0 .detectorA = true := by decide

theorem witness_SuppressionLineChanges_others :
    (changing .manualRelease (some .normal) .active (counting .countdown .automatic 3000 base)).changes .v0 .manualRelease .active
      ∧ (changing .manualRelease (some .active) .opened base).changes .v0 .manualRelease .opened
      ∧ (changing .abort (some .normal) .active (counting .countdown .automatic 3000 base)).changes .v0 .abort .active
      ∧ (changing .abort (some .active) .normal (counting .held .automatic 1 base)).changes .v0 .abort .normal
      ∧ (changing .isolate (some .normal) .active (inState .alert base)).changes .v0 .isolate .active
      ∧ (changing .isolate (some .active) .normal (inState .isolated base)).changes .v0 .isolate .normal
      ∧ (changing .discharge (some .normal) .active (inState .verifying base)).changes .v0 .discharge .active
      ∧ (changing .discharge (some .active) .normal base).changes .v0 .discharge .normal := by decide

theorem witness_SuppressionTimerEvents :
    base.atu.lawful = true ∧ (waits (.countdown .v0) (counting .countdown .manual 1 base)).comes (.countdown .v0)
      ∧ base.countsNormal .v0 .vaultContact = true ∧ (lined .vaultContact .active base).countsNormal .v0 .vaultContact = false
      ∧ (waits (.abortHold .v0) (fired (fun q => { q with abortElapsed := some 5999 }) (counting .held .automatic 1 base))).comes
          (.abortHold .v0)
      ∧ base.unheld .v0 ∧ ¬ { base with globalHold := true }.unheld .v0
      ∧ (waits (.pulse .v0) (fired (fun q => { q with state := .releasing, pulse := some 1 }) base)).comes (.pulse .v0)
      ∧ (waits (.confirmWait .v0) (fired (fun q => { q with state := .verifying, confirmWait := some 1 }) base)).comes
          (.confirmWait .v0)
      ∧ (waits (.soak .v0) (fired (fun q => { q with state := .discharged, soak := some 1 }) base)).comes (.soak .v0) := by
  decide

theorem witness_PeopleAndAlarmEvents :
    let lone (n : Nat) := housing [person 7 (some n)] true base
    base.atu.lawful = true ∧ (changing .duressVault (some .normal) .active base).changes .v0 .duressVault .active
      ∧ (changing .duressVestibule (some .normal) .opened base).changes .v0 .duressVestibule .opened ∧ base.alarmRoom
      ∧ ((lone 1).occupancy .v0).entries = [person 7 (some 1)] ∧ base.enabled .v0 = true
      ∧ (changing .checkIn (some .normal) .active (lone 1)).changes .v0 .checkIn .active
      ∧ (changing .checkIn (some .active) .normal (lone 1)).changes .v0 .checkIn .normal
      ∧ (waits (.chirp .v0) (lone 6001)).comes (.chirp .v0) ∧ (waits (.loneWorker .v0) (lone 1)).comes (.loneWorker .v0)
      ∧ (waits (.pairWindow .v0) (base.withPair .v0 (some ⟨7, false, 1⟩))).comes (.pairWindow .v0)
      ∧ (waits (.escalation 65535) (alarmed [{ alarm 65535 (keyOf .doorHeld (some .v0) none) .raised with
          escalation := some 1 }] base)).comes (.escalation 65535) := by decide

theorem witness_SiteLinesAndEvacuation :
    let q : Qualification Reading := { (unqualified : Qualification Reading) with candidate := some .active, run := 16 }
    let s (r : Role) : Machine.State := waits (.siteLine .s0) ((base.withLqu { base.lqu with site := base.lqu.site.set .s0 q }).withSite
      { base.cfg.site with roles := ⟨r, .none, .none, .none⟩ })
    let circuit (c : Circuit) : Machine.State := waits (.release .v0) (base.withRelease .v0 { unqualified with candidate := some c, run := 16 })
    base.atu.lawful = true ∧ (s .none).comes (.siteLine .s0) ∧ (s .holdAll).comes (.siteLine .s0)
      ∧ (s .evacuateMember).comes (.siteLine .s0) ∧ ((s .holdAll).lqu.site.get .s0).candidate = some .active
      ∧ (circuit .broken).comes (.release .v0) ∧ (circuit .intact).comes (.release .v0) ∧ base.atu.owed = false
      ∧ base.alarmRoom
      ∧ (waits .evacuation (base.withLqu { base.lqu with stands := true, count := 300 })).comes .evacuation
      ∧ base.atu.latch = false ∧ (base.door .v0).emergency = false := by decide

/-- R71, R171: the end of the site HOLD-ALL input, with and without another source. -/
theorem witness_HoldAllEnds :
    let q : Qualification Reading := { (unqualified : Qualification Reading) with
      qualified := some .active, candidate := some .normal, run := 16 }
    let s (b : Machine.State) : Machine.State := waits (.siteLine .s0) ((b.withLqu { b.lqu with
      site := b.lqu.site.set .s0 q, holdAll := true }).withSite { b.cfg.site with roles := ⟨.holdAll, .none, .none, .none⟩ })
    let held := counting .held .automatic 1 base
    let state (s : Machine.State) := after (fun t => (t.sequencer .v0).state) (.siteLineChange .s0) s
    (s held).comes (.siteLine .s0) ∧ (s held).lqu.holdAll = true ∧ (s held).globalHold = false
      ∧ state (s held) = some .countdown
      ∧ state (s (fired (fun q => { q with abortElapsed := some 0 }) held)) = some .held
      ∧ state (s (fired (fun q => { q with egress := .pressed }) held)) = some .held := by decide


/-- The reader line in a phase, with the first reader addressed and so many misses there. -/
def polling (p : LinePhase) (st : ReaderStatus) (misses : Nat) : Machine.State :=
  (base.withReaderLine { base.rline with phase := p, address := some ⟨.v0, .outer⟩, last := some ⟨.v0, .outer⟩ }).withReader
    ⟨.v0, .outer⟩ { resetReader with status := st, misses := misses, presentation := some ⟨7, 199⟩ }

theorem witness_TheReaderLinePolls :
    base.awake ∧ (polling .window .online 2).awake ∧ (polling .window .online 2).atu.lawful = true
      ∧ (polling .settling .online 0).rline.phase = .settling ∧ (polling .partFrame .online 0).rline.phase = .partFrame
      ∧ (polling .window .online 1).polls ⟨.v0, .outer⟩ ∧ (polling .window .silent 3).polls ⟨.v0, .outer⟩
      ∧ (polling .reply .online 1).polls ⟨.v0, .outer⟩ ∧ (polling .reply .online 1).atu.owed = false
      ∧ parseReply ⟨.v0, .outer⟩ [0x00, 0x81, 0x00, 0xA3] = some .idle
      ∧ parseReply ⟨.v0, .outer⟩ [0x00, 0x83, 0x00, 0x89] = some .tamper
      ∧ parseReply ⟨.v0, .outer⟩ [0x00, 0x82, 0x06, 0, 0, 0, 7, 0, 0, 0x43] = some (.present 7 .entry [])
      ∧ parseReply ⟨.v0, .outer⟩ [0x00] = none
      ∧ ((polling .reply .online 0).reader ⟨.v0, .outer⟩).presentation = some ⟨7, 199⟩
      ∧ after (fun t => t.rline.address) .pollTransactionStart (polling .settling .online 0) = some (some ⟨.v0, .inner⟩)
      ∧ after (fun t => (t.reader ⟨.v0, .outer⟩).lastVerdict.map LastVerdict.verdict)
          (.readerReplyComplete [0x00, 0x82, 0x06, 0, 0, 0, 7, 0, 0, 0x43])
          ((polling .reply .online 0).withReader ⟨.v0, .outer⟩ resetReader) = some (some .unknown)
      ∧ (polling .window .tampered 2).polls ⟨.v0, .outer⟩
      ∧ after (fun t => t.atu.table.map AlarmRecord.state) .replyWindowExpiry
          (alarmed [alarm 5 (readerFaultKey ⟨.v0, .outer⟩ .tamper) .raised] (polling .window .tampered 2))
          = some [.clearedUnack, .raised] := by decide

/-- The reader after the first in address order, and after the last of the enabled vaults the first again (R81). -/
theorem witness_TheReaderLinePolls_next :
    (ReaderAddress.number ⟨.v0, .outer⟩ < ReaderAddress.number ⟨.v0, .inner⟩
        ∧ ∀ b : ReaderAddress, ReaderAddress.number ⟨.v0, .outer⟩ < b.number → ReaderAddress.number ⟨.v0, .inner⟩ ≤ b.number)
      ∧ ∀ b : ReaderAddress, b.number ≤ ReaderAddress.number ⟨.v7, .exit⟩ ∧ ReaderAddress.number ⟨.v0, .outer⟩ ≤ b.number := by
  refine ⟨⟨by decide, ?_⟩, ?_⟩ <;> (intro ⟨v, p⟩; cases v <;> cases p <;> decide)

theorem witness_EntryChecksComeInOrder :
    let s (r : CredRecord) := stored 0 r base
    let open_ (r : CredRecord) := moded .openHours false (s r)
    State.reset.phase ≠ .running ∧ base.phase = .running ∧ ((inState .alert base).sequencer .v0).state = .alert
      ∧ base.slotOf 7 = none ∧ (s (card 7)).slotOf 7 = some 0 ∧ (s (card 7)).slotContent 0 = .held (card 7)
      ∧ (s (card 7)).atLimit 7 = false
      ∧ { s (card 7) with failures := [⟨7, 5, 0⟩] }.atLimit 7 = true
      ∧ (moded .lockdown false (s (card 7))).mode = .lockdown
      ∧ (decidePresentation ⟨.v0, .outer⟩ 7 .entry [] (open_ (card 7))).2 = .granted
      ∧ (decidePresentation ⟨.v0, .outer⟩ 7 .entry [] (s (card 7))).2 = .outOfHours
      ∧ (decidePresentation ⟨.v0, .outer⟩ 7 .entry [] (s { card 7 with schedule := some 0 })).2 = .clock
      ∧ (decidePresentation ⟨.v0, .outer⟩ 7 .entry [] (open_ { card 7 with pin := some [1, 2, 3, 4] })).2 = .pinRequired
      ∧ (decidePresentation ⟨.v0, .outer⟩ 7 .entry [9] (open_ { card 7 with pin := some [1, 2, 3, 4] })).2 = .pinWrong
      ∧ { open_ (card 7) with failures := [⟨7, 1, 0⟩] }.failureEntry 7 = some ⟨7, 1, 0⟩
      ∧ (decidePresentation ⟨.v0, .outer⟩ 7 .entry [] (housing [person 7 none] true (open_ (card 7)))).2 = .passback
      ∧ (decidePresentation ⟨.v0, .outer⟩ 7 .entry []
          (grouped (fun g => { g with limit := 0 }) (open_ (card 7)))).2 = .full
      ∧ (decidePresentation ⟨.v0, .outer⟩ 7 .entry [] (shut .opened (open_ (card 7)))).2 = .interlock
      ∧ (decidePresentation ⟨.v0, .outer⟩ 7 .entry []
          { open_ { card 7 with expiry := some 0 } with cal := { base.cal with instant := ⟨1, 0, 0, 0⟩ } }).2 = .expired
      ∧ (decidePresentation ⟨.v0, .outer⟩ 7 .entry [] (open_ { card 7 with vaults := 2 })).2 = .notPermitted := by decide

/-- R9: a PIN failure with a failure table of 31 and of 32 entries, with one below the limit and with none. -/
theorem witness_FailureTable :
    let s (f : List FailureEntry) : Machine.State :=
      { moded .openHours false (stored 0 { card 7 with pin := some [1, 2, 3, 4] } base) with failures := f }
    let top (n : Nat) : List FailureEntry := (List.range n).map fun i => ⟨100 + i, 5, 0⟩
    let failures (f : List FailureEntry) := (decidePresentation ⟨.v0, .outer⟩ 7 .entry [9] (s f)).1.failures
    let fresh : FailureEntry := ⟨7, 1, 0⟩
    (s []).cfg.site.failureLimit = 5 ∧ (s (top 32)).failureEntry 7 = none
      ∧ failures [] = [fresh] ∧ failures (top 31) = fresh :: top 31 ∧ failures (top 32) = top 32
      ∧ failures (⟨40, 1, 0⟩ :: ⟨41, 4, 0⟩ :: top 30) = fresh :: ⟨40, 1, 0⟩ :: top 30
      ∧ failures [⟨40, 1, 0⟩, ⟨7, 4, 3⟩] = [⟨7, 5, 0⟩, ⟨40, 1, 0⟩] := by decide


/-- R13, R104, R116, R117: the last use, a full queue, the duress code, and the PIN failure that reaches the limit. -/
theorem witness_UsesDuressAndLockout :
    let s (r : CredRecord) := moded .openHours false (stored 0 r base)
    let once : CredRecord := { card 7 with uses := some 1 }
    let secret : CredRecord := { card 7 with pin := some [1, 2, 3, 4], duress := some [4, 3, 2, 1] }
    let full : Machine.State :=
      { s once with nva := { base.nva with queue := (List.range 8).map fun k => ⟨.schedule k [], 0⟩ } }
    let wrong : Machine.State := { s secret with failures := [⟨7, base.cfg.site.failureLimit - 1, 0⟩] }
    (s once).phase = .running ∧ (s once).devicePlace (.slot 0) = true ∧ full.nva.queued (.slot 0) = none
      ∧ (decidePresentation ⟨.v0, .outer⟩ 7 .entry [] (s once)).2 = .granted
      ∧ (decidePresentation ⟨.v0, .outer⟩ 7 .entry [] (s once)).1.slotContent 0
          = .held { once with uses := some 0, state := .retired, revision := 2 }
      ∧ (decidePresentation ⟨.v0, .outer⟩ 7 .entry [] (s { once with uses := some 2 })).1.slotContent 0
          = .held { once with uses := some 1, revision := 2 }
      ∧ (decidePresentation ⟨.v0, .outer⟩ 7 .entry [] full).2 = .storeBusy
      ∧ (decidePresentation ⟨.v0, .outer⟩ 7 .entry [4, 3, 2, 1] (s secret)).2 = .granted
      ∧ ((decidePresentation ⟨.v0, .outer⟩ 7 .entry [4, 3, 2, 1] (s secret)).1.conditionStands (duressCodeKey .v0 7)) = true
      ∧ (s secret).atu.lawful = true ∧ (s secret).alarmRoom
      ∧ (decidePresentation ⟨.v0, .outer⟩ 7 .entry [9] wrong).1.atLimit 7 = true
      ∧ (decidePresentation ⟨.v0, .outer⟩ 7 .entry [9] wrong).1.storeSound = true
      ∧ (present ⟨.v0, .outer⟩ 7 .entry [9] wrong).slotContent 0 = .held { secret with state := .suspended, revision := 2 }
      ∧ (present ⟨.v0, .outer⟩ 7 .entry [9] wrong).failures = [] := by decide

theorem witness_InnerAndExitPresentations :
    let both : Machine.State := moded .openHours false { base with
      array := { base.array with slots :=
        [(0, .content (encodeSlot (some (card 7)))), (1, .content (encodeSlot (some (card 8))))] }
      index := [(7, 0), (8, 1)] }
    let paired : Machine.State := grouped (fun g => { g with pairFlag := true }) (moded .afterHours false { both with
      cal := { both.cal with state := .synchronised, schedules := [(0, [⟨0xFF, 0, 1439⟩])] }
      array := { both.array with slots := [(0, .content (encodeSlot (some { card 7 with schedule := some 0 }))),
        (1, .content (encodeSlot (some { card 8 with schedule := some 0 })))] } })
    (gate both .v0 7).toOption = some (0, card 7) ∧ 7 ∉ both.placedNumbers ∧ both.load .v0 + 2 ≤ (both.group .v0).limit
      ∧ both.siteLoad + 2 ≤ 64 ∧ (both.door .v0).outer = .locked ∧ both.pair .v0 = none ∧ both.nva.queue.length ≤ 8
      ∧ (decidePresentation ⟨.v0, .inner⟩ 7 .entry [] both).2 = .granted
      ∧ (decidePresentation ⟨.v0, .inner⟩ 7 .entry [] (shut .opened both)).2 = .doorBusy
      ∧ (decidePresentation ⟨.v0, .inner⟩ 7 .entry [] (doored (fun d => { d with outer := .opened }) both)).2 = .interlock
      ∧ (decidePresentation ⟨.v0, .inner⟩ 7 .entry [] paired).2 = .waitSecond
      ∧ (decidePresentation ⟨.v0, .inner⟩ 8 .entry [] (paired.withPair .v0 (some ⟨7, false, 2000⟩))).2 = .grantedPair
      ∧ (decidePresentation ⟨.v0, .exit⟩ 7 .entry [] (housing [person 7 none] true both)).2 = .exitReleased
      ∧ (decidePresentation ⟨.v0, .exit⟩ 7 .entry [] both).2 = .exitUnlisted
      ∧ (decidePresentation ⟨.v0, .exit⟩ 7 .checkIn [] (housing [person 7 none] true both)).2 = .checkedIn
      ∧ ((housing [person 7 none] true (doored (fun d => { d with vaultGrant := some (grantOf .host [] []) }) both)).door .v0).vaultGrant
          = some (grantOf .host [] [])
      ∧ ((shut .opened both).door .v0).vault = .opened := by decide

/-- R108, R109, R112, R113: the outcomes for credentials that are escort-required, may-escort and neither. -/
theorem witness_Escorts :
    let need (c : CredRecord) : CredRecord := { c with escortRequired := true }
    let may (c : CredRecord) : CredRecord := { c with mayEscort := true }
    let site (a b : CredRecord) : Machine.State := { moded .openHours false base with
      array := { base.array with slots := [(0, .content (encodeSlot (some a))), (1, .content (encodeSlot (some b)))] }
      index := [(7, 0), (8, 1)] }
    let pairing (s : Machine.State) : Machine.State := grouped (fun g => { g with pairFlag := true })
      { moded .afterHours false s with cfg := { s.cfg with site := { s.cfg.site with bandSize := 0 } }
                                       cal := { s.cal with state := .synchronised, schedules := [(0, [⟨0xFF, 0, 1439⟩])] } }
    let timed (c : CredRecord) : CredRecord := { c with schedule := some 0 }
    let open_ (a b : CredRecord) := pairing (site (timed a) (timed b))
    let met (n : Nat) (s : Machine.State) : Verdict :=
      (decidePresentation ⟨.v0, .inner⟩ n .entry [] (s.withPair .v0 (some ⟨7, false, 1⟩))).2
    let alone (s : Machine.State) : Verdict := (decidePresentation ⟨.v0, .inner⟩ 7 .entry [] s).2
    alone (site (need (card 7)) (card 8)) = .escortNeeded ∧ alone (open_ (need (card 7)) (card 8)) = .waitSecond
      ∧ alone (housing [person 8 none] true (site (need (card 7)) (may (card 8)))) = .granted
      ∧ met 8 (open_ (need (card 7)) (may (card 8))) = .grantedPair
      ∧ met 8 (open_ (need (card 7)) (need (card 8))) = .escortNeeded
      ∧ met 8 (housing [person 9 none] true (open_ (need (card 7)) (card 8))) = .granted
      ∧ met 8 (grouped (fun g => { g with limit := 2 }) (housing [person 9 none] true (open_ (card 7) (card 8)))) = .full
      ∧ met 8 (open_ { card 7 with state := .suspended } (card 8)) = .waitSecond
      ∧ met 7 (open_ (card 7) (card 8)) = .waitSecond
      ∧ met 7 (housing [person 9 none] true (open_ (card 7) (card 8))) = .granted := by decide


end Sys2Proof.Tests
end

/-!
PROOFS. The credential records and what stands with them: the store, the alarm and failure tables, the scan, the
programming of the array, the time events, and the decision of an entry.
-/

namespace Sys2Proof.Machine

/-! ## The forms of a command -/

/-- The effect of a command that is neither a request, nor an event of a tick, nor part of a reset. -/
def plainEffect : Instr → Option (State → State)
  | .requestTransaction rest => some (requestTransaction rest)
  | .responseTransaction clocked => some (responseTransaction clocked)
  | .ignoredTransaction first clocked => some (ignoredTransaction first clocked)
  | .completionOfProcessing => some completeProcessing
  | .configurationRead => some readConfiguration
  | .scanTargetRead => some readNext
  | .writeLow => some writeLow
  | .supplyGood => some supplyReturned
  | .attemptCompletion outcome => some (attemptCompleted outcome)
  | .tickEvent readings => some (tickOnce readings)
  | .referenceLost => some referenceGap
  | .referenceReturned => some referenceGood
  | .pollTransactionStart => some (inLinePhase .settling beginTransaction)
  | .replyWindowOpen => some (inLinePhase .partFrame (linePhase .window))
  | .readerReplyBegun => some (inLinePhase .window (linePhase .reply))
  | .replyWindowExpiry => some (inLinePhase .window transactionMissed)
  | .readerReplyComplete bytes => some (inLinePhase .reply (transactionReplied bytes))
  | _ => none

/-- The kind of the reset that a command begins. -/
def resetOf : Instr → Option ResetKind
  | .powerOnReset => some .powerOn
  | .supplyReset => some .supply
  | .resetLineReset => some .resetLine
  | _ => none

/-- The five forms of a command: a request, an event of a tick, another event, the begin of a reset and its end. -/
inductive Form (c : Instr) : Prop where
  | request (code : Nat) (f : Service) (owner : ownerOf c = some f) (exec : exec c = hostRequest code f)
  | due (d : Due) (f : State → State) (due : dueOf c = some d) (exec : exec c = event f)
      (takes : ∀ s, f s = takeDue d s ∨ f s = s)
  | plain (f : State → State) (effect : plainEffect c = some f) (exec : exec c = settledEvent f)
  | reset (kind : ResetKind) (kind_eq : resetOf c = some kind) (exec : exec c = resetCommand kind)
  | resetEnd (good : Bool) (exec : ∀ s, exec c s = .next (endReset good (settle s)))

/-- The command of VAULT-CONTACT takes the change of that line or has no effect. -/
theorem contactChange_takes (v : Vault) (opening : Bool) (s : State) :
    contactChange v opening s = takeDue (.line v .vaultContact) s ∨ contactChange v opening s = s := by
  unfold contactChange
  split
  · exact .inl rfl
  · exact .inr rfl

/-- Every command has one of the five forms. -/
theorem form (c : Instr) : Form c := by
  cases c
  case powerOnReset => exact .reset _ rfl rfl
  case supplyReset => exact .reset _ rfl rfl
  case resetLineReset => exact .reset _ rfl rfl
  case endOfReset good => exact .resetEnd good fun _ => rfl
  case vaultContactOpen v => exact .due _ _ rfl rfl (contactChange_takes v true)
  case vaultContactClose v => exact .due _ _ rfl rfl (contactChange_takes v false)
  case requestTransaction | responseTransaction | ignoredTransaction | completionOfProcessing | configurationRead
      | scanTargetRead | writeLow | supplyGood | attemptCompletion | tickEvent | referenceLost | referenceReturned
      | pollTransactionStart | replyWindowOpen | readerReplyBegun | replyWindowExpiry | readerReplyComplete =>
    exact .plain _ rfl rfl
  all_goals first
    | exact .request _ _ rfl rfl
    | exact .due _ _ rfl rfl fun _ => .inl rfl

/-- A property that settling, taking an event, answering a request, the other events out of reset, and the begin and the end
of a reset keep is kept by every command. -/
theorem exec_keeps {P : State → Prop} (hsettle : ∀ s, P s → P (settle s)) (htake : ∀ d s, P s → P (takeDue d s))
    (hrequest : ∀ c code f s, ownerOf c = some f → P s → P (acceptRequest code f s))
    (hplain : ∀ c f s, plainEffect c = some f → s.phase ≠ .reset → P s → P (f s))
    (hreset : ∀ kind s, P s → P (beginReset kind s))
    (hend : ∀ good s, P s → P (endReset good s)) {c : Instr} {s t : State} (hs : P s) (h : exec c s = .next t) : P t := by
  rcases form c with ⟨code, f, ho, he⟩ | ⟨d, f, -, he, ht⟩ | ⟨f, hp, he⟩ | ⟨kind, -, he⟩ | ⟨good, he⟩
  · rw [he] at h
    cases h
    exact hrequest c code f s ho hs
  · rw [he] at h
    cases h
    split
    · exact hs
    · rcases ht s with e | e <;> rw [e]
      · exact htake d s hs
      · exact hs
  · rw [he] at h
    cases h
    split
    · exact hsettle s hs
    · next hr => exact hplain c f _ hp hr (hsettle s hs)
  · rw [he] at h
    cases h
    exact hreset kind _ (hsettle s hs)
  · rw [he] at h
    cases h
    exact hend good _ (hsettle s hs)

/-- A property that every command keeps, whatever waits in the queue of commands, is kept by every step. -/
theorem step_keeps {P : State → Prop} (hqueue : ∀ s q, P s → P (s.withPending q))
    (hexec : ∀ c s t, P s → exec c s = .next t → P t) {s t : State} (hs : P s) (h : step s = .next t) : P t := by
  unfold step at h
  split at h
  · cases h
    exact hs
  · exact hexec _ _ _ (hqueue s _ hs) h

end Sys2Proof.Machine

namespace Sys2Proof.Machine

/-! ## The store sound: what it is and what leaves it alone -/

theorem storeSound_iff (s : State) : s.storeSound = true ↔
    s.array.canonical = true ∧ s.nva.lawful = true ∧ risingFrom none s.index = true
      ∧ risingFrom none s.nva.unsettled = true ∧ canonical [] s.cal.schedules = true := by
  simp only [State.storeSound, Bool.and_eq_true, and_assoc]

theorem Nva.lawful_iff (n : Nva) : n.lawful = true ↔
    n.queue.length ≤ 8 ∧ (n.queue.map fun e => e.image.target).Nodup := by
  simp [Nva.lawful]

theorem State.nva_of_store {s t : State} (h : s.store = t.store) : s.nva = t.nva := congrArg (·.1) h
theorem State.index_of_store {s t : State} (h : s.store = t.store) : s.index = t.index := congrArg (·.2) h
theorem State.cfg_of_settings {s t : State} (h : s.settings = t.settings) : s.cfg = t.cfg := congrArg (·.1) h
theorem State.mode_of_settings {s t : State} (h : s.settings = t.settings) : s.mode = t.mode := congrArg (·.2.1) h
theorem State.auto_of_settings {s t : State} (h : s.settings = t.settings) : s.auto = t.auto := congrArg (·.2.2.1) h
theorem State.cal_of_settings {s t : State} (h : s.settings = t.settings) : s.cal = t.cal := congrArg (·.2.2.2.1) h

/-- What keeps the array, the volatile store and the calendar keeps the store sound. -/
theorem storeSound_frame {s t : State} (hf : t.fixed = s.fixed) (hs : t.store = s.store) (hc : t.cal = s.cal) :
    t.storeSound = s.storeSound := by
  simp only [State.storeSound, State.array_of_fixed hf, State.nva_of_store hs, State.index_of_store hs, hc]

/-- An operation that every frame covers keeps the store sound. -/
theorem storeSound_kept {s t : State} (hf : t.fixed = s.fixed) (hs : t.store = s.store)
    (hc : t.settings = s.settings) : t.storeSound = s.storeSound :=
  storeSound_frame hf hs (State.cal_of_settings hc)

/-! ### The operations on the settings that leave the calendar alone -/

/-- A fold of changes that keep the calendar keeps it. -/
theorem foldl_cal {α : Type} (f : State → α → State) (h : ∀ s a, (f s a).cal = s.cal) (l : List α) (s : State) :
    (l.foldl f s).cal = s.cal := by
  induction l generalizing s with
  | nil => rfl
  | cons a l ih => simp only [List.foldl_cons, ih, h]

/-- A change at every vault that keeps the calendar keeps it. -/
theorem eachVault_cal (f : Vault → State → State) (h : ∀ v s, (f v s).cal = s.cal) (s : State) :
    (eachVault f s).cal = s.cal :=
  foldl_cal _ (fun s v => h v s) _ s

@[simp] theorem causeMode_cal (s : State) : (causeMode s).cal = s.cal := rfl
@[simp] theorem causeOccupancy_cal (s : State) : (causeOccupancy s).cal = s.cal := rfl
@[simp] theorem causeClock_cal (s : State) : (causeClock s).cal = s.cal := rfl
@[simp] theorem setCertain_cal (v : Vault) (b : Bool) (s : State) : (setCertain v b s).cal = s.cal := rfl
@[simp] theorem lapsePair_cal (v : Vault) (s : State) : (lapsePair v s).cal = s.cal :=
  State.cal_of_settings (lapsePair_settings v s)
@[simp] theorem lockdownVault_cal (v : Vault) (s : State) : (lockdownVault v s).cal = s.cal :=
  State.cal_of_settings (lockdownVault_settings v s)
@[simp] theorem settleLone_cal (v : Vault) (s : State) : (settleLone v s).cal = s.cal :=
  State.cal_of_settings (settleLone_settings v s)
@[simp] theorem occupancyReported_cal (v : Vault) (s : State) : (occupancyReported v s).cal = s.cal :=
  State.cal_of_settings (occupancyReported_settings v s)
@[simp] theorem beginDoors_cal (v : Vault) (s : State) : (beginDoors v s).cal = s.cal :=
  State.cal_of_settings (beginDoors_settings v s)
@[simp] theorem disableReaders_cal (v : Vault) (s : State) : (disableReaders v s).cal = s.cal :=
  State.cal_of_settings (disableReaders_settings v s)
@[simp] theorem disableDoors_cal (v : Vault) (s : State) : (disableDoors v s).cal = s.cal :=
  State.cal_of_settings (disableDoors_settings v s)
@[simp] theorem disableLines_cal (v : Vault) (s : State) : (disableLines v s).cal = s.cal :=
  State.cal_of_settings (disableLines_settings v s)
@[simp] theorem disableSequencer_cal (v : Vault) (s : State) : (disableSequencer v s).cal = s.cal :=
  State.cal_of_settings (disableSequencer_settings v s)
@[simp] theorem enableSequencer_cal (v : Vault) (s : State) : (enableSequencer v s).cal = s.cal :=
  State.cal_of_settings (enableSequencer_settings v s)
@[simp] theorem clearOccupants_cal (v : Vault) (s : State) : (clearOccupants v s).cal = s.cal :=
  State.cal_of_settings (clearOccupants_settings v s)
@[simp] theorem disableOnLine_cal (v : Vault) (s : State) : (disableOnLine v s).cal = s.cal :=
  State.cal_of_settings (disableOnLine_settings v s)
@[simp] theorem enableOnLine_cal (s : State) : (enableOnLine s).cal = s.cal :=
  State.cal_of_settings (enableOnLine_settings s)
@[simp] theorem beginTransaction_cal (s : State) : (beginTransaction s).cal = s.cal :=
  State.cal_of_settings (beginTransaction_settings s)
@[simp] theorem claimSiteEvacuate_cal (v : Vault) (b : Bool) (s : State) : (claimSiteEvacuate v b s).cal = s.cal :=
  State.cal_of_settings (claimSiteEvacuate_settings v b s)
@[simp] theorem roleFault_cal (i : SiteLine) (old new : Role) (s : State) : (roleFault i old new s).cal = s.cal :=
  State.cal_of_settings (roleFault_settings i old new s)
@[simp] theorem judgeHoldAll_cal (s : State) : (judgeHoldAll s).cal = s.cal :=
  State.cal_of_settings (judgeHoldAll_settings s)
@[simp] theorem judgeCombination_cal (s : State) : (judgeCombination s).cal = s.cal :=
  State.cal_of_settings (judgeCombination_settings s)
@[simp] theorem raised_cal (key : AlarmKey) (s : State) : (raised key s).cal = s.cal :=
  State.cal_of_settings (raised_settings key s)

@[simp] theorem setMode_cal (mode : Mode) (auto : Bool) (s : State) : (setMode mode auto s).cal = s.cal := by
  unfold setMode
  dsimp only
  (repeat' split) <;> simp [eachVault_cal]

@[simp] theorem evaluateMode_cal (s : State) : (evaluateMode s).cal = s.cal := by
  unfold evaluateMode
  split <;> simp

@[simp] theorem disableVault_cal (v : Vault) (s : State) : (disableVault v s).cal = s.cal := by
  unfold disableVault
  dsimp only
  split <;> simp

@[simp] theorem enableVault_cal (v : Vault) (s : State) : (enableVault v s).cal = s.cal := by
  unfold enableVault
  dsimp only
  (repeat' split) <;> simp

@[simp] theorem setEnabled_cal (v : Vault) (b : Bool) (s : State) : (setEnabled v b s).cal = s.cal := by
  unfold setEnabled
  (repeat' split) <;> simp

@[simp] theorem applyVault_cal (v : Vault) (g : VaultGroup) (s : State) : (applyVault v g s).cal = s.cal := by
  unfold applyVault
  dsimp only
  (repeat' split) <;> simp

@[simp] theorem setRoles_cal (roles : PerSite Role) (s : State) : (setRoles roles s).cal = s.cal := by
  unfold setRoles
  dsimp only
  split <;> simp [foldl_cal]

@[simp] theorem applySite_cal (g : SiteGroup) (s : State) : (applySite g s).cal = s.cal := by
  simp [applySite]

@[simp] theorem applyConfig_cal (b : ConfigBlock) (s : State) : (applyConfig b s).cal = s.cal := by
  simp [applyConfig, eachVault_cal]

/-! ### The write queue -/

/-- The targets of the queue once an image is placed: those of before, with its target at the end where it is new. -/
theorem Nva.place_targets (n : Nva) (i : Image) :
    (n.place i).queue.map (fun e => e.image.target) =
      n.queue.map (fun e => e.image.target) ++ if (n.queued i.target).isSome then [] else [i.target] := by
  unfold Nva.place
  split
  · simp only [List.map_map, List.append_nil]
    refine List.map_congr_left fun e _ => ?_
    simp only [Function.comp_apply]
    split
    · next h => exact h.symm
    · rfl
  · simp

/-- The target of an entry that the queue does not hold is the target of none. -/
theorem Nva.not_mem_targets {n : Nva} {t : Target} (h : n.queued t = none) :
    t ∉ n.queue.map fun e => e.image.target := by
  simp only [Nva.queued, List.find?_eq_none, decide_eq_true_eq] at h
  simpa using h

/-- An image that coalesces or finds a place keeps the law of the queue (R28, R29). -/
theorem Nva.lawful_place {n : Nva} (h : n.lawful = true) {i : Image}
    (hp : (n.queued i.target).isSome = true ∨ n.queue.length < 8) : (n.place i).lawful = true := by
  obtain ⟨hl, hn⟩ := n.lawful_iff.1 h
  have ht := n.place_targets i
  have hlen : (n.place i).queue.length = ((n.place i).queue.map fun e => e.image.target).length :=
    (List.length_map _).symm
  rw [Nva.lawful_iff, ht, hlen, ht]
  cases hq : n.queued i.target with
  | some e => simpa using ⟨hl, hn⟩
  | none =>
    have hlt : n.queue.length < 8 := by simpa [hq] using hp
    refine ⟨by simpa using hlt, ?_⟩
    simpa [List.nodup_append, hn] using Nva.not_mem_targets hq

@[simp] theorem Nva.place_unsettled (n : Nva) (i : Image) : (n.place i).unsettled = n.unsettled := by
  unfold Nva.place
  split <;> rfl

/-- The index after a slot's content changes still rises. -/
theorem rising_reindex (slot : Nat) (old new : Option Nat) {index : List (Nat × Nat)}
    (h : risingFrom none index = true) : risingFrom none (reindex slot old new index) = true := by
  have hw : risingFrom none (match old with
      | none => index
      | some k => removeAt k index) = true := by
    cases old with
    | none => exact h
    | some k => exact risingFrom_none_removeAt k h
  cases new with
  | none => exact hw
  | some k => exact risingFrom_none_insertAt k slot hw

/-- Removing a member of the queue's head keeps the law of the queue. -/
theorem Nva.lawful_tail {n : Nva} {e : QueueEntry} {rest : List QueueEntry} (h : n.lawful = true)
    (hq : n.queue = e :: rest) : Nva.lawful { n with queue := rest } = true := by
  rw [Nva.lawful_iff, hq] at h
  rw [Nva.lawful_iff]
  simp only [List.length_cons, List.map_cons, List.nodup_cons] at h
  exact ⟨by have := h.1; simp only; omega, h.2.2⟩

theorem Nva.lawful_repaired (n : Nva) (t : Target) : (n.repaired t).lawful = n.lawful := by
  cases t <;> rfl

theorem Nva.rising_repaired {n : Nva} (h : risingFrom none n.unsettled = true) (t : Target) :
    risingFrom none (n.repaired t).unsettled = true := by
  cases t with
  | slot k => exact risingFrom_none_removeAt k h
  | schedule k => exact h
  | holidays => exact h
  | config => exact h

/-! ### The operations of the store -/

/-- A change of the volatile store alone that keeps its laws. -/
theorem storeSound_withNva {s : State} (h : s.storeSound = true) {n : Nva} (hl : n.lawful = true)
    (hu : risingFrom none n.unsettled = true) : (s.withNva n).storeSound = true := by
  obtain ⟨ha, -, hi, -, hc⟩ := (storeSound_iff s).1 h
  exact (storeSound_iff _).2 ⟨ha, hl, hi, hu, hc⟩

/-- The start of an attempt changes the attempt in flight alone. -/
theorem startAttempt_nva (s : State) :
    (startAttempt s).nva = { s.nva with inFlight := (startAttempt s).nva.inFlight } := by
  unfold startAttempt
  (repeat' split) <;> rfl

theorem startAttempt_eq (s : State) : startAttempt s = s.withNva (startAttempt s).nva := by
  unfold startAttempt
  (repeat' split) <;> rfl

@[simp] theorem startAttempt_storeSound (s : State) : (startAttempt s).storeSound = s.storeSound := by
  rw [startAttempt_eq, startAttempt_nva]
  rfl

theorem place_storeSound {s : State} (h : s.storeSound = true) {i : Image}
    (hp : (s.nva.queued i.target).isSome = true ∨ s.nva.queue.length < 8) : (place i s).storeSound = true := by
  obtain ⟨ha, hl, hi, hu, hc⟩ := (storeSound_iff s).1 h
  have hl' : (s.nva.place i).lawful = true := Nva.lawful_place hl hp
  unfold place
  rw [startAttempt_storeSound, storeSound_iff]
  cases i with
  | slot n r => exact ⟨ha, hl', rising_reindex _ _ _ hi, by simpa using hu, hc⟩
  | schedule n w => exact ⟨ha, hl', hi, by simpa using hu, hc⟩
  | holidays d => exact ⟨ha, hl', hi, by simpa using hu, hc⟩
  | config b => exact ⟨ha, hl', hi, by simpa using hu, hc⟩

/-- A device-made write has a place. -/
theorem State.place_of_devicePlace {s : State} {t : Target} (h : s.devicePlace t = true) :
    (s.nva.queued t).isSome = true ∨ s.nva.queue.length < 8 := by
  simp only [State.devicePlace, Bool.and_eq_true, Bool.or_eq_true, decide_eq_true_eq] at h
  exact h.2

/-- A host write that is not refused STORE-BUSY has a place. -/
theorem State.place_of_not_busy {s : State} (h : s.storeBusy = false) (t : Target) :
    (s.nva.queued t).isSome = true ∨ s.nva.queue.length < 8 := by
  simp only [State.storeBusy, Bool.or_eq_false_iff, decide_eq_false_iff_not] at h
  exact .inr (by have := h.1; simp only [Config.hostPlaces] at this; omega)

theorem placeConfig_storeSound {s : State} (h : s.storeSound = true)
    (hp : (s.nva.queued .config).isSome = true ∨ s.nva.queue.length < 8) : (placeConfig s).storeSound = true :=
  place_storeSound h hp

theorem placeOrOweConfig_storeSound {s : State} (h : s.storeSound = true) :
    (placeOrOweConfig s).storeSound = true := by
  unfold placeOrOweConfig
  split
  · next hd => exact placeConfig_storeSound h (State.place_of_devicePlace hd)
  · exact h

theorem placeOwed_storeSound {s : State} (h : s.storeSound = true) : (placeOwed s).storeSound = true := by
  unfold placeOwed
  split
  · next hd => exact placeConfig_storeSound h (State.place_of_devicePlace hd.2)
  · exact h

theorem causeStore_storeSound (s : State) : (causeStore s).storeSound = s.storeSound := rfl

theorem raised_storeSound (key : AlarmKey) (s : State) : (raised key s).storeSound = s.storeSound :=
  storeSound_kept (raised_fixed key s) (raised_store key s) (raised_settings key s)

theorem forget_storeSound (number : Nat) (s : State) : (forget number s).storeSound = s.storeSound := rfl

theorem damage_storeSound {s : State} (h : s.storeSound = true) (t : Target) (number : Option Nat) :
    (damage t number s).storeSound = true := by
  obtain ⟨ha, hl, hi, hu, hc⟩ := (storeSound_iff s).1 h
  unfold damage
  split
  · next n =>
    rw [raised_storeSound]
    cases number with
    | none => exact (storeSound_iff _).2 ⟨ha, hl, hi, risingFrom_none_removeAt n hu, hc⟩
    | some k =>
      exact (storeSound_iff _).2 ⟨ha, hl, risingFrom_none_removeAt k hi, risingFrom_none_removeAt n hu, hc⟩
  · rw [raised_storeSound]
    exact h

theorem entryLeft_storeSound {s : State} (h : s.storeSound = true) : (entryLeft s).storeSound = true := by
  unfold entryLeft
  dsimp only
  split
  · rw [causeStore_storeSound]
    exact placeOwed_storeSound h
  · exact placeOwed_storeSound h

theorem withErase_storeSound {s : State} (h : s.storeSound = true) (e : Option ErasePass) :
    (s.withNva { s.nva with erase := e }).storeSound = true := h

theorem eraseNext_storeSound {s : State} (h : s.storeSound = true) (e : ErasePass) :
    (eraseNext e s).storeSound = true := by
  unfold eraseNext
  split
  · exact withErase_storeSound h _
  · exact placeOwed_storeSound (withErase_storeSound h none)

theorem repaired_storeSound {s : State} (h : s.storeSound = true) (t : Target) :
    (s.withNva (s.nva.repaired t)).storeSound = true := by
  obtain ⟨-, hl, -, hu, -⟩ := (storeSound_iff s).1 h
  exact storeSound_withNva h (by rw [Nva.lawful_repaired]; exact hl) (Nva.rising_repaired hu t)

theorem eraseCompleted_storeSound {s : State} (h : s.storeSound = true) (e : ErasePass) (good : Bool) :
    (eraseCompleted e good s).storeSound = true := by
  unfold eraseCompleted
  dsimp only
  (repeat' split)
  · exact eraseNext_storeSound (repaired_storeSound h _) e
  · exact withErase_storeSound h _
  · exact eraseNext_storeSound (damage_storeSound h _ _) e

theorem queueCompleted_storeSound {s : State} (h : s.storeSound = true) (good : Bool) :
    (queueCompleted good s).storeSound = true := by
  obtain ⟨-, hl, -, hu, -⟩ := (storeSound_iff s).1 h
  unfold queueCompleted
  split
  · exact h
  · next e rest hq =>
    have hr : (s.withNva { s.nva with queue := rest }).storeSound = true :=
      storeSound_withNva h (Nva.lawful_tail hl hq) hu
    (repeat' split)
    · exact entryLeft_storeSound (repaired_storeSound hr e.image.target)
    · refine storeSound_withNva h ?_ hu
      rw [Nva.lawful_iff, hq] at hl
      exact (Nva.lawful_iff _).2 hl
    · exact entryLeft_storeSound (damage_storeSound hr _ _)

theorem rising_keptNumbers {s : State} (h : risingFrom none s.nva.unsettled = true) (t : Target) :
    risingFrom none (s.keptNumbers t) = true := by
  unfold State.keptNumbers
  split
  · exact risingFrom_none_insertAt _ _ h
  · exact h

/-- The completion of an attempt keeps the store sound. -/
theorem attemptCompleted_storeSound {s : State} (h : s.storeSound = true) (o : AttemptOutcome) :
    (attemptCompleted o s).storeSound = true := by
  obtain ⟨ha, hl, hi, hu, hc⟩ := (storeSound_iff s).1 h
  unfold attemptCompleted
  split
  · exact h
  · next a _ =>
    have hw : State.storeSound { s with
        array := attemptArray a o s.array
        nva := { s.nva with inFlight := none, unsettled := s.keptNumbers a.image.target } } = true :=
      (storeSound_iff _).2 ⟨canonical_attemptArray ha a o, hl, hi, rising_keptNumbers hu _, hc⟩
    rw [startAttempt_storeSound]
    (repeat' split)
    · exact hw
    · exact eraseCompleted_storeSound hw _ _
    · exact queueCompleted_storeSound hw _

theorem deviceChange_storeSound {s : State} (h : s.storeSound = true) (slot : Nat) (f : CredRecord → CredRecord) :
    (deviceChange slot f s).1.storeSound = true := by
  unfold deviceChange
  (repeat' split)
  · next hd => exact place_storeSound h (State.place_of_devicePlace hd)
  · exact h
  · exact h

theorem decrementUses_storeSound {s : State} (h : s.storeSound = true) (number : Nat) :
    (decrementUses number s).storeSound = true := by
  unfold decrementUses
  (repeat' split)
  · exact h
  · exact h
  · exact deviceChange_storeSound h _ _

theorem suspendLockedOut_storeSound {s : State} (h : s.storeSound = true) (number : Nat) :
    (suspendLockedOut number s).storeSound = true := by
  unfold suspendLockedOut
  dsimp only
  (repeat' split)
  · exact h
  · rw [forget_storeSound]
    exact deviceChange_storeSound h _ _
  · exact h
  · exact h

/-- A fold of changes that keep a property keeps it. -/
theorem foldl_keeps {α : Type} {P : State → Prop} (f : State → α → State) (hf : ∀ s a, P s → P (f s a)) (l : List α)
    {s : State} (h : P s) : P (l.foldl f s) := by
  induction l generalizing s with
  | nil => exact h
  | cons a l ih => exact ih (hf s a h)

/-- A change at every vault that keeps a property keeps it. -/
theorem eachVault_keeps {P : State → Prop} (f : Vault → State → State) (hf : ∀ v s, P s → P (f v s)) {s : State}
    (h : P s) : P (eachVault f s) :=
  foldl_keeps _ (fun s v => hf v s) _ h

end Sys2Proof.Machine

namespace Sys2Proof.Machine

/-! ### The decisions at a reader -/

theorem checkEntry_storeSound (v : Vault) (number : Nat) (digits : List Nat) (except : Option Vault) (s : State) :
    (checkEntry v number digits except s).1.storeSound = s.storeSound :=
  storeSound_kept (checkEntry_fixed v number digits except s) (checkEntry_store v number digits except s)
    (checkEntry_settings v number digits except s)

theorem recordOuterGrant_storeSound (v : Vault) (o : OuterOrigin) (s : State) :
    (recordOuterGrant v o s).storeSound = s.storeSound :=
  storeSound_kept (recordOuterGrant_fixed v o s) (recordOuterGrant_store v o s) (recordOuterGrant_settings v o s)

theorem recordGrant_storeSound (v : Vault) (g : VaultGrant) (s : State) :
    (recordGrant v g s).storeSound = s.storeSound :=
  storeSound_kept (recordGrant_fixed v g s) (recordGrant_store v g s) (recordGrant_settings v g s)

theorem handVerdict_storeSound (a : ReaderAddress) (verdict : Verdict) (number : Option Nat) (s : State) :
    (handVerdict a verdict number s).storeSound = s.storeSound :=
  storeSound_kept (handVerdict_fixed a verdict number s) (handVerdict_store a verdict number s)
    (handVerdict_settings a verdict number s)

theorem presentOuter_storeSound {s : State} (h : s.storeSound = true) (v : Vault) (number : Nat) (digits : List Nat) :
    (presentOuter v number digits s).1.storeSound = true := by
  have hc : (checkEntry v number digits none s).1.storeSound = true := by rwa [checkEntry_storeSound]
  unfold presentOuter
  split
  · next he => rwa [he] at hc
  · next he =>
    rw [he] at hc
    (repeat' split)
    · exact hc
    · exact hc
    · rw [recordOuterGrant_storeSound]
      exact decrementUses_storeSound hc number

theorem admitSet_storeSound {s : State} (h : s.storeSound = true) (v : Vault) (set : List EnteringEntry) (pair : Bool) :
    (admitSet v set pair s).1.storeSound = true := by
  have hp : (if pair then s.withPair v none else s).storeSound = true := by split <;> exact h
  have hf := @foldl_keeps _ (fun s => s.storeSound = true) (fun s (e : EnteringEntry) => decrementUses e.number s)
    (fun s e hs => decrementUses_storeSound hs e.number) set _ hp
  unfold admitSet
  split
  · exact h
  · split
    · exact h
    · exact (recordGrant_storeSound v _ _).trans hf

theorem decideAlone_storeSound {s : State} (h : s.storeSound = true) (v : Vault) (number : Nat) (duress : Bool) :
    (decideAlone v number duress s).1.storeSound = true := by
  unfold decideAlone
  (repeat' split)
  · exact h
  · exact h
  · exact h
  · exact admitSet_storeSound h v _ false

theorem meetPair_storeSound {s : State} (h : s.storeSound = true) (v : Vault) (p : PendingPair) (number : Nat)
    (duress : Bool) : (meetPair v p number duress s).1.storeSound = true := by
  unfold meetPair
  (repeat' split)
  · exact @decideAlone_storeSound (s.withPair v none) h v number duress
  · exact admitSet_storeSound h v _ true
  · exact h
  · exact admitSet_storeSound h v _ false

theorem firstAgain_storeSound {s : State} (h : s.storeSound = true) (v : Vault) (p : PendingPair) (duress : Bool) :
    (firstAgain v p duress s).1.storeSound = true := by
  unfold firstAgain
  split
  · exact h
  · exact @decideAlone_storeSound (s.withPair v none) h v p.first duress

theorem presentInner_storeSound {s : State} (h : s.storeSound = true) (v : Vault) (number : Nat) (digits : List Nat) :
    (presentInner v number digits s).1.storeSound = true := by
  have hc : (checkEntry v number digits (some v) s).1.storeSound = true := by rwa [checkEntry_storeSound]
  unfold presentInner
  split
  · next he => rwa [he] at hc
  · next he =>
    rw [he] at hc
    dsimp only
    (repeat' split)
    · exact hc
    · exact hc
    · exact decideAlone_storeSound hc v number _
    · exact firstAgain_storeSound hc v _ _
    · exact meetPair_storeSound hc v _ number _

theorem decidePresentation_storeSound {s : State} (h : s.storeSound = true) (a : ReaderAddress) (number : Nat)
    (purpose : Purpose) (digits : List Nat) : (decidePresentation a number purpose digits s).1.storeSound = true := by
  unfold decidePresentation
  (repeat' split)
  · exact h
  · exact presentOuter_storeSound h a.vault number digits
  · exact presentInner_storeSound h a.vault number digits
  · rwa [storeSound_kept (presentCheckIn_fixed _ _ s) (presentCheckIn_store _ _ s) (presentCheckIn_settings _ _ s)]
  · rwa [storeSound_kept (presentExit_fixed _ _ s) (presentExit_store _ _ s) (presentExit_settings _ _ s)]

theorem present_storeSound {s : State} (h : s.storeSound = true) (a : ReaderAddress) (number : Nat) (purpose : Purpose)
    (digits : List Nat) : (present a number purpose digits s).storeSound = true := by
  have hd := decidePresentation_storeSound h a number purpose digits
  unfold present
  dsimp only
  split
  · exact suspendLockedOut_storeSound (by rwa [handVerdict_storeSound]) number
  · rwa [handVerdict_storeSound]

theorem presentReply_storeSound {s : State} (h : s.storeSound = true) (a : ReaderAddress) (number : Nat)
    (purpose : Purpose) (digits : List Nat) : (presentReply a number purpose digits s).storeSound = true := by
  unfold presentReply
  dsimp only
  split
  · exact h
  · exact @present_storeSound (s.withReader a ((s.reader a).presented number)) h a number _ digits

theorem goodReply_storeSound (a : ReaderAddress) (tamper : Bool) (s : State) :
    (goodReply a tamper s).storeSound = s.storeSound :=
  storeSound_kept (goodReply_fixed a tamper s) (goodReply_store a tamper s) (goodReply_settings a tamper s)

theorem readerMiss_storeSound (a : ReaderAddress) (s : State) : (readerMiss a s).storeSound = s.storeSound :=
  storeSound_kept (readerMiss_fixed a s) (readerMiss_store a s) (readerMiss_settings a s)

theorem transactionReplied_storeSound {s : State} (h : s.storeSound = true) (bytes : List Byte) :
    (transactionReplied bytes s).storeSound = true := by
  unfold transactionReplied takeReply
  (repeat' split)
  · exact h
  · exact (readerMiss_storeSound _ s).trans h
  · exact (goodReply_storeSound _ false s).trans h
  · exact (goodReply_storeSound _ true s).trans h
  · exact presentReply_storeSound ((goodReply_storeSound _ false s).trans h) _ _ _ _

/-! ### The events of a tick -/

theorem evaluateMode_storeSound (s : State) : (evaluateMode s).storeSound = s.storeSound :=
  storeSound_frame (evaluateMode_fixed s) (evaluateMode_store s) (evaluateMode_cal s)

theorem minuteEvent_storeSound {s : State} (h : s.storeSound = true) : (minuteEvent s).storeSound = true := by
  unfold minuteEvent
  dsimp only
  split
  · exact @foldl_keeps _ (fun s => s.storeSound = true) _ (fun s k hs => suspendLockedOut_storeSound hs k) _ _
      ((evaluateMode_storeSound (ageFailures s)).trans h)
  · exact h

theorem referenceLost_storeSound (s : State) : (referenceLost s).storeSound = s.storeSound :=
  raised_storeSound clockFaultKey _

/-- An event of a tick that is neither the minute nor the start-up timeout changes no setting and nothing of the store. -/
theorem perform_frames {d : Due} (hm : d ≠ .minute) (ht : d ≠ .startUpTimeout) (s : State) :
    (perform d s).store = s.store ∧ (perform d s).settings = s.settings := by
  cases d with
  | startUpTimeout => exact absurd rfl ht
  | minute => exact absurd rfl hm
  | countdown v => exact ⟨by simp [perform], by simp [perform]⟩
  | _ => exact ⟨by simp [perform], by simp [perform]⟩

theorem perform_storeSound {s : State} (h : s.storeSound = true) (d : Due) : (perform d s).storeSound = true := by
  by_cases hm : d = .minute
  · subst hm
    exact minuteEvent_storeSound h
  · by_cases ht : d = .startUpTimeout
    · subst ht
      exact (referenceLost_storeSound s).trans h
    · obtain ⟨hs, hc⟩ := perform_frames hm ht s
      rwa [storeSound_kept (perform_fixed d s) hs hc]

theorem performDue_storeSound {s : State} (h : s.storeSound = true) (d : Due) : (performDue d s).storeSound = true := by
  unfold performDue
  split
  · exact perform_storeSound h d
  · exact h

theorem settle_storeSound {s : State} (h : s.storeSound = true) : (settle s).storeSound = true :=
  @foldl_keeps _ (fun s => s.storeSound = true) _ (fun _ d hs => performDue_storeSound hs d) s.due _ h

theorem takeDue_storeSound {s : State} (h : s.storeSound = true) (d : Due) : (takeDue d s).storeSound = true := by
  unfold takeDue
  split
  · exact @performDue_storeSound { s with due := s.due.erase d } h d
  · exact h

end Sys2Proof.Machine

namespace Sys2Proof.Machine

/-! ### The requests -/

theorem placeRecord_storeSound {s : State} (h : s.storeSound = true) (hb : s.storeBusy = false) (slot : Nat)
    (r : CredRecord) : (placeRecord slot r s).storeSound = true :=
  place_storeSound h (State.place_of_not_busy hb _)

/-- A write that a service makes where the host's writes have a place keeps the store sound. -/
theorem busy_or_storeSound {s t : State} (h : s.storeSound = true) (ht : s.storeBusy = false → t.storeSound = true)
    (a b : Answer) : (if s.storeBusy then (s, a) else (t, b)).1.storeSound = true := by
  cases hb : s.storeBusy
  · exact ht hb
  · exact h

theorem onNumber_storeSound {number : Nat} {f : Nat → CredRecord → Service} {s : State} (h : s.storeSound = true)
    (hf : ∀ slot r, (f slot r s).1.storeSound = true) : (onNumber number f s).1.storeSound = true := by
  unfold onNumber
  (repeat' split)
  · exact h
  · exact h
  · exact hf _ _

theorem onRecord_storeSound {number : Nat} {f : Nat → CredRecord → Service} {s : State} (h : s.storeSound = true)
    (hf : ∀ slot r, (f slot r s).1.storeSound = true) : (onRecord number f s).1.storeSound = true := by
  refine onNumber_storeSound h fun slot r => ?_
  split
  · exact h
  · exact hf slot r

theorem onSlot_storeSound {slot : Nat} {f : SlotContent → Service} {s : State} (h : s.storeSound = true)
    (hf : ∀ c, (f c s).1.storeSound = true) : (onSlot slot f s).1.storeSound = true := by
  unfold onSlot
  (repeat' split)
  · exact h
  · exact h
  · exact hf _

theorem forgetSome_storeSound (number : Option Nat) (s : State) : (forgetSome number s).storeSound = s.storeSound := by
  cases number <;> rfl

theorem forgetSome_storeBusy (number : Option Nat) (s : State) : (forgetSome number s).storeBusy = s.storeBusy := by
  cases number <;> rfl

theorem writeCredential_storeSound {s : State} (h : s.storeSound = true) (w : CredentialWrite) :
    (writeCredential w s).1.storeSound = true := by
  refine onSlot_storeSound h fun c => ?_
  (repeat' split)
  · exact h
  · exact h
  · exact h
  · exact h
  · exact h
  · exact h
  · next hb =>
    refine placeRecord_storeSound ?_ ?_ w.slot _
    · exact (forgetSome_storeSound c.number s).trans h
    · exact (forgetSome_storeBusy c.number s).trans (by simpa using hb)

theorem changeVaults_storeSound {s : State} (h : s.storeSound = true) (number : Nat) (next : VaultSet → VaultSet) :
    (changeVaults number next s).1.storeSound = true := by
  refine onRecord_storeSound h fun slot r => ?_
  split
  · exact h
  · exact busy_or_storeSound h (fun hb => placeRecord_storeSound h hb slot _) _ _

theorem suspend_storeSound {s : State} (h : s.storeSound = true) (number : Nat) :
    (suspend number s).1.storeSound = true := by
  refine onRecord_storeSound h fun slot r => ?_
  split
  · exact h
  · exact busy_or_storeSound h (fun hb => @placeRecord_storeSound (forget number s) h hb slot _) _ _

theorem reinstate_storeSound {s : State} (h : s.storeSound = true) (number : Nat) :
    (reinstate number s).1.storeSound = true := by
  refine onRecord_storeSound h fun slot r => ?_
  split
  · exact h
  · exact h
  · exact busy_or_storeSound h (fun hb => @placeRecord_storeSound (forget number s) h hb slot _) _ _

theorem retire_storeSound {s : State} (h : s.storeSound = true) (number : Nat) :
    (retire number s).1.storeSound = true := by
  refine onRecord_storeSound h fun slot r => ?_
  split
  · exact h
  · exact busy_or_storeSound h (fun hb => @placeRecord_storeSound (forget number s) h hb slot _) _ _

theorem purge_storeSound {s : State} (h : s.storeSound = true) (slot : Nat) : (purge slot s).1.storeSound = true := by
  refine onSlot_storeSound h fun c => ?_
  (repeat' split)
  · exact h
  · exact h
  · exact h
  · next hb =>
    refine place_storeSound ?_ (State.place_of_not_busy ?_ _)
    · exact (forgetSome_storeSound c.number s).trans h
    · exact (forgetSome_storeBusy c.number s).trans (by simpa using hb)

theorem setCommissioningLock_storeSound {s : State} (h : s.storeSound = true) :
    (setCommissioningLock s).1.storeSound = true := by
  unfold setCommissioningLock
  split
  · exact h
  · exact busy_or_storeSound h (fun hb =>
      @placeConfig_storeSound { s with cfg := { s.cfg with lock := true } } h (State.place_of_not_busy hb _)) _ _

theorem applyConfig_storeSound (b : ConfigBlock) (s : State) : (applyConfig b s).storeSound = s.storeSound :=
  storeSound_frame (applyConfig_fixed b s) (applyConfig_store b s) (applyConfig_cal b s)

theorem eraseSite_storeSound {s : State} (h : s.storeSound = true) : (eraseSite s).storeSound = true := by
  obtain ⟨ha, -, -, hu, -⟩ := (storeSound_iff _).1 ((applyConfig_storeSound erasedConfig s).trans h)
  unfold eraseSite
  rw [startAttempt_storeSound]
  exact (storeSound_iff _).2 ⟨ha, rfl, rfl, hu, rfl⟩

theorem eraseAll_storeSound {s : State} (h : s.storeSound = true) : (eraseAll s).1.storeSound = true := by
  unfold eraseAll
  (repeat' split)
  · exact h
  · exact h
  · exact h
  · exact h
  · exact eraseSite_storeSound h

theorem setTime_storeSound {s : State} (h : s.storeSound = true) (day minute second : Nat) :
    (setTime day minute second s).1.storeSound = true := by
  unfold setTime
  split
  · exact h
  · exact (evaluateMode_storeSound _).trans h

theorem writeHolidays_storeSound {s : State} (h : s.storeSound = true) (days : List Nat) :
    (writeHolidays days s).1.storeSound = true := by
  unfold writeHolidays
  (repeat' split)
  · exact h
  · exact h
  · exact h
  · next hb =>
    exact @place_storeSound { s with cal := { s.cal with holidays := days } } h _
      (State.place_of_not_busy (Bool.eq_false_iff.2 hb) _)

/-- The working copy of a schedule replaced keeps the store sound. -/
theorem setSchedule_storeSound {s : State} (h : s.storeSound = true) (n : Nat) (w : List Window) :
    (s.withCal (s.cal.setSchedule n w)).storeSound = true := by
  obtain ⟨ha, hl, hi, hu, hc⟩ := (storeSound_iff s).1 h
  exact (storeSound_iff _).2 ⟨ha, hl, hi, hu, canonical_storeAt [] n w hc⟩

theorem writeSchedule_storeSound {s : State} (h : s.storeSound = true) (n : Nat) (w : List Window) :
    (writeSchedule n w s).1.storeSound = true := by
  unfold writeSchedule
  (repeat' split)
  · exact h
  · exact h
  · exact h
  · exact h
  · next hb =>
    exact @place_storeSound (s.withCal (s.cal.setSchedule n w)) (setSchedule_storeSound h n w) _
      (State.place_of_not_busy (Bool.eq_false_iff.2 hb) _)

theorem setMode_storeSound (mode : Mode) (auto : Bool) (s : State) : (setMode mode auto s).storeSound = s.storeSound :=
  storeSound_frame (setMode_fixed mode auto s) (setMode_store mode auto s) (setMode_cal mode auto s)

theorem setSuppressionParams_storeSound {s : State} (h : s.storeSound = true) (vault : Nat) (p : SuppressionWrite) :
    (setSuppressionParams vault p s).1.storeSound = true := by
  unfold setSuppressionParams onVault
  split
  · exact h
  · dsimp only
    (repeat' split)
    · exact h
    · exact h
    · exact h
    · exact h
    · next v _ _ m _ _ _ hb =>
      exact @placeConfig_storeSound (s.withStaged v (clampParams p m)) h
        (State.place_of_not_busy (Bool.eq_false_iff.2 hb) _)

/-- What keeps the volatile store leaves the host's writes their place. -/
theorem storeBusy_of_store {s t : State} (h : t.store = s.store) : t.storeBusy = s.storeBusy := by
  simp only [State.storeBusy, State.nva_of_store h]

theorem writeSite_storeSound {s : State} (h : s.storeSound = true) (w : SiteWrite) :
    (writeSite w s).1.storeSound = true := by
  unfold writeSite
  (repeat' split)
  · exact h
  · exact h
  · exact h
  · next g _ _ hb =>
    refine placeConfig_storeSound ?_ (State.place_of_not_busy ?_ _)
    · exact (storeSound_frame (applySite_fixed g s) (applySite_store g s) (applySite_cal g s)).trans h
    · rw [storeBusy_of_store (applySite_store g s)]
      exact Bool.eq_false_iff.2 hb

theorem writeVault_storeSound {s : State} (h : s.storeSound = true) (v : Vault) (w : VaultWrite) :
    (writeVault v w s).1.storeSound = true := by
  unfold writeVault
  (repeat' split)
  · exact h
  · exact h
  · exact h
  · exact h
  · next g _ _ _ hb =>
    refine placeConfig_storeSound ?_ (State.place_of_not_busy ?_ _)
    · exact (storeSound_frame (applyVault_fixed v g s) (applyVault_store v g s) (applyVault_cal v g s)).trans h
    · rw [storeBusy_of_store (applyVault_store v g s)]
      exact Bool.eq_false_iff.2 hb

theorem writeParams_storeSound {s : State} (h : s.storeSound = true) (group : GroupWrite) :
    (writeParams group s).1.storeSound = true := by
  cases group with
  | site w => exact writeSite_storeSound h w
  | vault n w =>
    unfold writeParams onVault
    dsimp only
    split
    · exact h
    · exact writeVault_storeSound h _ w
  | other => exact h

theorem setSiteMode_storeSound {s : State} (h : s.storeSound = true) (value : Option ModeValue) :
    (setSiteMode value s).1.storeSound = true := by
  unfold setSiteMode
  split
  · exact h
  · exact placeOrOweConfig_storeSound ((setMode_storeSound _ _ s).trans h)

/-- Every owner of a request keeps the store sound. -/
theorem owner_storeSound {c : Instr} {f : Service} (hc : ownerOf c = some f) {s : State} (h : s.storeSound = true) :
    (f s).1.storeSound = true := by
  cases c <;> cases hc
  case writeCredential w => exact writeCredential_storeSound h w
  case grantVaults number vaults => exact changeVaults_storeSound h number _
  case revokeVaults number vaults => exact changeVaults_storeSound h number _
  case suspend number => exact suspend_storeSound h number
  case reinstate number => exact reinstate_storeSound h number
  case retire number => exact retire_storeSound h number
  case purge slot => exact purge_storeSound h slot
  case setCommissioningLock => exact setCommissioningLock_storeSound h
  case eraseAll => exact eraseAll_storeSound h
  case setTime day minute second => exact setTime_storeSound h day minute second
  case writeHolidays days => exact writeHolidays_storeSound h days
  case writeSchedule n w => exact writeSchedule_storeSound h n w
  case setSiteMode value => exact setSiteMode_storeSound h value
  case setSuppressionParams vault p => exact setSuppressionParams_storeSound h vault p
  case writeParams group => exact writeParams_storeSound h group
  all_goals rwa [@storeSound_kept s _ (by simp) (by simp) (by simp)]

/-- A property that the link record does not touch is kept by an answer wherever the owner of the request keeps it. -/
theorem acceptRequest_keeps {P : State → Prop} (hsettle : ∀ s, P s → P (settle s))
    (hlink : ∀ s l, P s → P (s.withLink l)) {f : Service} (hf : ∀ s, P s → P (f s).1) (code : Nat) {s : State}
    (h : P s) : P (acceptRequest code f s) := by
  unfold acceptRequest answerRequest holdResponse
  dsimp only
  (repeat' split)
  · exact hsettle s h
  · exact hlink _ _ (hf _ (hsettle s h))
  · exact hlink _ _ (hsettle s h)

theorem acceptRequest_storeSound {c : Instr} {f : Service} (hc : ownerOf c = some f) (code : Nat) {s : State}
    (h : s.storeSound = true) : (acceptRequest code f s).storeSound = true :=
  @acceptRequest_keeps (fun s => s.storeSound = true) (fun _ => settle_storeSound) (fun _ _ h => h) _
    (fun _ => owner_storeSound hc) code _ h

/-! ### Resets, the scan and the other events -/

theorem tearAttempt_array_canonical {s : State} (h : s.storeSound = true) :
    (tearAttempt s).array.canonical = true :=
  canonical_tearAttempt ((storeSound_iff s).1 h).1

theorem beginReset_storeSound {s : State} (h : s.storeSound = true) (kind : ResetKind) :
    (beginReset kind s).storeSound = true := by
  unfold beginReset
  split
  · exact h
  · exact (storeSound_iff _).2 ⟨tearAttempt_array_canonical h, rfl, rfl, rfl, rfl⟩

theorem endReset_storeSound {s : State} (h : s.storeSound = true) (good : Bool) :
    (endReset good s).storeSound = true := by
  unfold endReset
  split
  · next hp =>
    obtain ⟨ha, hl, hi, hu, hc⟩ := (storeSound_iff s).1 h
    refine (storeSound_iff _).2 ⟨ha, hl, hi, hu, ?_⟩
    cases hk : s.resetKind <;> exact hc
  · exact h

theorem readHolidayTarget_storeSound {s : State} (h : s.storeSound = true) :
    (readHolidayTarget s).storeSound = true := by
  unfold readHolidayTarget
  (repeat' split)
  · exact h
  · exact @damage_storeSound (s.withCal { s.cal with holidays := [] }) h .holidays none
  · exact @damage_storeSound (s.withCal { s.cal with holidays := [] }) h .holidays none

theorem readScheduleTarget_storeSound {s : State} (h : s.storeSound = true) (n : Nat) :
    (readScheduleTarget n s).storeSound = true := by
  unfold readScheduleTarget
  split
  · exact setSchedule_storeSound h n _
  · exact damage_storeSound (setSchedule_storeSound h n []) (.schedule n) none

theorem readSlotTarget_storeSound {s : State} (h : s.storeSound = true) (n : Nat) :
    (readSlotTarget n s).storeSound = true := by
  unfold readSlotTarget
  (repeat' split)
  · exact damage_storeSound h (.slot n) none
  · exact h
  · exact damage_storeSound h (.slot n) none
  · exact h

theorem readTarget_storeSound {s : State} (h : s.storeSound = true) (k : Nat) : (readTarget k s).storeSound = true := by
  unfold readTarget
  (repeat' split)
  · exact readHolidayTarget_storeSound h
  · exact readScheduleTarget_storeSound h _
  · exact readSlotTarget_storeSound h _

/-- The index that the scan builds rises. -/
theorem rising_builtIndex (s : State) : risingFrom none s.builtIndex = true := by
  unfold State.builtIndex
  generalize hi : ([] : List (Nat × Nat)) = index
  have hr : risingFrom none index = true := by rw [← hi]; rfl
  clear hi
  induction s.array.slots generalizing index with
  | nil => exact hr
  | cons e l ih =>
    refine ih _ ?_
    dsimp only
    (repeat' split)
    · exact hr
    · exact risingFrom_none_insertAt _ _ hr
    · exact hr

theorem endScan_storeSound {s : State} (h : s.storeSound = true) : (endScan s).storeSound = true := by
  obtain ⟨ha, hl, -, hu, hc⟩ := (storeSound_iff s).1 h
  unfold endScan
  rw [startAttempt_storeSound, evaluateMode_storeSound]
  exact (storeSound_iff _).2 ⟨ha, hl, rising_builtIndex s, hu, hc⟩

theorem readNext_storeSound {s : State} (h : s.storeSound = true) : (readNext s).storeSound = true := by
  have ht : ({ readTarget s.scanPos s with scanPos := s.scanPos + 1 } : State).storeSound = true :=
    readTarget_storeSound h s.scanPos
  unfold readNext
  dsimp only
  (repeat' split)
  · exact endScan_storeSound ht
  · exact ht
  · exact h

/-- The begin of a vault's blocks keeps what the frames name. -/
theorem beginVault_frames (v : Vault) (s : State) :
    (beginVault v s).fixed = s.fixed ∧ (beginVault v s).store = s.store ∧ (beginVault v s).settings = s.settings := by
  unfold beginVault
  dsimp only
  refine ⟨?_, ?_, ?_⟩ <;> (repeat' split) <;> simp

theorem beginVault_storeSound (v : Vault) (s : State) : (beginVault v s).storeSound = s.storeSound :=
  let ⟨hf, hs, hc⟩ := beginVault_frames v s
  storeSound_kept hf hs hc

theorem resumeMode_storeSound (s : State) : (resumeMode s).storeSound = s.storeSound := by
  unfold resumeMode
  dsimp only
  split <;> rfl

theorem giveConfig_storeSound {s : State} (h : s.storeSound = true) (b : ConfigBlock) :
    (giveConfig b s).storeSound = true := by
  unfold giveConfig
  rw [storeSound_kept (beginTransaction_fixed _) (beginTransaction_store _) (beginTransaction_settings _)]
  exact @eachVault_keeps (fun s => s.storeSound = true) _ (fun v s hs => (beginVault_storeSound v s).trans hs) _
    ((resumeMode_storeSound _).trans h)

theorem readConfiguration_storeSound {s : State} (h : s.storeSound = true) :
    (readConfiguration s).storeSound = true := by
  unfold readConfiguration
  dsimp only
  (repeat' split)
  · exact @giveConfig_storeSound { s with scanPos := 1 } h _
  · exact giveConfig_storeSound (@damage_storeSound { s with scanPos := 1 } h .config none) _
  · exact h

theorem completeProcessing_storeSound {s : State} (h : s.storeSound = true) :
    (completeProcessing s).storeSound = true := by
  unfold completeProcessing
  (repeat' split)
  · exact h
  · exact h
  · next hi => exact acceptRequest_storeSound hi _ h
  · exact h

theorem Cal.tick_schedules (c : Cal) : c.tick.1.schedules = c.schedules := by
  unfold Cal.tick
  dsimp only
  (repeat' split) <;> rfl

/-- The tick event but for the sampling of the lines: time advances and every tick timer counts. -/
def ticked (s : State) : State :=
  let u := if s.cal.endsLastDay then causeClock s else s
  { tickTimers u with tmb := u.tmb.tick u.cfg.site.trim, cal := s.cal.tick.1, due := u.due ++ s.timersDue }

theorem tickOnce_eq (r : Readings) (s : State) :
    tickOnce r s = if (ticked s).configured then sampleLines r (tickCombination (ticked s)) else ticked s := rfl

theorem tickOnce_cal (r : Readings) (s : State) : (tickOnce r s).cal = s.cal.tick.1 := by
  rw [tickOnce_eq]
  split
  · rw [State.cal_of_settings (sampleLines_settings r _), State.cal_of_settings (tickCombination_settings _)]
    rfl
  · rfl

theorem tickOnce_storeSound {s : State} (h : s.storeSound = true) (r : Readings) :
    (tickOnce r s).storeSound = true := by
  obtain ⟨ha, hl, hi, hu, hc⟩ := (storeSound_iff s).1 h
  rw [storeSound_iff, State.array_of_fixed (tickOnce_fixed r s), State.nva_of_store (tickOnce_store r s),
    State.index_of_store (tickOnce_store r s), tickOnce_cal, Cal.tick_schedules]
  exact ⟨ha, hl, hi, hu, hc⟩

theorem referenceReturned_storeSound (s : State) : (referenceReturned s).storeSound = s.storeSound := by
  refine storeSound_frame (referenceReturned_fixed s) (referenceReturned_store s) ?_
  unfold referenceReturned
  dsimp only
  split
  · rfl
  · exact (State.cal_of_settings (endCondition_settings clockFaultKey _)).trans rfl

/-- Every event that is no event of a tick keeps the store sound. -/
theorem plainEffect_storeSound {c : Instr} {f : State → State} (hc : plainEffect c = some f) {s : State}
    (h : s.storeSound = true) : (f s).storeSound = true := by
  cases c <;> cases hc
  case requestTransaction rest =>
    unfold requestTransaction
    split
    · exact beginReset_storeSound h .restart
    · exact h
  case responseTransaction clocked =>
    unfold responseTransaction
    dsimp only
    split
    · refine beginReset_storeSound ?_ .restart
      exact h
    · exact h
  case ignoredTransaction first clocked =>
    unfold ignoredTransaction
    split <;> exact h
  case completionOfProcessing => exact completeProcessing_storeSound h
  case configurationRead => exact readConfiguration_storeSound h
  case scanTargetRead => exact readNext_storeSound h
  case writeLow =>
    unfold writeLow
    split <;> exact h
  case supplyGood =>
    unfold supplyReturned
    split
    · exact (startAttempt_storeSound _).trans h
    · exact h
  case attemptCompletion outcome => exact attemptCompleted_storeSound h outcome
  case tickEvent readings => exact tickOnce_storeSound h readings
  case referenceLost =>
    unfold referenceGap
    split
    · exact (referenceLost_storeSound s).trans h
    · exact (referenceLost_storeSound s).trans h
    · exact h
  case referenceReturned =>
    unfold referenceGood
    split
    · exact (referenceReturned_storeSound s).trans h
    · exact h
    · exact h
  case readerReplyComplete bytes =>
    unfold inLinePhase
    split
    · exact transactionReplied_storeSound h bytes
    · exact h
  all_goals
    unfold inLinePhase
    split
    · rwa [@storeSound_kept s _ (by simp [linePhase]) (by simp [linePhase]) (by simp [linePhase])]
    · exact h

/-- Settles O7: each form of a command keeps the store sound, by what the frames leave alone and by the places that every
write asks for. -/
theorem everyStepKeepsTheStoreSound : Obligations.EveryStepKeepsTheStoreSound := by
  unfold Obligations.EveryStepKeepsTheStoreSound
  intro s t hs h
  refine @step_keeps (fun s => s.storeSound = true) (fun s q hs => hs) (fun c s t hs h => ?_) _ _ hs h
  exact @exec_keeps (fun s => s.storeSound = true) (fun _ => settle_storeSound)
    (fun d _ hs => takeDue_storeSound hs d) (fun _ code _ _ ho hs => acceptRequest_storeSound ho code hs)
    (fun _ _ _ hp _ hs => plainEffect_storeSound hp hs) (fun kind _ hs => beginReset_storeSound hs kind)
    (fun good _ hs => endReset_storeSound hs good) _ _ _ hs h

end Sys2Proof.Machine

namespace Sys2Proof.Machine

/-! ## The alarm table -/

/-! ### The free id (R190) -/

/-- The id some values of the counter on. -/
def laterId (i : Nat) : Nat → Nat
  | 0 => i
  | k + 1 => laterId (nextId i) k

theorem laterId_succ (i k : Nat) : laterId i (k + 1) = nextId (laterId i k) := by
  induction k generalizing i with
  | zero => rfl
  | succ k ih => exact ih (nextId i)

/-- The values of the counter rise by one and go from 65,535 to 1. -/
theorem laterId_eq (i : Nat) {k : Nat} (hk : k < 65535) :
    laterId i k = if 65535 < i ∨ i + k ≤ 65535 then i + k else i + k - 65535 := by
  induction k with
  | zero => simp [laterId]
  | succ k ih =>
    rw [laterId_succ, ih (by omega)]
    unfold nextId
    (repeat' split) <;> omega

/-- The free id is a later value of the counter, and where it is taken so is every one before it. -/
theorem freeId_spec (table : List AlarmRecord) (fuel i : Nat) :
    (∀ r ∈ table, r.id ≠ freeId table fuel i) ∨ ∀ k < fuel, laterId i k ∈ table.map AlarmRecord.id := by
  induction fuel generalizing i with
  | zero => exact .inr fun k hk => absurd hk (Nat.not_lt_zero k)
  | succ fuel ih =>
    unfold freeId
    split
    · next hi =>
      refine (ih (nextId i)).imp_right fun h k hk => ?_
      cases k with
      | zero => simpa [laterId] using hi
      | succ k => exact h k (Nat.lt_of_succ_lt_succ hk)
    · next hi => exact .inl fun r hr he => hi (List.any_eq_true.2 ⟨r, hr, by simpa using he⟩)

/-- In a table with a place the free id is no record's. -/
theorem freeId_not_mem {table : List AlarmRecord} (h : table.length < 48) (i : Nat) :
    ∀ r ∈ table, r.id ≠ freeId table 49 i := by
  refine (freeId_spec table 49 i).resolve_right fun hall => ?_
  have hsub : (List.range 49).map (laterId i) ⊆ table.map AlarmRecord.id := by
    intro x hx
    obtain ⟨k, hk, rfl⟩ := List.mem_map.1 hx
    exact hall k (List.mem_range.1 hk)
  have hnodup : ((List.range 49).map (laterId i)).Nodup := by
    refine List.Nodup.map_on (fun j hj k hk he => ?_) List.nodup_range
    simp only [List.mem_range] at hj hk
    rw [laterId_eq i (by omega), laterId_eq i (by omega)] at he
    split at he <;> split at he <;> omega
  have := (hnodup.subperm hsub).length_le
  simp at this
  omega

/-! ### What a record's place in the table says -/

theorem Atu.lawful_iff (a : Atu) : a.lawful = true ↔
    a.table.length ≤ 48 ∧ (a.table.map AlarmRecord.key).Nodup ∧ (a.table.map AlarmRecord.id).Nodup := by
  simp [Atu.lawful, and_assoc]

/-- A record of the table is the one that its key finds. -/
theorem Atu.find_eq_some_iff {a : Atu} (h : a.lawful = true) {key : AlarmKey} {r : AlarmRecord} :
    a.find key = some r ↔ r ∈ a.table ∧ r.key = key := by
  obtain ⟨-, hk, -⟩ := a.lawful_iff.1 h
  constructor
  · intro hf
    exact ⟨List.mem_of_find?_eq_some hf, by simpa using List.find?_some hf⟩
  · rintro ⟨hr, rfl⟩
    cases hf : a.find r.key with
    | none => exact absurd (decide_eq_true rfl) (List.find?_eq_none.1 hf r hr)
    | some x =>
      have hx : x.key = r.key := by simpa using List.find?_some hf
      exact congrArg some (List.inj_on_of_nodup_map hk (List.mem_of_find?_eq_some hf) hr hx)

theorem Atu.find_eq_none_iff (a : Atu) (key : AlarmKey) : a.find key = none ↔ ∀ r ∈ a.table, r.key ≠ key := by
  simp [Atu.find, List.find?_eq_none]

/-- A condition stands where a record of its key is not CLEARED-UNACK. -/
theorem State.conditionStands_iff {s : State} (h : s.atu.lawful = true) (key : AlarmKey) :
    s.conditionStands key = true ↔ ∃ r ∈ s.atu.table, r.key = key ∧ r.state ≠ .clearedUnack := by
  unfold State.conditionStands
  cases hf : s.atu.find key with
  | none =>
    have hn := (s.atu.find_eq_none_iff key).1 hf
    simp only [Bool.false_eq_true, false_iff]
    rintro ⟨r, hr, hk, -⟩
    exact hn r hr hk
  | some r =>
    obtain ⟨hr, hk⟩ := (Atu.find_eq_some_iff h).1 hf
    simp only [decide_eq_true_eq]
    refine ⟨fun hs => ⟨r, hr, hk, hs⟩, ?_⟩
    rintro ⟨x, hx, hxk, hxs⟩
    have hx' := (Atu.find_eq_some_iff h).2 ⟨hx, hxk⟩
    rw [hf] at hx'
    cases hx'
    exact hxs

/-! ### The sound alarm table -/

/-- The alarm table keeps its laws (R188, R190), and the site EVACUATION record stands or is owed while the latch stands,
and is owed at no other time (R199). -/
structure Atu.Sound (a : Atu) : Prop where
  lawful : a.lawful = true
  owed : a.owed = true → a.latch = true ∧ ∀ r ∈ a.table, r.key ≠ siteEvacuationKey
  latch : a.latch = true → a.owed = true ∨ ∃ r ∈ a.table, r.key = siteEvacuationKey ∧ r.state ≠ .clearedUnack

/-- The sizes of a lawful table. -/
theorem Atu.Sound.length_le {a : Atu} (h : a.Sound) : a.table.length ≤ 48 := (a.lawful_iff.1 h.lawful).1
theorem Atu.Sound.keys {a : Atu} (h : a.Sound) : (a.table.map AlarmRecord.key).Nodup := (a.lawful_iff.1 h.lawful).2.1
theorem Atu.Sound.ids {a : Atu} (h : a.Sound) : (a.table.map AlarmRecord.id).Nodup := (a.lawful_iff.1 h.lawful).2.2

/-- A CLEARED-UNACK record of the site EVACUATION stands under no latch. -/
theorem Atu.Sound.latch_of_cleared {a : Atu} (h : a.Sound) {r : AlarmRecord} (hr : r ∈ a.table)
    (hs : r.state = .clearedUnack) (hk : r.key = siteEvacuationKey) : a.latch = false := by
  refine Bool.eq_false_iff.2 fun hl => ?_
  rcases h.latch hl with ho | ⟨x, hx, hxk, hxs⟩
  · exact (h.owed ho).2 r hr hk
  · exact hxs ((List.inj_on_of_nodup_map h.keys hx hr (hxk.trans hk.symm)) ▸ hs)

/-- A change of the records that keeps keys and ids keeps the laws of the table. -/
theorem Atu.lawful_map {a : Atu} (h : a.lawful = true) {g : AlarmRecord → AlarmRecord}
    (hg : ∀ r ∈ a.table, (g r).key = r.key ∧ (g r).id = r.id) :
    Atu.lawful { a with table := a.table.map g } = true := by
  obtain ⟨hl, hk, hi⟩ := a.lawful_iff.1 h
  refine (Atu.lawful_iff _).2 ⟨by simpa using hl, ?_, ?_⟩
  · rw [List.map_map, show a.table.map (AlarmRecord.key ∘ g) = a.table.map AlarmRecord.key from
      List.map_congr_left fun r hr => (hg r hr).1]
    exact hk
  · rw [List.map_map, show a.table.map (AlarmRecord.id ∘ g) = a.table.map AlarmRecord.id from
      List.map_congr_left fun r hr => (hg r hr).2]
    exact hi

/-- A change of the records that keeps keys and ids, and the site EVACUATION record standing, keeps the table sound. -/
theorem Atu.Sound.map {a : Atu} (h : a.Sound) {g : AlarmRecord → AlarmRecord}
    (hg : ∀ r ∈ a.table, (g r).key = r.key ∧ (g r).id = r.id)
    (hs : ∀ r ∈ a.table, r.key = siteEvacuationKey → r.state ≠ .clearedUnack → (g r).state ≠ .clearedUnack) :
    Atu.Sound { a with table := a.table.map g } where
  lawful := Atu.lawful_map h.lawful hg
  owed ho := by
    refine ⟨(h.owed ho).1, fun r hr => ?_⟩
    obtain ⟨x, hx, rfl⟩ := List.mem_map.1 hr
    exact (hg x hx).1 ▸ (h.owed ho).2 x hx
  latch hl := by
    refine (h.latch hl).imp_right ?_
    rintro ⟨x, hx, hk, hxs⟩
    exact ⟨g x, List.mem_map_of_mem hx, (hg x hx).1.trans hk, hs x hx hk hxs⟩

/-- The records of one key changed. -/
theorem Atu.Sound.updateKey {a : Atu} (h : a.Sound) {key : AlarmKey} {f : AlarmRecord → AlarmRecord}
    (hf : ∀ r ∈ a.table, r.key = key → (f r).key = key ∧ (f r).id = r.id)
    (hs : ∀ r ∈ a.table, r.key = key → key = siteEvacuationKey → r.state ≠ .clearedUnack →
      (f r).state ≠ .clearedUnack) :
    Atu.Sound { a with table := Sys2Proof.Machine.updateKey key f a.table } := by
  refine h.map (fun r hr => ?_) fun r hr hsite hne => ?_
  · split
    · next hk => exact ⟨(hf r hr hk).1.trans hk.symm, (hf r hr hk).2⟩
    · exact ⟨rfl, rfl⟩
  · split
    · next hk => exact hs r hr hk (hk ▸ hsite) hne
    · exact hne

/-- Taking out the record of an id takes out that one record. -/
theorem dropId_eq_filter {table : List AlarmRecord} (h : (table.map AlarmRecord.id).Nodup) (id : Nat) :
    dropId id table = table.filter fun r => r.id ≠ id := by
  unfold dropId
  induction table with
  | nil => rfl
  | cons x l ih =>
    obtain ⟨hx, hl⟩ := List.nodup_cons.1 h
    by_cases he : x.id = id
    · subst he
      have hall : l.filter (fun r => !decide (r.id = x.id)) = l := List.filter_eq_self.2 fun r hr => by
        simpa using fun e : r.id = x.id => hx (e ▸ List.mem_map_of_mem hr)
      simp [hall]
    · simp [he, ih hl]

/-- A table with one record taken out keeps its laws. -/
theorem Atu.lawful_drop {a : Atu} (h : a.lawful = true) (id : Nat) :
    Atu.lawful { a with table := dropId id a.table } = true := by
  obtain ⟨hl, hk, hi⟩ := a.lawful_iff.1 h
  have hsub : (dropId id a.table).Sublist a.table := List.eraseP_sublist
  exact (Atu.lawful_iff _).2 ⟨hsub.length_le.trans hl, hk.sublist (hsub.map _), hi.sublist (hsub.map _)⟩

/-- A table with one of its records taken out has a place. -/
theorem Atu.length_drop_lt {a : Atu} (h : a.lawful = true) {r : AlarmRecord} (hr : r ∈ a.table) :
    (dropId r.id a.table).length < 48 := by
  have hlen : (a.table.eraseP fun x => decide (x.id = r.id)).length + 1 = a.table.length :=
    List.length_eraseP_add_one hr (by simp)
  have hl := (a.lawful_iff.1 h).1
  unfold dropId
  omega

/-- A record that leaves, but not the site EVACUATION record under a latch, leaves the table sound. -/
theorem Atu.Sound.drop {a : Atu} (h : a.Sound) {r : AlarmRecord} (hr : r ∈ a.table)
    (hk : r.key = siteEvacuationKey → a.latch = false) : Atu.Sound { a with table := dropId r.id a.table } where
  lawful := Atu.lawful_drop h.lawful r.id
  owed ho := ⟨(h.owed ho).1, fun x hx => (h.owed ho).2 x (List.mem_of_mem_eraseP hx)⟩
  latch hl := by
    refine (h.latch hl).imp_right ?_
    rintro ⟨x, hx, hxk, hxs⟩
    refine ⟨x, ?_, hxk, hxs⟩
    rw [dropId_eq_filter h.ids]
    refine List.mem_filter.2 ⟨hx, decide_eq_true fun he => ?_⟩
    have hxr := List.inj_on_of_nodup_map h.ids hx hr he
    rw [hk (hxr ▸ hxk)] at hl
    cases hl

/-- A record added where the table has a place and none of its key keeps the laws of the table. -/
theorem Atu.lawful_add {a : Atu} (h : a.lawful = true) (hlt : a.table.length < 48) (g : SiteGroup) (now : Stamp)
    {key : AlarmKey} (hn : ∀ r ∈ a.table, r.key ≠ key) : (a.add g now key).lawful = true := by
  obtain ⟨hl, hk, hi⟩ := a.lawful_iff.1 h
  refine (Atu.lawful_iff _).2 ⟨by simpa [Atu.add] using hlt, ?_, ?_⟩
  · simp only [Atu.add, List.map_append, List.map_cons, List.map_nil]
    refine List.nodup_append.2 ⟨hk, List.nodup_singleton _, fun x hx y hy => ?_⟩
    obtain ⟨r, hr, rfl⟩ := List.mem_map.1 hx
    rw [List.mem_singleton.1 hy]
    exact hn r hr
  · simp only [Atu.add, List.map_append, List.map_cons, List.map_nil]
    refine List.nodup_append.2 ⟨hi, List.nodup_singleton _, fun x hx y hy => ?_⟩
    obtain ⟨r, hr, rfl⟩ := List.mem_map.1 hx
    rw [List.mem_singleton.1 hy]
    exact freeId_not_mem hlt a.counter r hr

/-- The record that an addition puts at the end of the table. -/
theorem Atu.mem_add (a : Atu) (g : SiteGroup) (now : Stamp) (key : AlarmKey) :
    ∃ r ∈ (a.add g now key).table, r.key = key ∧ r.state = .raised :=
  ⟨_, List.mem_append_right _ (List.mem_singleton.2 rfl), rfl, rfl⟩

/-- A record added where the table has a place and none of its key keeps the table sound. -/
theorem Atu.Sound.add {a : Atu} (h : a.Sound) (hlt : a.table.length < 48) (g : SiteGroup) (now : Stamp)
    {key : AlarmKey} (hn : ∀ r ∈ a.table, r.key ≠ key) : (a.add g now key).Sound where
  lawful := Atu.lawful_add h.lawful hlt g now hn
  owed ho := by
    have hkey : key ≠ siteEvacuationKey := fun e => by simp [Atu.add, e] at ho
    have ho' : a.owed = true := by simpa [Atu.add, hkey] using ho
    refine ⟨(h.owed ho').1, fun r hr => ?_⟩
    rcases List.mem_append.1 hr with hr | hr
    · exact (h.owed ho').2 r hr
    · rw [List.mem_singleton.1 hr]
      exact hkey
  latch hl := by
    by_cases hkey : key = siteEvacuationKey
    · obtain ⟨r, hr, hk, hs⟩ := a.mem_add g now key
      exact .inr ⟨r, hr, hk.trans hkey, by rw [hs]; decide⟩
    · refine (h.latch hl).imp (fun ho => by simpa [Atu.add, hkey] using ho) ?_
      rintro ⟨r, hr, hx⟩
      exact ⟨r, List.mem_append_left _ hr, hx⟩

/-! ### Raising and ending -/

theorem AlarmRecord.again_key (g : SiteGroup) (r : AlarmRecord) : (r.again g).key = r.key := by
  unfold AlarmRecord.again
  cases r.state <;> rfl

theorem AlarmRecord.again_id (g : SiteGroup) (r : AlarmRecord) : (r.again g).id = r.id := by
  unfold AlarmRecord.again
  cases r.state <;> rfl

/-- Another occurrence leaves a record RAISED or ACKNOWLEDGED. -/
theorem AlarmRecord.again_state (g : SiteGroup) (r : AlarmRecord) : (r.again g).state ≠ .clearedUnack := by
  unfold AlarmRecord.again
  cases r.state <;> simp

/-- The record that may leave a full table is one of its records, and not the site EVACUATION record under a latch. -/
theorem Atu.Sound.victim {a : Atu} (h : a.Sound) {kind : AlarmKind} {r : AlarmRecord} (hv : a.victim kind = some r) :
    r ∈ a.table ∧ (r.key = siteEvacuationKey → a.latch = false) := by
  unfold Atu.victim at hv
  split at hv
  · next x hf =>
    cases hv
    have hr := List.mem_of_find?_eq_some hf
    exact ⟨hr, h.latch_of_cleared hr (by simpa using List.find?_some hf)⟩
  · split at hv
    · have hr := List.mem_of_find?_eq_some hv
      simp only [List.mem_filter, Bool.and_eq_true, Bool.not_eq_true', Bool.and_eq_false_iff, decide_eq_true_eq,
        decide_eq_false_iff_not] at hr
      obtain ⟨hr, -, hl⟩ := hr
      exact ⟨hr, fun hk => hl.resolve_right (not_not_intro hk)⟩
    · cases hv

@[simp] theorem causeAlarms_atu (s : State) : (causeAlarms s).atu = s.atu := rfl

/-- A raise keeps the table sound (R191, R192). -/
theorem raise_atu_sound {s : State} (h : s.atu.Sound) (key : AlarmKey) : (raise key s).1.atu.Sound := by
  unfold raise
  split
  · next r hf =>
    obtain ⟨hr, hk⟩ := (Atu.find_eq_some_iff h.lawful).1 hf
    have hu : Atu.Sound { s.atu with table := updateKey key (fun _ => r.again s.cfg.site) s.atu.table } := by
      refine h.updateKey (fun x hx hxk => ⟨(r.again_key _).trans hk, ?_⟩) fun _ _ _ _ _ => r.again_state _
      rw [AlarmRecord.again_id, List.inj_on_of_nodup_map h.keys hx hr (hxk.trans hk.symm)]
    dsimp only
    split <;> exact hu
  · next hf =>
    have hn := (s.atu.find_eq_none_iff key).1 hf
    split
    · next hlt => exact h.add hlt _ _ hn
    · split
      · next r hv =>
        obtain ⟨hr, hk⟩ := h.victim hv
        exact (h.drop hr hk).add (Atu.length_drop_lt h.lawful hr) _ _ fun x hx => hn x (List.mem_of_mem_eraseP hx)
      · exact ⟨h.lawful, h.owed, h.latch⟩

/-- A record that retires, but not the site EVACUATION record under a latch, leaves the table sound (R193, R199). -/
theorem retireRecord_atu_sound {s : State} (h : s.atu.Sound) {r : AlarmRecord} (hr : r ∈ s.atu.table)
    (hk : r.key = siteEvacuationKey → s.atu.latch = false) : (retireRecord r.id s).atu.Sound := by
  have hd := h.drop hr hk
  unfold retireRecord
  dsimp only
  split
  · next ho => exact hd.add (Atu.length_drop_lt h.lawful hr) _ _ (hd.owed ho).2
  · exact hd

/-- The end of a condition, but not of the site EVACUATION under a latch, leaves the table sound (R193). -/
theorem endCondition_atu_sound {s : State} (h : s.atu.Sound) {key : AlarmKey}
    (hk : key = siteEvacuationKey → s.atu.latch = false) : (endCondition key s).atu.Sound := by
  unfold endCondition
  split
  · exact h
  · next r hf =>
    obtain ⟨hr, hrk⟩ := (Atu.find_eq_some_iff h.lawful).1 hf
    split
    · by_cases hsite : key = siteEvacuationKey
      · have hl := hk hsite
        refine ⟨Atu.lawful_map h.lawful fun x hx => ?_, fun ho => ?_, fun hl' => ?_⟩
        · split <;> exact ⟨rfl, rfl⟩
        · exact absurd (h.owed ho).1 (by rw [hl]; decide)
        · exact absurd hl' (by rw [causeAlarms_atu, State.withAtu_atu, hl]; decide)
      · exact h.updateKey (fun x _ hx => ⟨hx, rfl⟩) fun x _ _ hs => absurd hs hsite
    · exact retireRecord_atu_sound h hr fun e => hk (hrk.symm.trans e)
    · exact h

end Sys2Proof.Machine

namespace Sys2Proof.Machine

/-! ## The alarm table and the failure table lawful: what every operation keeps -/

/-- The alarm table is sound and the failure table lawful. -/
structure State.TablesLawful (s : State) : Prop where
  atu : s.atu.Sound
  failures : failuresLawful s.failures = true

theorem failuresLawful_iff (f : List FailureEntry) : failuresLawful f = true ↔
    f.length ≤ 32 ∧ (f.map FailureEntry.number).Nodup := by
  simp [failuresLawful]

/-- What leaves both tables alone leaves them lawful. -/
theorem State.TablesLawful.congr {s t : State} (h : s.TablesLawful) (ha : t.atu = s.atu)
    (hf : t.failures = s.failures) : t.TablesLawful :=
  ⟨ha ▸ h.atu, hf ▸ h.failures⟩

/-- A fold of changes that leave the tables lawful leaves them lawful. -/
@[simp] theorem foldl_lawful {α : Type} {f : State → α → State} (hf : ∀ s a, s.TablesLawful → (f s a).TablesLawful)
    (l : List α) {s : State} (h : s.TablesLawful) : (l.foldl f s).TablesLawful :=
  foldl_keeps f hf l h

/-- A change at every vault that leaves the tables lawful leaves them lawful. -/
@[simp] theorem eachVault_lawful {f : Vault → State → State} (hf : ∀ v s, s.TablesLawful → (f v s).TablesLawful)
    {s : State} (h : s.TablesLawful) : (eachVault f s).TablesLawful :=
  eachVault_keeps f hf h

/-! ### The keys that are not the site EVACUATION's -/

@[simp] theorem doorKey_ne_site (kind : AlarmKind) (v : Vault) (d : Detail) : doorKey kind v d ≠ siteEvacuationKey := by
  simp [doorKey, siteEvacuationKey, keyOf]
@[simp] theorem loneWorkerKey_ne_site (v : Vault) (k : Nat) : loneWorkerKey v k ≠ siteEvacuationKey := by
  simp [loneWorkerKey, siteEvacuationKey, keyOf]
@[simp] theorem escortLeftKey_ne_site (v : Vault) (k : Nat) : escortLeftKey v k ≠ siteEvacuationKey := by
  simp [escortLeftKey, siteEvacuationKey, keyOf]
@[simp] theorem alertKey_ne_site (v : Vault) (c : SubCode) : alertKey v c ≠ siteEvacuationKey := by
  simp [alertKey, siteEvacuationKey, keyOf]
@[simp] theorem vaultEvacuationKey_ne_site (v : Vault) : vaultEvacuationKey v ≠ siteEvacuationKey := by
  simp [vaultEvacuationKey, siteEvacuationKey, keyOf]
@[simp] theorem dischargeKey_ne_site (v : Vault) (d : DischargeDetail) : dischargeKey v d ≠ siteEvacuationKey := by
  simp [dischargeKey, siteEvacuationKey, keyOf]
@[simp] theorem readerFaultKey_ne_site (a : ReaderAddress) (f : ReaderFault) :
    readerFaultKey a f ≠ siteEvacuationKey := by
  simp [readerFaultKey, siteEvacuationKey, keyOf]
@[simp] theorem lineFaultKey_ne_site (id : LineIdentity) : lineFaultKey id ≠ siteEvacuationKey := by
  simp [lineFaultKey, siteEvacuationKey, keyOf]
@[simp] theorem clockFaultKey_ne_site : clockFaultKey ≠ siteEvacuationKey := by
  simp [clockFaultKey, siteEvacuationKey, keyOf]

/-! ### The operations on the two tables -/

@[simp] theorem raise_lawful (key : AlarmKey) {s : State} (h : s.TablesLawful) : (raise key s).1.TablesLawful where
  atu := raise_atu_sound h.atu key
  failures := by
    unfold raise
    dsimp only
    (repeat' split) <;> exact h.failures

@[simp] theorem raised_lawful (key : AlarmKey) {s : State} (h : s.TablesLawful) : (raised key s).TablesLawful :=
  raise_lawful key h

theorem endCondition_failures (key : AlarmKey) (s : State) : (endCondition key s).failures = s.failures := by
  unfold endCondition
  (repeat' split) <;> rfl

@[simp] theorem endCondition_lawful {key : AlarmKey} (hk : key ≠ siteEvacuationKey) {s : State} (h : s.TablesLawful) :
    (endCondition key s).TablesLawful where
  atu := endCondition_atu_sound h.atu fun e => absurd e hk
  failures := (endCondition_failures key s).symm ▸ h.failures

/-- A failure table with entries left out keeps its laws. -/
theorem failuresLawful_sublist {f g : List FailureEntry} (h : failuresLawful f = true) (hs : g.Sublist f) :
    failuresLawful g = true := by
  obtain ⟨hl, hn⟩ := (failuresLawful_iff f).1 h
  exact (failuresLawful_iff g).2 ⟨hs.length_le.trans hl, hn.sublist (hs.map _)⟩

/-- A new entry of a number that the table does not hold keeps its laws where there is a place. -/
theorem failuresLawful_cons {f : List FailureEntry} (h : failuresLawful f = true) (hl : f.length < 32)
    {e : FailureEntry} (hn : ∀ x ∈ f, x.number ≠ e.number) : failuresLawful (e :: f) = true := by
  refine (failuresLawful_iff _).2 ⟨hl, List.nodup_cons.2 ⟨fun he => ?_, ((failuresLawful_iff f).1 h).2⟩⟩
  obtain ⟨x, hx, hxe⟩ := List.mem_map.1 he
  exact hn x hx hxe

/-- The table that an eviction leaves is shorter, and holds no entry that it did not hold (R9). -/
theorem evictFailure_some {limit : Nat} {f g : List FailureEntry} (h : evictFailure limit f = some g) :
    g.Sublist f ∧ g.length + 1 = f.length := by
  unfold evictFailure at h
  split at h
  · next ha =>
    cases h
    obtain ⟨e, he, hlt⟩ := List.any_eq_true.1 ha
    have hlen : (f.reverse.eraseP fun e => decide (e.failures < limit)).length + 1 = f.reverse.length :=
      List.length_eraseP_add_one (List.mem_reverse.2 he) hlt
    have hsub : (f.reverse.eraseP fun e => decide (e.failures < limit)).Sublist f.reverse := List.eraseP_sublist
    exact ⟨by simpa using hsub.reverse, by simpa using hlen⟩
  · cases h

@[simp] theorem forget_lawful (number : Nat) {s : State} (h : s.TablesLawful) : (forget number s).TablesLawful :=
  ⟨h.atu, failuresLawful_sublist h.failures List.filter_sublist⟩

@[simp] theorem recordFailure_lawful (number : Nat) {s : State} (h : s.TablesLawful) :
    (recordFailure number s).TablesLawful := by
  refine ⟨?_, ?_⟩
  · unfold recordFailure
    dsimp only
    (repeat' split) <;> exact h.atu
  · unfold recordFailure
    split
    · next e he =>
      have hlen : (s.failures.filter fun e => e.number ≠ number).length < s.failures.length :=
        List.length_filter_lt_length_iff_exists.2
          ⟨e, List.mem_of_find?_eq_some he, by simpa using List.find?_some he⟩
      have hn : e.number = number := by simpa using List.find?_some he
      refine failuresLawful_cons (failuresLawful_sublist h.failures List.filter_sublist) ?_ fun x hx => ?_
      · exact Nat.lt_of_lt_of_le hlen ((failuresLawful_iff _).1 h.failures).1
      · rw [hn]
        simpa using (List.mem_filter.1 hx).2
    · next he =>
      have hn : ∀ x ∈ s.failures, x.number ≠ number := by simpa [State.failureEntry] using he
      dsimp only
      split
      · next hlt => exact failuresLawful_cons h.failures hlt hn
      · split
        · exact h.failures
        · next g hg =>
          obtain ⟨hs, hlen⟩ := evictFailure_some hg
          refine failuresLawful_cons (failuresLawful_sublist h.failures hs) ?_ fun x hx => hn x (hs.subset hx)
          have := ((failuresLawful_iff _).1 h.failures).1
          omega

@[simp] theorem ageFailures_lawful {s : State} (h : s.TablesLawful) : (ageFailures s).TablesLawful := by
  have hm : failuresLawful (s.failures.map fun e => { e with age := min 255 (e.age + 1) }) = true := by
    have := h.failures
    rw [failuresLawful_iff] at this ⊢
    simpa [Function.comp_def] using this
  exact ⟨h.atu, failuresLawful_sublist hm List.filter_sublist⟩

theorem raise_failures (key : AlarmKey) (s : State) : (raise key s).1.failures = s.failures := by
  unfold raise
  dsimp only
  (repeat' split) <;> rfl

/-- The record that may leave a full table is one of its records. -/
theorem Atu.mem_of_victim {a : Atu} {kind : AlarmKind} {r : AlarmRecord} (hv : a.victim kind = some r) :
    r ∈ a.table := by
  unfold Atu.victim at hv
  split at hv
  · next x hf =>
    cases hv
    exact List.mem_of_find?_eq_some hf
  · split at hv
    · exact (List.mem_filter.1 (List.mem_of_find?_eq_some hv)).1
    · cases hv

/-- A raise keeps the laws of the table. -/
theorem raise_atu_lawful {s : State} (h : s.atu.lawful = true) (key : AlarmKey) :
    (raise key s).1.atu.lawful = true := by
  obtain ⟨-, hkeys, -⟩ := s.atu.lawful_iff.1 h
  unfold raise
  split
  · next r hf =>
    obtain ⟨hr, hk⟩ := (Atu.find_eq_some_iff h).1 hf
    have hu : Atu.lawful { s.atu with table := updateKey key (fun _ => r.again s.cfg.site) s.atu.table } = true := by
      refine Atu.lawful_map h fun x hx => ?_
      split
      · next hxk =>
        rw [AlarmRecord.again_key, AlarmRecord.again_id,
          List.inj_on_of_nodup_map hkeys hx hr (hxk.trans hk.symm)]
        exact ⟨rfl, rfl⟩
      · exact ⟨rfl, rfl⟩
    dsimp only
    split <;> exact hu
  · next hf =>
    have hn := (s.atu.find_eq_none_iff key).1 hf
    split
    · next hlt => exact Atu.lawful_add h hlt _ _ hn
    · split
      · next r hv =>
        exact Atu.lawful_add (Atu.lawful_drop h r.id) (Atu.length_drop_lt h (Atu.mem_of_victim hv)) _ _
          fun x hx => hn x (List.mem_of_mem_eraseP hx)
      · exact h

/-- What a raise answers: a record of the key stands, and is owed where it is the site EVACUATION's only as before, or the
table is as it was and holds none. -/
theorem raise_answer {s : State} (h : s.atu.lawful = true) (key : AlarmKey) :
    ((raise key s).2 ≠ .notStored ∧ (∃ r ∈ (raise key s).1.atu.table, r.key = key ∧ r.state ≠ .clearedUnack))
      ∨ ((raise key s).2 = .notStored ∧ (raise key s).1.atu.table = s.atu.table ∧ ∀ r ∈ s.atu.table, r.key ≠ key) := by
  unfold raise
  split
  · next r hf =>
    obtain ⟨hr, hk⟩ := (Atu.find_eq_some_iff h).1 hf
    have hm : r.again s.cfg.site ∈ updateKey key (fun _ => r.again s.cfg.site) s.atu.table :=
      List.mem_map.2 ⟨r, hr, if_pos hk⟩
    refine .inl ⟨by simp, r.again s.cfg.site, ?_, (r.again_key _).trans hk, r.again_state _⟩
    dsimp only
    split <;> exact hm
  · next hf =>
    (repeat' split)
    · obtain ⟨r, hr, hk, hs⟩ := s.atu.mem_add s.cfg.site s.stamp key
      exact .inl ⟨by simp, r, hr, hk, by rw [hs]; decide⟩
    · next v _ =>
      obtain ⟨r, hr, hk, hs⟩ := ({ s.atu with table := dropId v.id s.atu.table } : Atu).mem_add s.cfg.site s.stamp key
      exact .inl ⟨by simp, r, hr, hk, by rw [hs]; decide⟩
    · exact .inr ⟨rfl, rfl, (s.atu.find_eq_none_iff key).1 hf⟩

/-- A raise leaves the latch as it stands. -/
theorem raise_latch (key : AlarmKey) (s : State) : (raise key s).1.atu.latch = s.atu.latch := by
  unfold raise
  dsimp only
  (repeat' split) <;> rfl

/-- A raise makes no record owed. -/
theorem raise_owed {key : AlarmKey} {s : State} (h : s.atu.owed = false) : (raise key s).1.atu.owed = false := by
  unfold raise
  dsimp only
  (repeat' split) <;> simp [Atu.add, h]

/-- The alarm table once the latch is set and the site EVACUATION record raised, or marked as owed (R199). -/
theorem latched_atu_sound {s : State} (h : s.atu.Sound) (hl : s.atu.latch = false) :
    (if (raise siteEvacuationKey (s.withAtu { s.atu with latch := true })).2 = .notStored then
      (raise siteEvacuationKey (s.withAtu { s.atu with latch := true })).1.withAtu
        { (raise siteEvacuationKey (s.withAtu { s.atu with latch := true })).1.atu with owed := true }
    else (raise siteEvacuationKey (s.withAtu { s.atu with latch := true })).1).atu.Sound := by
  have ho : s.atu.owed = false := Bool.eq_false_iff.2 fun ho => by
    have := (h.owed ho).1
    rw [hl] at this
    cases this
  generalize hu : s.withAtu { s.atu with latch := true } = u
  have hlaw : u.atu.lawful = true := by rw [← hu]; exact h.lawful
  have hlatch : u.atu.latch = true := by rw [← hu]; rfl
  have howed : u.atu.owed = false := by rw [← hu]; exact ho
  have hr := raise_atu_lawful hlaw siteEvacuationKey
  rcases raise_answer hlaw siteEvacuationKey with ⟨ha, hs⟩ | ⟨ha, ht, hn⟩
  · rw [if_neg ha]
    refine ⟨hr, fun ho => ?_, fun _ => .inr hs⟩
    rw [raise_owed howed] at ho
    cases ho
  · rw [if_pos ha]
    refine ⟨hr, fun _ => ⟨(raise_latch siteEvacuationKey u).trans hlatch, fun r hr => ?_⟩, fun _ => .inl rfl⟩
    exact hn r (ht ▸ hr)

/-- The end of a condition keeps the laws of a sound table, also where the site EVACUATION record ends under a latch. -/
theorem endCondition_atu_lawful {s : State} (h : s.atu.Sound) (key : AlarmKey) :
    (endCondition key s).atu.lawful = true := by
  unfold endCondition
  split
  · exact h.lawful
  · next r hf =>
    obtain ⟨hr, -⟩ := (Atu.find_eq_some_iff h.lawful).1 hf
    split
    · refine Atu.lawful_map h.lawful fun x _ => ?_
      split <;> exact ⟨rfl, rfl⟩
    · have hd := Atu.lawful_drop h.lawful r.id
      unfold retireRecord
      dsimp only
      split
      · next ho =>
        exact Atu.lawful_add hd (Atu.length_drop_lt h.lawful hr) _ _ fun x hx =>
          (h.owed ho).2 x (List.mem_of_mem_eraseP hx)
      · exact hd
    · exact h.lawful

/-- A record that its id names is one of the table. -/
theorem Atu.mem_of_byId {a : Atu} {id : Nat} {r : AlarmRecord} (h : a.byId id = some r) : r ∈ a.table :=
  List.mem_of_find?_eq_some h

end Sys2Proof.Machine

namespace Sys2Proof.Machine

/-- What leaves both tables alone leaves them lawful, and lawful no other way. -/
theorem tablesLawful_congr {s t : State} (ha : t.atu = s.atu) (hf : t.failures = s.failures) :
    t.TablesLawful ↔ s.TablesLawful :=
  ⟨fun h => h.congr ha.symm hf.symm, fun h => h.congr ha hf⟩

/-- A choice of two states that leave the tables lawful. -/
@[simp] theorem ite_lawful {c : Prop} [Decidable c] {s t : State} (hs : s.TablesLawful) (ht : t.TablesLawful) :
    (if c then s else t).TablesLawful := by
  split
  · exact hs
  · exact ht

/-- The choice of a service between two answers. -/
@[simp] theorem ite_fst_lawful {β : Type} {c : Prop} [Decidable c] {p q : State × β} (hp : p.1.TablesLawful)
    (hq : q.1.TablesLawful) : (if c then p else q).1.TablesLawful := by
  split
  · exact hp
  · exact hq

@[simp] theorem State.withDoor_lawful (s : State) (v : Vault) (d : DoorRecord) :
    (s.withDoor v d).TablesLawful ↔ s.TablesLawful :=
  tablesLawful_congr rfl rfl
@[simp] theorem State.withSequencer_lawful (s : State) (v : Vault) (q : SsqRecord) :
    (s.withSequencer v q).TablesLawful ↔ s.TablesLawful :=
  tablesLawful_congr rfl rfl
@[simp] theorem State.withOccupancy_lawful (s : State) (v : Vault) (o : VaultOccupancy) :
    (s.withOccupancy v o).TablesLawful ↔ s.TablesLawful :=
  tablesLawful_congr rfl rfl
@[simp] theorem State.withClaimSet_lawful (s : State) (v : Vault) (c : ClaimSet) :
    (s.withClaimSet v c).TablesLawful ↔ s.TablesLawful :=
  tablesLawful_congr rfl rfl
@[simp] theorem State.withPair_lawful (s : State) (v : Vault) (p : Option PendingPair) :
    (s.withPair v p).TablesLawful ↔ s.TablesLawful :=
  tablesLawful_congr rfl rfl
@[simp] theorem State.withGroup_lawful (s : State) (v : Vault) (g : VaultGroup) :
    (s.withGroup v g).TablesLawful ↔ s.TablesLawful :=
  tablesLawful_congr rfl rfl
@[simp] theorem State.withSite_lawful (s : State) (g : SiteGroup) : (s.withSite g).TablesLawful ↔ s.TablesLawful :=
  tablesLawful_congr rfl rfl
@[simp] theorem State.withStaged_lawful (s : State) (v : Vault) (p : SuppressionSet) :
    (s.withStaged v p).TablesLawful ↔ s.TablesLawful :=
  tablesLawful_congr rfl rfl
@[simp] theorem State.withLines_lawful (s : State) (v : Vault) (l : VaultLines) :
    (s.withLines v l).TablesLawful ↔ s.TablesLawful :=
  tablesLawful_congr rfl rfl
@[simp] theorem State.withLineRecord_lawful (s : State) (v : Vault) (l : Line) (q : Qualification Reading) :
    (s.withLineRecord v l q).TablesLawful ↔ s.TablesLawful :=
  tablesLawful_congr rfl rfl
@[simp] theorem State.withRelease_lawful (s : State) (v : Vault) (q : Qualification Circuit) :
    (s.withRelease v q).TablesLawful ↔ s.TablesLawful :=
  tablesLawful_congr rfl rfl
@[simp] theorem State.withLink_lawful (s : State) (l : Link) : (s.withLink l).TablesLawful ↔ s.TablesLawful :=
  tablesLawful_congr rfl rfl
@[simp] theorem State.withNva_lawful (s : State) (n : Nva) : (s.withNva n).TablesLawful ↔ s.TablesLawful :=
  tablesLawful_congr rfl rfl
@[simp] theorem State.withReaders_lawful (s : State) (v : Vault) (r : VaultReaders) :
    (s.withReaders v r).TablesLawful ↔ s.TablesLawful :=
  tablesLawful_congr rfl rfl
@[simp] theorem State.withReader_lawful (s : State) (a : ReaderAddress) (r : ReaderRecord) :
    (s.withReader a r).TablesLawful ↔ s.TablesLawful :=
  tablesLawful_congr rfl rfl
@[simp] theorem State.withLqu_lawful (s : State) (l : Lqu) : (s.withLqu l).TablesLawful ↔ s.TablesLawful :=
  tablesLawful_congr rfl rfl
@[simp] theorem State.withCal_lawful (s : State) (c : Cal) : (s.withCal c).TablesLawful ↔ s.TablesLawful :=
  tablesLawful_congr rfl rfl
@[simp] theorem State.withIndex_lawful (s : State) (i : List (Nat × Nat)) :
    (s.withIndex i).TablesLawful ↔ s.TablesLawful :=
  tablesLawful_congr rfl rfl
@[simp] theorem State.withReaderLine_lawful (s : State) (r : ReaderLine) :
    (s.withReaderLine r).TablesLawful ↔ s.TablesLawful :=
  tablesLawful_congr rfl rfl
@[simp] theorem State.withWaiting_lawful (s : State) (c : Causes) : (s.withWaiting c).TablesLawful ↔ s.TablesLawful :=
  tablesLawful_congr rfl rfl
@[simp] theorem causeAlarms_lawful (s : State) : (causeAlarms s).TablesLawful ↔ s.TablesLawful :=
  tablesLawful_congr rfl rfl
@[simp] theorem causeOccupancy_lawful (s : State) : (causeOccupancy s).TablesLawful ↔ s.TablesLawful :=
  tablesLawful_congr rfl rfl
@[simp] theorem causeSuppression_lawful (s : State) : (causeSuppression s).TablesLawful ↔ s.TablesLawful :=
  tablesLawful_congr rfl rfl
@[simp] theorem causeDoors_lawful (s : State) : (causeDoors s).TablesLawful ↔ s.TablesLawful :=
  tablesLawful_congr rfl rfl
@[simp] theorem causeStore_lawful (s : State) : (causeStore s).TablesLawful ↔ s.TablesLawful :=
  tablesLawful_congr rfl rfl
@[simp] theorem causeMode_lawful (s : State) : (causeMode s).TablesLawful ↔ s.TablesLawful :=
  tablesLawful_congr rfl rfl
@[simp] theorem causeVerdict_lawful (s : State) : (causeVerdict s).TablesLawful ↔ s.TablesLawful :=
  tablesLawful_congr rfl rfl
@[simp] theorem causeClock_lawful (s : State) : (causeClock s).TablesLawful ↔ s.TablesLawful :=
  tablesLawful_congr rfl rfl

@[simp] theorem claim_lawful (v : Vault) (f : ClaimSet → ClaimSet) {s : State} (h : s.TablesLawful) :
    (claim v f s).TablesLawful := by
  unfold claim
  split <;> simp [h]

@[simp] theorem claimForced_lawful (v : Vault) (d : Door) (b : Bool) {s : State} (h : s.TablesLawful) :
    (claimForced v d b s).TablesLawful := by
  simp [claimForced, h]

@[simp] theorem claimHeld_lawful (v : Vault) (d : Door) (b : Bool) {s : State} (h : s.TablesLawful) :
    (claimHeld v d b s).TablesLawful := by
  simp [claimHeld, h]

@[simp] theorem claimChirp_lawful (v : Vault) (b : Bool) {s : State} (h : s.TablesLawful) :
    (claimChirp v b s).TablesLawful := by
  simp [claimChirp, h]

@[simp] theorem claimSiteEvacuate_lawful (v : Vault) (b : Bool) {s : State} (h : s.TablesLawful) :
    (claimSiteEvacuate v b s).TablesLawful := by
  simp [claimSiteEvacuate, h]

@[simp] theorem claimSsq_lawful (v : Vault) (k : Option ClaimKind) {s : State} (h : s.TablesLawful) :
    (claimSsq v k s).TablesLawful := by
  simp [claimSsq, h]

@[simp] theorem claimTest_lawful (v : Vault) (t : TestClaim) {s : State} (h : s.TablesLawful) :
    (claimTest v t s).TablesLawful := by
  unfold claimTest
  dsimp only
  split <;> simp [h]

@[simp] theorem endTest_lawful (v : Vault) {s : State} (h : s.TablesLawful) : (endTest v s).TablesLawful := by
  simp [endTest, h]

@[simp] theorem doorAcknowledged_lawful (key : AlarmKey) {s : State} (h : s.TablesLawful) :
    (doorAcknowledged key s).TablesLawful := by
  unfold doorAcknowledged
  split <;> simp [h]

/-- The acknowledgment of a record of the table leaves the tables lawful: a CLEARED-UNACK one that retires is no site
EVACUATION record under a latch (R198, R199). -/
theorem acknowledgeRecord_lawful {r : AlarmRecord} {s : State} (h : s.TablesLawful) (hr : r ∈ s.atu.table) :
    (acknowledgeRecord r s).TablesLawful := by
  unfold acknowledgeRecord
  split
  · rw [causeAlarms_lawful]
    exact doorAcknowledged_lawful r.key
      ⟨h.atu.updateKey (fun x _ hk => ⟨hk, rfl⟩) (fun _ _ _ _ _ => by simp), h.failures⟩
  · exact h
  · next hs => exact ⟨retireRecord_atu_sound h.atu hr (h.atu.latch_of_cleared hr hs), h.failures⟩

@[simp] theorem startAttempt_lawful {s : State} (h : s.TablesLawful) : (startAttempt s).TablesLawful := by
  unfold startAttempt
  (repeat' split) <;> simp [h]

@[simp] theorem place_lawful (i : Image) {s : State} (h : s.TablesLawful) : (place i s).TablesLawful := by
  unfold place
  split <;> simp [h]

@[simp] theorem placeConfig_lawful {s : State} (h : s.TablesLawful) : (placeConfig s).TablesLawful := by
  simp [placeConfig, h]

@[simp] theorem placeOrOweConfig_lawful {s : State} (h : s.TablesLawful) : (placeOrOweConfig s).TablesLawful := by
  unfold placeOrOweConfig
  split <;> simp [h]

@[simp] theorem placeOwed_lawful {s : State} (h : s.TablesLawful) : (placeOwed s).TablesLawful := by
  unfold placeOwed
  split <;> simp [h]

@[simp] theorem damage_lawful (t : Target) (number : Option Nat) {s : State} (h : s.TablesLawful) :
    (damage t number s).TablesLawful := by
  unfold damage
  (repeat' split) <;> simp [h]

@[simp] theorem entryLeft_lawful {s : State} (h : s.TablesLawful) : (entryLeft s).TablesLawful := by
  unfold entryLeft
  dsimp only
  split <;> simp [h]

@[simp] theorem eraseNext_lawful (e : ErasePass) {s : State} (h : s.TablesLawful) : (eraseNext e s).TablesLawful := by
  unfold eraseNext
  split <;> simp [h]

@[simp] theorem eraseCompleted_lawful (e : ErasePass) (good : Bool) {s : State} (h : s.TablesLawful) :
    (eraseCompleted e good s).TablesLawful := by
  unfold eraseCompleted
  (repeat' split) <;> simp [h]

@[simp] theorem queueCompleted_lawful (good : Bool) {s : State} (h : s.TablesLawful) :
    (queueCompleted good s).TablesLawful := by
  unfold queueCompleted
  (repeat' split) <;> simp [h]

@[simp] theorem deviceChange_lawful (slot : Nat) (f : CredRecord → CredRecord) {s : State} (h : s.TablesLawful) :
    (deviceChange slot f s).1.TablesLawful := by
  unfold deviceChange
  (repeat' split) <;> simp [h]

@[simp] theorem decrementUses_lawful (number : Nat) {s : State} (h : s.TablesLawful) :
    (decrementUses number s).TablesLawful := by
  unfold decrementUses
  (repeat' split) <;> simp [h]

@[simp] theorem suspendLockedOut_lawful (number : Nat) {s : State} (h : s.TablesLawful) :
    (suspendLockedOut number s).TablesLawful := by
  unfold suspendLockedOut
  dsimp only
  (repeat' split) <;> simp [h]

@[simp] theorem referenceLost_lawful {s : State} (h : s.TablesLawful) : (referenceLost s).TablesLawful :=
  (causeClock_lawful _).2 (raised_lawful clockFaultKey (h.congr rfl rfl))

@[simp] theorem referenceReturned_lawful {s : State} (h : s.TablesLawful) : (referenceReturned s).TablesLawful := by
  unfold referenceReturned
  dsimp only
  rw [causeClock_lawful]
  split
  · exact h.congr rfl rfl
  · exact endCondition_lawful clockFaultKey_ne_site (h.congr rfl rfl)

@[simp] theorem handVerdict_lawful (a : ReaderAddress) (verdict : Verdict) (number : Option Nat) {s : State}
    (h : s.TablesLawful) : (handVerdict a verdict number s).TablesLawful := by
  unfold handVerdict
  split <;> simp [h]

@[simp] theorem readerMiss_lawful (a : ReaderAddress) {s : State} (h : s.TablesLawful) :
    (readerMiss a s).TablesLawful := by
  unfold readerMiss
  dsimp only
  (repeat' split) <;> simp [h]

@[simp] theorem goodReply_lawful (a : ReaderAddress) (tamper : Bool) {s : State} (h : s.TablesLawful) :
    (goodReply a tamper s).TablesLawful := by
  unfold goodReply
  dsimp only
  (repeat' split) <;> simp [h]

@[simp] theorem disableReaders_lawful (v : Vault) {s : State} (h : s.TablesLawful) :
    (disableReaders v s).TablesLawful := by
  have one (p : Position) {s : State} (h : s.TablesLawful) :
      (endCondition (readerFaultKey ⟨v, p⟩ .tamper) (endCondition (readerFaultKey ⟨v, p⟩ .silent)
        (s.withReader ⟨v, p⟩ (s.reader ⟨v, p⟩).disabled))).TablesLawful := by simp [h]
  exact one .exit (one .inner (one .outer h))

@[simp] theorem addOccupants_lawful (v : Vault) (adds : List EnteringEntry) (time : Instant) {s : State}
    (h : s.TablesLawful) : (addOccupants v adds time s).TablesLawful := by
  exact h.congr rfl rfl

@[simp] theorem endOccupant_lawful (v : Vault) (e : Occupant) {s : State} (h : s.TablesLawful) :
    (endOccupant v e s).TablesLawful := by
  have hl : (if e.overdue then endCondition (loneWorkerKey v e.number) s else s).TablesLawful := by simp [h]
  have he := endCondition_lawful (escortLeftKey_ne_site v e.number) hl
  exact ite_lawful (claimChirp_lawful v false (ite_lawful he hl)) (ite_lawful he hl)

@[simp] theorem setCertain_lawful (v : Vault) (b : Bool) {s : State} (h : s.TablesLawful) :
    (setCertain v b s).TablesLawful := by
  exact h.congr rfl rfl

@[simp] theorem settleLink_lawful (v : Vault) (fresh : List Nat) (e : Occupant) {s : State} (h : s.TablesLawful) :
    (settleLink v fresh s e).TablesLawful := by
  unfold settleLink
  dsimp only
  (repeat' split) <;> simp [h]

@[simp] theorem settleLinks_lawful (v : Vault) (fresh : List Nat) {s : State} (h : s.TablesLawful) :
    (settleLinks v fresh s).TablesLawful :=
  foldl_lawful (fun _ e hs => settleLink_lawful v fresh e hs) _ h

@[simp] theorem settleLone_lawful (v : Vault) {s : State} (h : s.TablesLawful) : (settleLone v s).TablesLawful := by
  unfold settleLone
  dsimp only
  split
  · simp [h]
  · refine claimChirp_lawful v false ((State.withOccupancy_lawful _ _ _).2 (foldl_lawful (fun s e hs => ?_) _ h))
    simp [hs]

@[simp] theorem checkIn_lawful (v : Vault) (number : Option Nat) {s : State} (h : s.TablesLawful) :
    (checkIn v number s).TablesLawful := by
  unfold checkIn
  dsimp only
  (repeat' split) <;> simp [h]

@[simp] theorem loneExpired_lawful (v : Vault) {s : State} (h : s.TablesLawful) : (loneExpired v s).TablesLawful := by
  unfold loneExpired
  dsimp only
  split <;> simp [h]

@[simp] theorem clearOccupants_lawful (v : Vault) {s : State} (h : s.TablesLawful) :
    (clearOccupants v s).TablesLawful :=
  claimChirp_lawful v false
    (foldl_lawful (fun _ e hs => endOccupant_lawful v e hs) _ ((State.withOccupancy_lawful s v _).2 h))

@[simp] theorem putDoor_lawful (v : Vault) (d : DoorRecord) {s : State} (h : s.TablesLawful) :
    (putDoor v d s).TablesLawful := by
  unfold putDoor
  split <;> simp [h]

@[simp] theorem raiseForced_lawful (v : Vault) (which : Door) {s : State} (h : s.TablesLawful) :
    (raiseForced v which s).TablesLawful := by
  unfold raiseForced
  dsimp only
  split <;> simp [h]

@[simp] theorem raiseHeld_lawful (v : Vault) (which : Door) {s : State} (h : s.TablesLawful) :
    (raiseHeld v which s).TablesLawful := by
  unfold raiseHeld
  dsimp only
  split <;> simp [h]

@[simp] theorem raiseFault_lawful (v : Vault) (drive : Drive) {s : State} (h : s.TablesLawful) :
    (raiseFault v drive s).TablesLawful := by
  simp [raiseFault, h]

@[simp] theorem endForced_lawful (v : Vault) (which : Door) {s : State} (h : s.TablesLawful) :
    (endForced v which s).TablesLawful := by
  unfold endForced
  split <;> simp [h]

@[simp] theorem endHeld_lawful (v : Vault) (which : Door) {s : State} (h : s.TablesLawful) :
    (endHeld v which s).TablesLawful := by
  unfold endHeld
  split <;> simp [h]

@[simp] theorem endFaults_lawful (v : Vault) {s : State} (h : s.TablesLawful) : (endFaults v s).TablesLawful := by
  unfold endFaults
  dsimp only
  (repeat' split) <;> simp [h]

@[simp] theorem setOuter_lawful (v : Vault) (o : OuterState) {s : State} (h : s.TablesLawful) :
    (setOuter v o s).TablesLawful := by
  unfold setOuter
  split <;> simp [h]

@[simp] theorem withdrawOuter_lawful (v : Vault) {s : State} (h : s.TablesLawful) :
    (withdrawOuter v s).TablesLawful := by
  unfold withdrawOuter
  dsimp only
  (repeat' split) <;> simp [h]

@[simp] theorem setVaultState_lawful (v : Vault) (st : VaultState) {s : State} (h : s.TablesLawful) :
    (setVaultState v st s).TablesLawful := by
  have he {s : State} (h : s.TablesLawful) : (if st = .secured then endFaults v (endForced v .vault s)
      else if st = .released then endFaults v s else s).TablesLawful :=
    ite_lawful (by simp [h]) (by simp [h])
  have hp := he (putDoor_lawful v { s.door v with vault := st } h)
  exact ite_lawful (withdrawOuter_lawful v hp) hp

@[simp] theorem startRetract_lawful (v : Vault) {s : State} (h : s.TablesLawful) :
    (startRetract v s).TablesLawful := by
  unfold startRetract
  dsimp only
  split <;> simp [h]

@[simp] theorem startExtend_lawful (v : Vault) {s : State} (h : s.TablesLawful) : (startExtend v s).TablesLawful := by
  unfold startExtend
  dsimp only
  split <;> simp [h]

@[simp] theorem startEmergencyDrive_lawful (v : Vault) {s : State} (h : s.TablesLawful) :
    (startEmergencyDrive v s).TablesLawful := by
  exact h.congr rfl rfl

@[simp] theorem restartEmergencyDrive_lawful (v : Vault) {s : State} (h : s.TablesLawful) :
    (restartEmergencyDrive v s).TablesLawful := by
  unfold restartEmergencyDrive
  split <;> simp [h]

@[simp] theorem freeVaultDoor_lawful (v : Vault) {s : State} (h : s.TablesLawful) :
    (freeVaultDoor v s).TablesLawful := by
  unfold freeVaultDoor
  split <;> simp [h]

@[simp] theorem recordGrant_lawful (v : Vault) (g : VaultGrant) {s : State} (h : s.TablesLawful) :
    (recordGrant v g s).TablesLawful := by
  simp [recordGrant, h]

@[simp] theorem recordOuterGrant_lawful (v : Vault) (o : OuterOrigin) {s : State} (h : s.TablesLawful) :
    (recordOuterGrant v o s).TablesLawful := by
  simp [recordOuterGrant, h]

@[simp] theorem outerEgressPress_lawful (v : Vault) {s : State} (h : s.TablesLawful) :
    (outerEgressPress v s).TablesLawful := by
  unfold outerEgressPress
  split <;> simp [h]

@[simp] theorem vaultEgressPress_lawful (v : Vault) {s : State} (h : s.TablesLawful) :
    (vaultEgressPress v s).TablesLawful := by
  have hf := freeVaultDoor_lawful v (putDoor_lawful v { s.door v with egress := some (s.grantTicks v) } h)
  unfold vaultEgressPress
  dsimp only
  (repeat' split) <;> simp [h, hf]

@[simp] theorem secureWhereFree_lawful (v : Vault) {s : State} (h : s.TablesLawful) :
    (secureWhereFree v s).TablesLawful := by
  unfold secureWhereFree
  dsimp only
  (repeat' split) <;> simp [h]

@[simp] theorem discardGrant_lawful (v : Vault) {s : State} (h : s.TablesLawful) :
    (discardGrant v s).TablesLawful := by
  simp [discardGrant, h]

@[simp] theorem discardEgress_lawful (v : Vault) {s : State} (h : s.TablesLawful) :
    (discardEgress v s).TablesLawful := by
  simp [discardEgress, h]

@[simp] theorem outerLapsed_lawful (v : Vault) {s : State} (h : s.TablesLawful) : (outerLapsed v s).TablesLawful := by
  unfold outerLapsed
  dsimp only
  split <;> simp [h]

@[simp] theorem trimEntering_lawful (v : Vault) (keep : EnteringEntry → Bool) {s : State} (h : s.TablesLawful) :
    (trimEntering v keep s).TablesLawful := by
  unfold trimEntering
  dsimp only
  (repeat' split) <;> simp [h]

@[simp] theorem cancelEntry_lawful (v : Vault) {s : State} (h : s.TablesLawful) : (cancelEntry v s).TablesLawful := by
  simp [cancelEntry, h]

@[simp] theorem outerOpened_lawful (v : Vault) (first : Bool) {s : State} (h : s.TablesLawful) :
    (outerOpened v first s).TablesLawful := by
  unfold outerOpened
  (repeat' split) <;> simp [h]

@[simp] theorem outerClosed_lawful (v : Vault) {s : State} (h : s.TablesLawful) : (outerClosed v s).TablesLawful := by
  unfold outerClosed
  split <;> simp [h]

@[simp] theorem vaultClosed_lawful (v : Vault) {s : State} (h : s.TablesLawful) : (vaultClosed v s).TablesLawful := by
  unfold vaultClosed
  dsimp only
  (repeat' split) <;> simp [h]

@[simp] theorem enterOpen_lawful (v : Vault) {s : State} (h : s.TablesLawful) : (enterOpen v s).TablesLawful := by
  simp [enterOpen, h]

@[simp] theorem boltsWithdrawnActive_lawful (v : Vault) {s : State} (h : s.TablesLawful) :
    (boltsWithdrawnActive v s).TablesLawful := by
  unfold boltsWithdrawnActive
  (repeat' split) <;> simp [h]

@[simp] theorem boltsThrownActive_lawful (v : Vault) {s : State} (h : s.TablesLawful) :
    (boltsThrownActive v s).TablesLawful := by
  unfold boltsThrownActive
  (repeat' split) <;> simp [h]

@[simp] theorem boltsThrownLost_lawful (v : Vault) {s : State} (h : s.TablesLawful) :
    (boltsThrownLost v s).TablesLawful := by
  unfold boltsThrownLost
  split <;> simp [h]

@[simp] theorem travelExpired_lawful (v : Vault) {s : State} (h : s.TablesLawful) :
    (travelExpired v s).TablesLawful := by
  unfold travelExpired
  dsimp only
  split <;> simp [h]

@[simp] theorem relockExpired_lawful (v : Vault) {s : State} (h : s.TablesLawful) :
    (relockExpired v s).TablesLawful := by
  unfold relockExpired
  dsimp only
  split <;> simp [h]

@[simp] theorem heldExpired_lawful (v : Vault) (which : Door) {s : State} (h : s.TablesLawful) :
    (heldExpired v which s).TablesLawful := by
  simp [heldExpired, h]

@[simp] theorem emergencyStart_lawful (v : Vault) {s : State} (h : s.TablesLawful) :
    (emergencyStart v s).TablesLawful := by
  have ho := setOuter_lawful v .emergencyUnlocked
    (putDoor_lawful v { s.door v with outerGrant := none, emergency := true } h)
  have hv (d : DoorRecord) := startEmergencyDrive_lawful v
    (setVaultState_lawful v .emergencyReleased ((State.withDoor_lawful _ v d).2 ho))
  have hg (d e : DoorRecord) := putDoor_lawful v e (hv d)
  exact endHeld_lawful v .vault (endHeld_lawful v .outer ((State.withDoor_lawful _ v _).2 (hg _ _)))

@[simp] theorem emergencyEnd_lawful (v : Vault) {s : State} (h : s.TablesLawful) :
    (emergencyEnd v s).1.TablesLawful := by
  have hp := putDoor_lawful v { (s.door v).still with vaultGrant := none, emergency := false } h
  unfold emergencyEnd
  dsimp only
  (repeat' split) <;> simp (disch := simp [hp])

@[simp] theorem beginDoors_lawful (v : Vault) {s : State} (h : s.TablesLawful) : (beginDoors v s).TablesLawful := by
  unfold beginDoors
  split <;> simp [h]

@[simp] theorem disableDoors_lawful (v : Vault) {s : State} (h : s.TablesLawful) : (disableDoors v s).TablesLawful :=
  putDoor_lawful v resetDoor (endFaults_lawful v (endHeld_lawful v .vault (endHeld_lawful v .outer
    (endForced_lawful v .vault (endForced_lawful v .outer h)))))

@[simp] theorem lapsePair_lawful (v : Vault) {s : State} (h : s.TablesLawful) : (lapsePair v s).TablesLawful := by
  unfold lapsePair
  split <;> simp [h]

@[simp] theorem alertsAtChange_lawful (v : Vault) (old new : SsqState) {s : State} (h : s.TablesLawful) :
    (alertsAtChange v old new s).TablesLawful := by
  have he : (endCondition (alertKey v .manual) (endCondition (alertKey v .detection) s)).TablesLawful := by simp [h]
  unfold alertsAtChange
  dsimp only
  (repeat' split) <;> simp [h, he]

@[simp] theorem neighboursAtChange_lawful (v : Vault) (old new : SsqState) {s : State} (h : s.TablesLawful) :
    (neighboursAtChange v old new s).TablesLawful := by
  unfold neighboursAtChange
  split <;> simp [h]

@[simp] theorem inhibitedAtChange_lawful (v : Vault) (old new : SsqState) {s : State} (h : s.TablesLawful) :
    (inhibitedAtChange v old new s).1.TablesLawful := by
  unfold inhibitedAtChange
  dsimp only
  (repeat' split) <;> simp [h]

@[simp] theorem changeState_lawful (v : Vault) (q : SsqRecord) {s : State} (h : s.TablesLawful) :
    (changeState v q s).1.TablesLawful :=
  inhibitedAtChange_lawful v _ _ (alertsAtChange_lawful v _ _ (neighboursAtChange_lawful v _ _
    ((causeSuppression_lawful _).2 (claimSsq_lawful v _ ((State.withSequencer_lawful s v _).2 h)))))

@[simp] theorem enter_lawful (v : Vault) (q : SsqRecord) {s : State} (h : s.TablesLawful) :
    (enter v q s).TablesLawful := by
  simp [enter, h]

@[simp] theorem enterReleasing_lawful (v : Vault) {s : State} (h : s.TablesLawful) :
    (enterReleasing v s).TablesLawful := by
  simp [enterReleasing, h]

@[simp] theorem expireCountdown_lawful (v : Vault) {s : State} (h : s.TablesLawful) :
    (expireCountdown v s).TablesLawful := by
  unfold expireCountdown
  split <;> simp [h]

@[simp] theorem resumeCountdown_lawful (v : Vault) {s : State} (h : s.TablesLawful) :
    (resumeCountdown v s).TablesLawful := by
  unfold resumeCountdown
  dsimp only
  split <;> simp [h]

@[simp] theorem recheckHolds_lawful (v : Vault) {s : State} (h : s.TablesLawful) :
    (recheckHolds v s).TablesLawful := by
  unfold recheckHolds
  dsimp only
  (repeat' split) <;> simp [h]

@[simp] theorem setEgress_lawful (v : Vault) (e : EgressCondition) {s : State} (h : s.TablesLawful) :
    (setEgress v e s).TablesLawful := by
  simp [setEgress, h]

@[simp] theorem egressPressed_lawful (v : Vault) {s : State} (h : s.TablesLawful) :
    (egressPressed v s).TablesLawful := by
  unfold egressPressed
  split <;> simp [h]

@[simp] theorem egressConsumed_lawful (v : Vault) {s : State} (h : s.TablesLawful) :
    (egressConsumed v s).TablesLawful := by
  unfold egressConsumed
  split <;> simp [h]

@[simp] theorem egressUnopened_lawful (v : Vault) {s : State} (h : s.TablesLawful) :
    (egressUnopened v s).TablesLawful := by
  unfold egressUnopened
  split <;> simp [h]

@[simp] theorem contactLeft_lawful (v : Vault) {s : State} (h : s.TablesLawful) : (contactLeft v s).TablesLawful := by
  unfold contactLeft
  dsimp only
  (repeat' split) <;> simp [h]

@[simp] theorem moveTo_lawful (v : Vault) (q : SsqRecord) {s : State} (h : s.TablesLawful) :
    (moveTo v q s).TablesLawful := by
  unfold moveTo
  dsimp only
  split <;> simp [h]

@[simp] theorem commit_lawful (v : Vault) {s : State} (h : s.TablesLawful) : (commit v s).TablesLawful := by
  exact h.congr rfl rfl

@[simp] theorem beginCountdown_lawful (v : Vault) (path : Path) {s : State} (h : s.TablesLawful) :
    (beginCountdown v path s).TablesLawful := by
  simp [beginCountdown, h]

@[simp] theorem inhibit_lawful (v : Vault) {s : State} (h : s.TablesLawful) : (inhibit v s).TablesLawful := by
  simp [inhibit, h]

@[simp] theorem confirmFire_lawful (v : Vault) {s : State} (h : s.TablesLawful) : (confirmFire v s).TablesLawful := by
  have hc := commit_lawful v h
  unfold confirmFire
  dsimp only
  (repeat' split) <;> simp [hc]

@[simp] theorem enterAlert_lawful (v : Vault) {s : State} (h : s.TablesLawful) : (enterAlert v s).TablesLawful := by
  simp [enterAlert, h]

@[simp] theorem judgeDetectors_lawful (v : Vault) {s : State} (h : s.TablesLawful) :
    (judgeDetectors v s).TablesLawful := by
  unfold judgeDetectors
  (repeat' split) <;> simp [h]

@[simp] theorem detectorTaken_lawful (v : Vault) (active : Bool) {s : State} (h : s.TablesLawful) :
    (detectorTaken v active s).TablesLawful := by
  unfold detectorTaken
  (repeat' split) <;> simp [h]

@[simp] theorem occupancyReported_lawful (v : Vault) {s : State} (h : s.TablesLawful) :
    (occupancyReported v s).TablesLawful := by
  unfold occupancyReported
  dsimp only
  (repeat' split) <;> simp [h]

@[simp] theorem manualRelease_lawful (v : Vault) {s : State} (h : s.TablesLawful) :
    (manualRelease v s).TablesLawful := by
  unfold manualRelease
  dsimp only
  (repeat' split) <;> simp (disch := simp [h]) [h]

@[simp] theorem abortTaken_lawful (v : Vault) (state : Reading) {s : State} (h : s.TablesLawful) :
    (abortTaken v state s).TablesLawful := by
  unfold abortTaken
  dsimp only
  (repeat' split) <;> simp [h]

@[simp] theorem abortLapsed_lawful (v : Vault) {s : State} (h : s.TablesLawful) : (abortLapsed v s).TablesLawful := by
  simp [abortLapsed, h]

@[simp] theorem enterDischarged_lawful (v : Vault) (d : DischargeDetail) {s : State} (h : s.TablesLawful) :
    (enterDischarged v d s).TablesLawful := by
  simp [enterDischarged, h]

@[simp] theorem pulseEnded_lawful (v : Vault) {s : State} (h : s.TablesLawful) : (pulseEnded v s).TablesLawful := by
  unfold pulseEnded
  dsimp only
  split <;> simp [h]

@[simp] theorem dischargeActive_lawful (v : Vault) {s : State} (h : s.TablesLawful) :
    (dischargeActive v s).TablesLawful := by
  unfold dischargeActive
  split <;> simp [h]

@[simp] theorem isolate_lawful (v : Vault) {s : State} (h : s.TablesLawful) : (isolate v s).TablesLawful := by
  unfold isolate
  split <;> simp [h]

@[simp] theorem returnToQuiet_lawful (v : Vault) {s : State} (h : s.TablesLawful) :
    (returnToQuiet v s).TablesLawful := by
  simp [returnToQuiet, h]

@[simp] theorem deisolate_lawful (v : Vault) {s : State} (h : s.TablesLawful) : (deisolate v s).TablesLawful := by
  unfold deisolate
  split <;> simp [h]

@[simp] theorem resetDischarged_lawful (v : Vault) {s : State} (h : s.TablesLawful) :
    (resetDischarged v s).TablesLawful := by
  have hm (q : SsqRecord) {u : State} (hu : u.TablesLawful) := moveTo_lawful v q (commit_lawful v hu)
  unfold resetDischarged
  cases hd : (s.sequencer v).detail with
  | none => exact ite_lawful (isolate_lawful v (hm _ h)) (judgeDetectors_lawful v (hm _ h))
  | some d =>
    have he := endCondition_lawful (dischargeKey_ne_site v d) h
    exact ite_lawful (isolate_lawful v (hm _ he)) (judgeDetectors_lawful v (hm _ he))

@[simp] theorem disableSequencer_lawful (v : Vault) {s : State} (h : s.TablesLawful) :
    (disableSequencer v s).TablesLawful := by
  have he := endCondition_lawful (vaultEvacuationKey_ne_site v) (endCondition_lawful (alertKey_ne_site v .manualInIsolation)
    (endCondition_lawful (alertKey_ne_site v .isolated) (endCondition_lawful (alertKey_ne_site v .manual)
      (endCondition_lawful (alertKey_ne_site v .detection)
        ((State.withSequencer_lawful s v (resetSsq (s.sequencer v).committed)).2 h)))))
  unfold disableSequencer
  cases hq : (s.sequencer v).detail with
  | none =>
    simp only [hq]
    exact ite_lawful he ((causeSuppression_lawful _).2 he)
  | some d =>
    have hd := endCondition_lawful (dischargeKey_ne_site v d) he
    simp only [hq]
    exact ite_lawful hd ((causeSuppression_lawful _).2 hd)

@[simp] theorem enableSequencer_lawful (v : Vault) {s : State} (h : s.TablesLawful) :
    (enableSequencer v s).TablesLawful := by
  exact h.congr rfl rfl

@[simp] theorem reporting_lawful (v : Vault) {f : State → State}
    (hf : ∀ s : State, s.TablesLawful → (f s).TablesLawful) {s : State} (h : s.TablesLawful) :
    (reporting v f s).TablesLawful := by
  have hs := hf s h
  unfold reporting
  dsimp only
  (repeat' split) <;> simp [hs]

@[simp] theorem settleRegister_lawful (v : Vault) (fresh : List Nat) {s : State} (h : s.TablesLawful) :
    (settleRegister v fresh s).TablesLawful := by
  simp [settleRegister, h]

@[simp] theorem removeOccupant_lawful (v : Vault) (number : Nat) {s : State} (h : s.TablesLawful) :
    (removeOccupant v s number).TablesLawful := by
  unfold removeOccupant
  split <;> simp [h]

@[simp] theorem applyGrant_lawful (v : Vault) (g : VaultGrant) (time : Instant) {s : State} (h : s.TablesLawful) :
    (applyGrant v g time s).TablesLawful :=
  foldl_lawful (fun _ number hs => removeOccupant_lawful v number hs) _ (addOccupants_lawful v g.entering time h)

@[simp] theorem consumeGrant_lawful (v : Vault) (g : VaultGrant) (egress : Bool) (time : Instant) {s : State}
    (h : s.TablesLawful) : (consumeGrant v g egress time s).TablesLawful := by
  have ha := applyGrant_lawful v g time h
  have hc := setCertain_lawful v false ha
  unfold consumeGrant
  dsimp only
  (repeat' split) <;> simp (disch := simp [ha, hc])

@[simp] theorem consumeEgress_lawful (v : Vault) {s : State} (h : s.TablesLawful) :
    (consumeEgress v s).TablesLawful := by
  unfold consumeEgress
  split <;> simp [h]

@[simp] theorem openConsuming_lawful (v : Vault) (time : Instant) {s : State} (h : s.TablesLawful) :
    (openConsuming v time s).TablesLawful := by
  unfold openConsuming
  refine reporting_lawful v (fun u hu => ?_) h
  have hp := enterOpen_lawful v (putDoor_lawful v { s.door v with vaultGrant := none, egress := none } hu)
  dsimp only
  (repeat' split)
  · exact consumeGrant_lawful v _ _ time hp
  · exact consumeEgress_lawful v hp
  · exact hp

@[simp] theorem openForced_lawful (v : Vault) (first : Bool) {s : State} (h : s.TablesLawful) :
    (openForced v first s).TablesLawful := by
  refine reporting_lawful v (fun u hu => ?_) h
  have he := enterOpen_lawful v hu
  exact ite_lawful he (setCertain_lawful v false (raiseForced_lawful v .vault he))

@[simp] theorem openEmergency_lawful (v : Vault) (time : Instant) {s : State} (h : s.TablesLawful) :
    (openEmergency v time s).TablesLawful := by
  unfold openEmergency
  refine reporting_lawful v (fun u hu => settleRegister_lawful v [] ?_) h
  have hc (d : DoorRecord) (g : VaultGrant) :=
    setCertain_lawful v false (applyGrant_lawful v g time (putDoor_lawful v d hu))
  exact ite_lawful (egressConsumed_lawful v (hc _ _)) (hc _ _)

@[simp] theorem vaultOpened_lawful (v : Vault) (first : Bool) (time : Instant) {s : State} (h : s.TablesLawful) :
    (vaultOpened v first time s).TablesLawful := by
  unfold vaultOpened
  (repeat' split) <;> simp [h]

@[simp] theorem handExitGrant_lawful (v : Vault) (exiting : List Nat) {s : State} (h : s.TablesLawful) :
    (handExitGrant v exiting s).TablesLawful :=
  ite_lawful
    ((causeDoors_lawful _).2 (reporting_lawful v (fun _ hu => consumeGrant_lawful v _ false s.cal.instant hu) h))
    (recordGrant_lawful v _ h)

@[simp] theorem egressLapsed_lawful (v : Vault) {s : State} (h : s.TablesLawful) :
    (egressLapsed v s).TablesLawful := by
  simp [egressLapsed, h]

@[simp] theorem releaseEnds_lawful (v : Vault) {s : State} (h : s.TablesLawful) : (releaseEnds v s).TablesLawful := by
  unfold releaseEnds
  dsimp only
  (repeat' split) <;> simp [h]

@[simp] theorem latchVault_lawful (v : Vault) {s : State} (h : s.TablesLawful) : (latchVault v s).TablesLawful := by
  unfold latchVault
  dsimp only
  (repeat' split) <;> simp [h]

/-- The completion of the evacuation combination leaves the tables lawful: the record stands, or is owed where the table had
no place for it (R199). -/
@[simp] theorem evacuationCompleted_lawful {s : State} (h : s.TablesLawful) : (evacuationCompleted s).TablesLawful := by
  unfold evacuationCompleted
  split
  · exact raised_lawful siteEvacuationKey h
  · next hl =>
    have hf := (raise_failures siteEvacuationKey (s.withAtu { s.atu with latch := true })).symm ▸ h.failures
    refine eachVault_lawful (fun v _ hs => latchVault_lawful v hs)
      ⟨latched_atu_sound h.atu (Bool.eq_false_iff.2 hl), ?_⟩
    rw [apply_ite State.failures]
    exact (ite_self _).symm ▸ hf

/-- The end of the latch leaves a sound alarm table, whatever becomes of the site EVACUATION record. -/
theorem latchEnds_lawful {s : State} (ha : s.atu.lawful = true) (hf : failuresLawful s.failures = true) :
    (latchEnds s).TablesLawful :=
  eachVault_lawful (fun v _ hs => releaseEnds_lawful v (claimSiteEvacuate_lawful v false hs))
    ⟨⟨ha, fun h => Bool.noConfusion h, fun h => Bool.noConfusion h⟩, hf⟩

@[simp] theorem lockdownVault_lawful (v : Vault) {s : State} (h : s.TablesLawful) :
    (lockdownVault v s).TablesLawful := by
  simp [lockdownVault, h]

@[simp] theorem setMode_lawful (mode : Mode) (auto : Bool) {s : State} (h : s.TablesLawful) :
    (setMode mode auto s).TablesLawful := by
  have hm : (causeMode { s with mode := mode, auto := auto }).TablesLawful := h.congr rfl rfl
  have hlock := eachVault_lawful (fun v _ hs => lockdownVault_lawful v hs) hm
  have hopen := eachVault_lawful (fun v _ hs => lapsePair_lawful v hs) hm
  have hlone {s : State} (h : s.TablesLawful) := eachVault_lawful (fun v _ hs => settleLone_lawful v hs) h
  unfold setMode
  dsimp only
  split
  · exact h
  · split
    · exact hm
    · exact hlone (ite_lawful hlock (ite_lawful hopen hm))

@[simp] theorem evaluateMode_lawful {s : State} (h : s.TablesLawful) : (evaluateMode s).TablesLawful := by
  unfold evaluateMode
  split <;> simp [h]

@[simp] theorem repeatLockouts_lawful {s : State} (h : s.TablesLawful) : (repeatLockouts s).TablesLawful :=
  foldl_lawful (fun _ k hs => suspendLockedOut_lawful k hs) _ h

@[simp] theorem minuteEvent_lawful {s : State} (h : s.TablesLawful) : (minuteEvent s).TablesLawful := by
  have ha := ageFailures_lawful h
  exact ite_lawful (repeatLockouts_lawful (evaluateMode_lawful ha)) ha

@[simp] theorem checkEntry_lawful (v : Vault) (number : Nat) (digits : List Nat)
    (except : Option Vault) {s : State} (h : s.TablesLawful) : (checkEntry v number digits except s).1.TablesLawful := by
  unfold checkEntry
  dsimp only
  (repeat' split) <;> simp [h]

@[simp] theorem presentOuter_lawful (v : Vault) (number : Nat) (digits : List Nat) {s : State} (h : s.TablesLawful) :
    (presentOuter v number digits s).1.TablesLawful := by
  have hc := checkEntry_lawful v number digits none h
  unfold presentOuter
  split
  · next he => rwa [he] at hc
  · next he =>
    rw [he] at hc
    (repeat' split) <;> simp [hc]

@[simp] theorem admitSet_lawful (v : Vault) (set : List EnteringEntry) (pair : Bool) {s : State} (h : s.TablesLawful) :
    (admitSet v set pair s).1.TablesLawful := by
  have hp : (if pair then s.withPair v none else s).TablesLawful := by simp [h]
  have hf := foldl_lawful (fun _ (e : EnteringEntry) hs => decrementUses_lawful e.number hs) set hp
  unfold admitSet
  split
  · exact h
  · split
    · exact h
    · exact recordGrant_lawful v _ hf

@[simp] theorem admitAlone_lawful (v : Vault) (number : Nat) (duress : Bool) {s : State} (h : s.TablesLawful) :
    (admitAlone v number duress s).1.TablesLawful := by
  simp [admitAlone, h]

@[simp] theorem formPair_lawful (v : Vault) (number : Nat) (duress : Bool) {s : State} (h : s.TablesLawful) :
    (formPair v number duress s).TablesLawful := by
  exact h.congr rfl rfl

@[simp] theorem decideAlone_lawful (v : Vault) (number : Nat) (duress : Bool) {s : State} (h : s.TablesLawful) :
    (decideAlone v number duress s).1.TablesLawful := by
  unfold decideAlone
  (repeat' split) <;> simp [h]

@[simp] theorem meetPair_lawful (v : Vault) (p : PendingPair) (number : Nat) (duress : Bool) {s : State}
    (h : s.TablesLawful) : (meetPair v p number duress s).1.TablesLawful := by
  unfold meetPair
  (repeat' split) <;> simp [h]

@[simp] theorem firstAgain_lawful (v : Vault) (p : PendingPair) (duress : Bool) {s : State} (h : s.TablesLawful) :
    (firstAgain v p duress s).1.TablesLawful := by
  unfold firstAgain
  split <;> simp [h]

@[simp] theorem presentInner_lawful (v : Vault) (number : Nat) (digits : List Nat) {s : State} (h : s.TablesLawful) :
    (presentInner v number digits s).1.TablesLawful := by
  have hc := checkEntry_lawful v number digits (some v) h
  unfold presentInner
  split
  · next he => rwa [he] at hc
  · next he =>
    rw [he] at hc
    dsimp only
    (repeat' split) <;> simp [hc]

@[simp] theorem presentCheckIn_lawful (v : Vault) (number : Nat) {s : State} (h : s.TablesLawful) :
    (presentCheckIn v number s).1.TablesLawful := by
  unfold presentCheckIn
  split <;> simp [h]

@[simp] theorem appendExit_lawful (v : Vault) (g : VaultGrant) (number : Nat) {s : State} (h : s.TablesLawful) :
    (appendExit v g number s).TablesLawful := by
  unfold appendExit
  dsimp only
  (repeat' split) <;> simp [h]

@[simp] theorem presentExit_lawful (v : Vault) (number : Nat) {s : State} (h : s.TablesLawful) :
    (presentExit v number s).1.TablesLawful := by
  unfold presentExit
  split <;> simp [h]

@[simp] theorem decidePresentation_lawful (a : ReaderAddress) (number : Nat) (purpose : Purpose)
    (digits : List Nat) {s : State} (h : s.TablesLawful) :
    (decidePresentation a number purpose digits s).1.TablesLawful := by
  unfold decidePresentation
  (repeat' split) <;> simp [h]

@[simp] theorem present_lawful (a : ReaderAddress) (number : Nat) (purpose : Purpose) (digits : List Nat) {s : State}
    (h : s.TablesLawful) : (present a number purpose digits s).TablesLawful := by
  have hd := handVerdict_lawful a (decidePresentation a number purpose digits s).2 (some number)
    (decidePresentation_lawful a number purpose digits h)
  exact ite_lawful (suspendLockedOut_lawful number hd) hd

@[simp] theorem sampleLines_lawful (r : Readings) {s : State} (h : s.TablesLawful) : (sampleLines r s).TablesLawful := by
  refine (eachVault_lawful (fun v s hs => ?_) h).congr rfl rfl
  exact ite_lawful (hs.congr rfl rfl) hs

@[simp] theorem lineFault_lawful (id : LineIdentity) (new : Reading) {s : State} (h : s.TablesLawful) :
    (lineFault id new s).TablesLawful := by
  unfold lineFault
  split <;> simp [h]

@[simp] theorem deliverLine_lawful (v : Vault) (l : Line) (old : Option Reading) (new : Reading)
    (time : Instant) {s : State} (h : s.TablesLawful) : (deliverLine v l old new time s).TablesLawful := by
  unfold deliverLine
  dsimp only
  (repeat' split) <;> simp [h]

@[simp] theorem takeLine_lawful (v : Vault) (l : Line) {s : State} (h : s.TablesLawful) :
    (takeLine v l s).TablesLawful := by
  unfold takeLine
  dsimp only
  (repeat' split) <;> simp [h]

@[simp] theorem takeRelease_lawful (v : Vault) {s : State} (h : s.TablesLawful) : (takeRelease v s).TablesLawful := by
  unfold takeRelease
  dsimp only
  (repeat' split) <;> simp [h]

@[simp] theorem recheckAllHolds_lawful {s : State} (h : s.TablesLawful) : (recheckAllHolds s).TablesLawful :=
  eachVault_lawful (fun v _ hs => recheckHolds_lawful v hs) h

@[simp] theorem judgeHoldAll_lawful {s : State} (h : s.TablesLawful) : (judgeHoldAll s).TablesLawful := by
  unfold judgeHoldAll
  dsimp only
  split <;> simp [h]

@[simp] theorem judgeCombination_lawful {s : State} (h : s.TablesLawful) : (judgeCombination s).TablesLawful := by
  unfold judgeCombination
  dsimp only
  split <;> simp [h]

@[simp] theorem takeSiteLine_lawful (i : SiteLine) {s : State} (h : s.TablesLawful) :
    (takeSiteLine i s).TablesLawful := by
  unfold takeSiteLine
  dsimp only
  (repeat' split) <;> simp [h]

@[simp] theorem tickCombination_lawful {s : State} (h : s.TablesLawful) : (tickCombination s).TablesLawful := by
  unfold tickCombination
  (repeat' split) <;> exact h.congr rfl rfl

@[simp] theorem completeCombination_lawful {s : State} (h : s.TablesLawful) :
    (completeCombination s).TablesLawful := by
  simp [completeCombination, h]

@[simp] theorem roleFault_lawful (i : SiteLine) (old new : Role) {s : State} (h : s.TablesLawful) :
    (roleFault i old new s).TablesLawful := by
  unfold roleFault
  (repeat' split) <;> simp [h]

@[simp] theorem setRoles_lawful (roles : PerSite Role) {s : State} (h : s.TablesLawful) :
    (setRoles roles s).TablesLawful := by
  have hr := foldl_lawful (fun _ i hs => roleFault_lawful i (s.cfg.site.roles.get i) (roles.get i) hs) SiteLine.all
    ((State.withSite_lawful s { s.cfg.site with roles := roles }).2 h)
  have hj := judgeCombination_lawful (judgeHoldAll_lawful hr)
  unfold setRoles
  exact ite_lawful ((State.withLqu_lawful _ _).2 hj) hj

@[simp] theorem disableLines_lawful (v : Vault) {s : State} (h : s.TablesLawful) : (disableLines v s).TablesLawful :=
  (State.withLines_lawful _ v _).2 (endCondition_lawful (lineFaultKey_ne_site _)
    (foldl_lawful (fun _ l hs => endCondition_lawful (lineFaultKey_ne_site (.vaultLine v l)) hs) _ h))

@[simp] theorem beginTransaction_lawful {s : State} (h : s.TablesLawful) : (beginTransaction s).TablesLawful := by
  unfold beginTransaction
  split <;> simp [h]

@[simp] theorem endTransaction_lawful {s : State} (h : s.TablesLawful) : (endTransaction s).TablesLawful := by
  exact h.congr rfl rfl

@[simp] theorem transactionMissed_lawful {s : State} (h : s.TablesLawful) : (transactionMissed s).TablesLawful := by
  unfold transactionMissed
  split <;> simp [h]

@[simp] theorem presentReply_lawful (a : ReaderAddress) (number : Nat) (purpose : Purpose)
    (digits : List Nat) {s : State} (h : s.TablesLawful) : (presentReply a number purpose digits s).TablesLawful := by
  unfold presentReply
  dsimp only
  split <;> simp [h]

@[simp] theorem takeReply_lawful (a : ReaderAddress) (bytes : List Byte) {s : State} (h : s.TablesLawful) :
    (takeReply a bytes s).TablesLawful := by
  unfold takeReply
  split <;> simp [h]

@[simp] theorem transactionReplied_lawful (bytes : List Byte) {s : State} (h : s.TablesLawful) :
    (transactionReplied bytes s).TablesLawful := by
  unfold transactionReplied
  split <;> simp [h]

@[simp] theorem disableOnLine_lawful (v : Vault) {s : State} (h : s.TablesLawful) :
    (disableOnLine v s).TablesLawful := by
  exact h.congr rfl rfl

@[simp] theorem enableOnLine_lawful {s : State} (h : s.TablesLawful) : (enableOnLine s).TablesLawful := by
  unfold enableOnLine
  split <;> simp [h]

@[simp] theorem disableVault_lawful (v : Vault) {s : State} (h : s.TablesLawful) : (disableVault v s).TablesLawful := by
  have hd := disableLines_lawful v (disableDoors_lawful v (disableReaders_lawful v ((State.withPair_lawful s v none).2 h)))
  have ho := setCertain_lawful v true (clearOccupants_lawful v (disableSequencer_lawful v hd))
  exact disableOnLine_lawful v ((State.withGroup_lawful _ v _).2 ((State.withClaimSet_lawful _ v _).2
    (occupancyReported_lawful v (ite_lawful ho ((causeOccupancy_lawful _).2 ho)))))

@[simp] theorem enableVault_lawful (v : Vault) {s : State} (h : s.TablesLawful) : (enableVault v s).TablesLawful := by
  have ho (g : VaultGroup) := setCertain_lawful v false (enableSequencer_lawful v ((State.withGroup_lawful s v g).2 h))
  have hbegin {u : State} (hu : u.TablesLawful) :
      (enableOnLine (settleLone v (beginDoors v (occupancyReported v u)))).TablesLawful :=
    enableOnLine_lawful (settleLone_lawful v (beginDoors_lawful v (occupancyReported_lawful v hu)))
  unfold enableVault
  dsimp only
  refine hbegin (ite_lawful (claimSiteEvacuate_lawful v true ?_) ?_) <;>
    exact ite_lawful (ho _) ((causeOccupancy_lawful _).2 (ho _))

@[simp] theorem setEnabled_lawful (v : Vault) (b : Bool) {s : State} (h : s.TablesLawful) :
    (setEnabled v b s).TablesLawful := by
  unfold setEnabled
  (repeat' split) <;> simp [h]

@[simp] theorem applyVault_lawful (v : Vault) (g : VaultGroup) {s : State} (h : s.TablesLawful) :
    (applyVault v g s).TablesLawful := by
  have hg := (State.withGroup_lawful _ v g).2 (setEnabled_lawful v g.enabled h)
  unfold applyVault
  dsimp only
  (repeat' split) <;> simp [hg]

@[simp] theorem applySite_lawful (g : SiteGroup) {s : State} (h : s.TablesLawful) : (applySite g s).TablesLawful := by
  simp [applySite, h]

@[simp] theorem applyConfig_lawful (b : ConfigBlock) {s : State} (h : s.TablesLawful) :
    (applyConfig b s).TablesLawful := by
  have hs : ({ s with cfg := { s.cfg with suppression := b.suppression } } : State).TablesLawful := h.congr rfl rfl
  exact (eachVault_lawful (fun v _ hu => applyVault_lawful v (b.vaults.get v) hu)
    (applySite_lawful b.site hs)).congr rfl rfl

@[simp] theorem chirp_lawful (v : Vault) {s : State} (h : s.TablesLawful) : (chirp v s).TablesLawful := by
  simp [chirp, h]

@[simp] theorem escalate_lawful (id : Nat) {s : State} (h : s.TablesLawful) : (escalate id s).TablesLawful := by
  refine ⟨h.atu.map (fun r _ => ?_) fun r _ _ hs => ?_, h.failures⟩
  · split <;> exact ⟨rfl, rfl⟩
  · split <;> exact hs

/-- Every event of a tick leaves the tables lawful. -/
@[simp] theorem perform_lawful (d : Due) {s : State} (h : s.TablesLawful) : (perform d s).TablesLawful := by
  cases d <;> simp [perform, h]

@[simp] theorem performDue_lawful (d : Due) {s : State} (h : s.TablesLawful) : (performDue d s).TablesLawful := by
  unfold performDue
  split <;> simp [h]

@[simp] theorem settle_lawful {s : State} (h : s.TablesLawful) : (settle s).TablesLawful :=
  (foldl_lawful (fun _ d hs => performDue_lawful d hs) s.due h).congr rfl rfl

@[simp] theorem takeDue_lawful (d : Due) {s : State} (h : s.TablesLawful) : (takeDue d s).TablesLawful :=
  ite_lawful (performDue_lawful d (h.congr rfl rfl)) h

@[simp] theorem tickTimers_lawful {s : State} (h : s.TablesLawful) : (tickTimers s).TablesLawful :=
  ⟨h.atu.map (fun _ _ => ⟨rfl, rfl⟩) fun _ _ _ hs => hs, h.failures⟩

@[simp] theorem tickOnce_lawful (r : Readings) {s : State} (h : s.TablesLawful) : (tickOnce r s).TablesLawful := by
  have ht : (ticked s).TablesLawful :=
    (tickTimers_lawful (ite_lawful ((causeClock_lawful s).2 h) h)).congr rfl rfl
  rw [tickOnce_eq]
  exact ite_lawful (sampleLines_lawful r (tickCombination_lawful ht)) ht

@[simp] theorem ok_lawful (b : Body) {s : State} (h : s.TablesLawful) : (ok b s).1.TablesLawful := by
  exact h.congr rfl rfl

@[simp] theorem refuse_lawful (st : Status) {s : State} (h : s.TablesLawful) : (refuse st s).1.TablesLawful := by
  exact h.congr rfl rfl

@[simp] theorem refuseFor_lawful (v : Verdict) {s : State} (h : s.TablesLawful) : (refuseFor v s).1.TablesLawful := by
  exact h.congr rfl rfl



@[simp] theorem holdResponse_lawful (code : Nat) (tag : Byte) (a : Answer) {s : State} (h : s.TablesLawful) :
    (holdResponse code tag a s).TablesLawful := by
  exact h.congr rfl rfl



@[simp] theorem changed_lawful (slot : Nat) {s : State} (h : s.TablesLawful) : (changed slot s).1.TablesLawful := by
  exact h.congr rfl rfl

@[simp] theorem placeRecord_lawful (slot : Nat) (r : CredRecord) {s : State} (h : s.TablesLawful) :
    (placeRecord slot r s).TablesLawful := by
  simp [placeRecord, h]

@[simp] theorem lookupCredential_lawful (number : Nat) {s : State} (h : s.TablesLawful) :
    (lookupCredential number s).1.TablesLawful := by
  unfold lookupCredential
  simp only [onNumber, refuse, ok]
  (repeat' split) <;> simp [h]

@[simp] theorem readSlot_lawful (slot : Nat) {s : State} (h : s.TablesLawful) : (readSlot slot s).1.TablesLawful := by
  unfold readSlot
  split <;> simp [h]

@[simp] theorem forgetSome_lawful (number : Option Nat) {s : State} (h : s.TablesLawful) :
    (forgetSome number s).TablesLawful := by
  unfold forgetSome
  split <;> simp [h]

@[simp] theorem writeCredential_lawful (w : CredentialWrite) {s : State} (h : s.TablesLawful) :
    (writeCredential w s).1.TablesLawful := by
  unfold writeCredential onSlot
  dsimp only
  (repeat' split)
  case isFalse.isFalse.isFalse.isFalse.isFalse.isFalse.isFalse.isFalse =>
    exact placeRecord_lawful w.slot _ (forget_lawful w.number (forgetSome_lawful _ h))
  all_goals exact h

@[simp] theorem changeVaults_lawful (number : Nat) (next : VaultSet → VaultSet) {s : State} (h : s.TablesLawful) :
    (changeVaults number next s).1.TablesLawful := by
  unfold changeVaults
  simp only [onRecord, onNumber, refuse, ok]
  (repeat' split) <;> simp [h]

@[simp] theorem grantVaults_lawful (number : Nat) (vaults : VaultSet) {s : State} (h : s.TablesLawful) :
    (grantVaults number vaults s).1.TablesLawful := by
  simp [grantVaults, h]

@[simp] theorem revokeVaults_lawful (number : Nat) (vaults : VaultSet) {s : State} (h : s.TablesLawful) :
    (revokeVaults number vaults s).1.TablesLawful := by
  simp [revokeVaults, h]

@[simp] theorem suspend_lawful (number : Nat) {s : State} (h : s.TablesLawful) : (suspend number s).1.TablesLawful := by
  unfold suspend
  simp only [onRecord, onNumber, refuse]
  (repeat' split) <;> simp (disch := simp [h]) [h]

@[simp] theorem reinstate_lawful (number : Nat) {s : State} (h : s.TablesLawful) :
    (reinstate number s).1.TablesLawful := by
  unfold reinstate
  simp only [onRecord, onNumber, refuse, ok]
  (repeat' split) <;> simp (disch := simp [h]) [h]

@[simp] theorem retire_lawful (number : Nat) {s : State} (h : s.TablesLawful) : (retire number s).1.TablesLawful := by
  unfold retire
  simp only [onRecord, onNumber, refuse]
  (repeat' split) <;> simp (disch := simp [h]) [h]

@[simp] theorem purge_lawful (slot : Nat) {s : State} (h : s.TablesLawful) : (purge slot s).1.TablesLawful := by
  unfold purge
  simp only [onSlot, refuse]
  (repeat' split) <;> simp (disch := simp [h]) [h]

@[simp] theorem findFreeSlot_lawful {s : State} (h : s.TablesLawful) : (findFreeSlot s).1.TablesLawful := by
  unfold findFreeSlot
  split <;> simp [h]

@[simp] theorem storeStatus_lawful {s : State} (h : s.TablesLawful) : (storeStatus s).1.TablesLawful := by
  exact h.congr rfl rfl

@[simp] theorem setCommissioningLock_lawful {s : State} (h : s.TablesLawful) :
    (setCommissioningLock s).1.TablesLawful := by
  unfold setCommissioningLock
  (repeat' split)
  · exact h
  · exact h
  · exact placeConfig_lawful (h.congr rfl rfl)

@[simp] theorem eraseSite_lawful {s : State} (h : s.TablesLawful) : (eraseSite s).TablesLawful :=
  startAttempt_lawful ⟨(applyConfig_lawful erasedConfig h).atu, rfl⟩

@[simp] theorem eraseAll_lawful {s : State} (h : s.TablesLawful) : (eraseAll s).1.TablesLawful := by
  unfold eraseAll
  (repeat' split) <;> simp [h]

@[simp] theorem setTime_lawful (day minute second : Nat) {s : State} (h : s.TablesLawful) :
    (setTime day minute second s).1.TablesLawful := by
  unfold setTime
  split
  · exact h
  · exact evaluateMode_lawful ((causeClock_lawful _).2 (h.congr rfl rfl))

@[simp] theorem getTime_lawful {s : State} (h : s.TablesLawful) : (getTime s).1.TablesLawful := by
  exact h.congr rfl rfl

@[simp] theorem writeHolidays_lawful (days : List Nat) {s : State} (h : s.TablesLawful) :
    (writeHolidays days s).1.TablesLawful := by
  have hc : { s with cal := { s.cal with holidays := days } }.TablesLawful := h.congr rfl rfl
  unfold writeHolidays
  (repeat' split)
  · exact h
  · exact h
  · exact h
  · exact place_lawful (.holidays days) hc

@[simp] theorem readHolidays_lawful {s : State} (h : s.TablesLawful) : (readHolidays s).1.TablesLawful := by
  exact h.congr rfl rfl

@[simp] theorem writeSchedule_lawful (schedule : Nat) (windows : List Window) {s : State} (h : s.TablesLawful) :
    (writeSchedule schedule windows s).1.TablesLawful := by
  have hc : { s with cal := s.cal.setSchedule schedule windows }.TablesLawful := h.congr rfl rfl
  unfold writeSchedule
  (repeat' split)
  · exact h
  · exact h
  · exact h
  · exact h
  · exact place_lawful (.schedule schedule windows) hc

@[simp] theorem readSchedule_lawful (schedule : Nat) {s : State} (h : s.TablesLawful) :
    (readSchedule schedule s).1.TablesLawful := by
  unfold readSchedule
  split <;> simp [h]

@[simp] theorem testOutput_lawful (vault : Nat) (cadence : Option Cadence) (tone : Option Tone)
    (strobe : Option Bool) (seconds : Nat) {s : State} (h : s.TablesLawful) :
    (testOutput vault cadence tone strobe seconds s).1.TablesLawful := by
  unfold testOutput
  simp only [onVault, refuse, ok]
  (repeat' split) <;> simp [h]

@[simp] theorem vaultLineStatus_lawful (v : Vault) {s : State} (h : s.TablesLawful) :
    (vaultLineStatus v s).1.TablesLawful := by
  exact h.congr rfl rfl

@[simp] theorem siteLineStatus_lawful {s : State} (h : s.TablesLawful) : (siteLineStatus s).1.TablesLawful := by
  exact h.congr rfl rfl

@[simp] theorem getLineStatus_lawful (scope : SiteScope) {s : State} (h : s.TablesLawful) :
    (getLineStatus scope s).1.TablesLawful := by
  cases scope with
  | site => exact h
  | other => exact h
  | vault n =>
    simp only [getLineStatus, onVault]
    split <;> exact h

@[simp] theorem getReaderStatus_lawful (scope : ReaderScope) {s : State} (h : s.TablesLawful) :
    (getReaderStatus scope s).1.TablesLawful := by
  unfold getReaderStatus
  (repeat' split) <;> simp [h]

@[simp] theorem setSiteMode_lawful (value : Option ModeValue) {s : State} (h : s.TablesLawful) :
    (setSiteMode value s).1.TablesLawful := by
  unfold setSiteMode
  simp only [refuse, ok]
  (repeat' split) <;> simp [h]

@[simp] theorem releaseOuter_lawful (v : Vault) {s : State} (h : s.TablesLawful) :
    (releaseOuter v s).1.TablesLawful := by
  unfold releaseOuter
  (repeat' split) <;> simp [h]

@[simp] theorem releaseVault_lawful (v : Vault) (numbers : List Nat) {s : State} (h : s.TablesLawful) :
    (releaseVault v numbers s).1.TablesLawful := by
  unfold releaseVault
  (repeat' split) <;> simp [h]

@[simp] theorem releaseDoor_lawful (vault : Nat) (door : Option Door) (entering : Option (List Nat)) {s : State}
    (h : s.TablesLawful) : (releaseDoor vault door entering s).1.TablesLawful := by
  unfold releaseDoor
  simp only [onVault, refuse, refuseFor]
  (repeat' split) <;> simp [h]

@[simp] theorem secureVault_lawful (v : Vault) {s : State} (h : s.TablesLawful) : (secureVault v s).TablesLawful := by
  unfold secureVault
  dsimp only
  (repeat' split) <;> simp [h]

@[simp] theorem secureDoor_lawful (vault : Nat) (door : Option Door) {s : State} (h : s.TablesLawful) :
    (secureDoor vault door s).1.TablesLawful := by
  unfold secureDoor
  simp only [onVault, onDoor, refuse, ok]
  (repeat' split) <;> simp [h]

@[simp] theorem holdDoor_lawful (vault : Nat) (door : Option Door) (seconds : Nat) {s : State}
    (h : s.TablesLawful) : (holdDoor vault door seconds s).1.TablesLawful := by
  unfold holdDoor
  simp only [onVault, onDoor, refuse, ok]
  (repeat' split) <;> simp [h]

@[simp] theorem getDoorStatus_lawful (vault : Nat) {s : State} (h : s.TablesLawful) :
    (getDoorStatus vault s).1.TablesLawful := by
  unfold getDoorStatus
  simp only [onVault, refuse, ok]
  (repeat' split) <;> simp [h]

@[simp] theorem listOccupants_lawful (vault : Nat) {s : State} (h : s.TablesLawful) :
    (listOccupants vault s).1.TablesLawful := by
  unfold listOccupants
  simp only [onVault, refuse, ok]
  (repeat' split) <;> simp [h]

@[simp] theorem addOccupant_lawful (v : Vault) (number : Nat) (link : Option Nat) {s : State}
    (h : s.TablesLawful) : (addOccupant v number link s).TablesLawful :=
  reporting_lawful v (fun _ hs => settleRegister_lawful v _ (addOccupants_lawful v _ _ hs)) h

@[simp] theorem addOccupantRequest_lawful (vault number : Nat) (link : Option Nat) {s : State}
    (h : s.TablesLawful) : (addOccupantRequest vault number link s).1.TablesLawful := by
  unfold addOccupantRequest
  simp only [onVault, refuse, refuseFor, ok]
  (repeat' split) <;> simp [h]

@[simp] theorem dropOccupant_lawful (v : Vault) (number : Nat) {s : State} (h : s.TablesLawful) :
    (dropOccupant v number s).TablesLawful :=
  reporting_lawful v (fun _ hs => settleRegister_lawful v _ (removeOccupant_lawful v number hs)) h

@[simp] theorem removeOccupantRequest_lawful (number : Nat) {s : State} (h : s.TablesLawful) :
    (removeOccupantRequest number s).1.TablesLawful := by
  unfold removeOccupantRequest
  (repeat' split) <;> simp [h]

@[simp] theorem confirmOccupancy_lawful (vault : Nat) {s : State} (h : s.TablesLawful) :
    (confirmOccupancy vault s).1.TablesLawful := by
  have hc (v : Vault) := reporting_lawful v (fun _ hs => setCertain_lawful v true hs) h
  unfold confirmOccupancy
  simp only [onVault, onEnabled, refuse, ok]
  (repeat' split) <;> simp [h, hc]

@[simp] theorem globalHold_lawful (value : Option Bool) {s : State} (h : s.TablesLawful) :
    (globalHold value s).1.TablesLawful := by
  cases value with
  | none => exact h
  | some b => exact recheckAllHolds_lawful (h.congr rfl rfl)

@[simp] theorem setSuppressionParams_lawful (vault : Nat) (p : SuppressionWrite) {s : State}
    (h : s.TablesLawful) : (setSuppressionParams vault p s).1.TablesLawful := by
  unfold setSuppressionParams
  simp only [onVault, refuse, ok]
  (repeat' split) <;> simp [h]

@[simp] theorem readSuppressionParams_lawful (vault : Nat) {s : State} (h : s.TablesLawful) :
    (readSuppressionParams vault s).1.TablesLawful := by
  unfold readSuppressionParams
  simp only [onVault, refuse, ok]
  (repeat' split) <;> simp [h]

@[simp] theorem sequencerAnswer_lawful (v : Vault) {s : State} (h : s.TablesLawful) :
    (sequencerAnswer v s).1.TablesLawful := by
  exact h.congr rfl rfl

@[simp] theorem resetSuppression_lawful (vault : Nat) {s : State} (h : s.TablesLawful) :
    (resetSuppression vault s).1.TablesLawful := by
  unfold resetSuppression
  simp only [onVault, onEnabled, refuse]
  (repeat' split) <;> simp [h]

@[simp] theorem getSuppressionStatus_lawful (vault : Nat) {s : State} (h : s.TablesLawful) :
    (getSuppressionStatus vault s).1.TablesLawful := by
  unfold getSuppressionStatus
  simp only [onVault, refuse, ok]
  (repeat' split) <;> simp [h]

@[simp] theorem ackAlarm_lawful (id : Nat) {s : State} (h : s.TablesLawful) : (ackAlarm id s).1.TablesLawful := by
  unfold ackAlarm onAlarm
  (repeat' split)
  · exact h
  · exact h
  · next r hr => exact acknowledgeRecord_lawful h (Atu.mem_of_byId hr)

@[simp] theorem clearAlarm_lawful (id : Nat) {s : State} (h : s.TablesLawful) : (clearAlarm id s).1.TablesLawful := by
  unfold clearAlarm onAlarm
  dsimp only
  (repeat' split)
  · exact h
  · exact h
  · exact h
  · exact h
  · exact latchEnds_lawful (endCondition_atu_lawful h.atu _) ((endCondition_failures _ s).symm ▸ h.failures)
  · next hk => exact endCondition_lawful hk h

@[simp] theorem listAlarms_lawful (start : Nat) (filter : Option AlarmFilter) {s : State} (h : s.TablesLawful) :
    (listAlarms start filter s).1.TablesLawful := by
  unfold listAlarms
  (repeat' split)
  · exact h
  · exact h
  all_goals exact ⟨⟨h.atu.lawful, h.atu.owed, h.atu.latch⟩, h.failures⟩

@[simp] theorem readAlarm_lawful (id : Nat) {s : State} (h : s.TablesLawful) : (readAlarm id s).1.TablesLawful := by
  unfold readAlarm
  simp only [onAlarm, refuse, ok]
  (repeat' split) <;> simp [h]

@[simp] theorem getAttention_lawful {s : State} (h : s.TablesLawful) : (getAttention s).1.TablesLawful := by
  exact h.congr rfl rfl

@[simp] theorem setAttentionEnable_lawful (enable : Causes) {s : State} (h : s.TablesLawful) :
    (setAttentionEnable enable s).1.TablesLawful := by
  exact h.congr rfl rfl

@[simp] theorem getSiteStatus_lawful {s : State} (h : s.TablesLawful) : (getSiteStatus s).1.TablesLawful := by
  exact h.congr rfl rfl

@[simp] theorem writeSite_lawful (w : SiteWrite) {s : State} (h : s.TablesLawful) :
    (writeSite w s).1.TablesLawful := by
  unfold writeSite
  simp only [refuse, ok]
  (repeat' split) <;> simp [h]

@[simp] theorem writeVault_lawful (v : Vault) (w : VaultWrite) {s : State} (h : s.TablesLawful) :
    (writeVault v w s).1.TablesLawful := by
  unfold writeVault
  simp only [refuse, ok]
  (repeat' split) <;> simp [h]

@[simp] theorem writeParams_lawful (group : GroupWrite) {s : State} (h : s.TablesLawful) :
    (writeParams group s).1.TablesLawful := by
  cases group with
  | site w => exact writeSite_lawful w h
  | other => exact h
  | vault n w =>
    simp only [writeParams, onVault]
    split
    · exact h
    · exact writeVault_lawful _ w h

@[simp] theorem readParams_lawful (group : SiteScope) {s : State} (h : s.TablesLawful) :
    (readParams group s).1.TablesLawful := by
  cases group with
  | site => exact h
  | other => exact h
  | vault n =>
    simp only [readParams, onVault]
    split <;> exact h

@[simp] theorem restart_lawful {s : State} (h : s.TablesLawful) : (restart s).1.TablesLawful := by
  exact h.congr rfl rfl

@[simp] theorem getResetCause_lawful {s : State} (h : s.TablesLawful) : (getResetCause s).1.TablesLawful := by
  exact h.congr rfl rfl

end Sys2Proof.Machine

namespace Sys2Proof.Machine

/-! ## Every step keeps the tables sound (O8) -/

/-- While a reset is held no latch stands and no event of the last tick waits. -/
def State.Quiescent (s : State) : Prop := s.phase = .reset → s.atu.latch = false ∧ s.due = []

theorem State.quiescent_of_awake {s : State} (h : s.phase ≠ .reset) : s.Quiescent := fun hr => absurd hr h

theorem tablesSound_iff (s : State) : s.tablesSound = true ↔ s.TablesLawful ∧ s.Quiescent := by
  simp only [State.tablesSound, State.Quiescent, Bool.and_eq_true, Bool.or_eq_true, Bool.not_eq_true',
    Option.isNone_iff_eq_none, Atu.find_eq_none_iff, decide_eq_false_iff_not, List.isEmpty_iff]
  constructor
  · rintro ⟨⟨⟨⟨ha, hf⟩, ho⟩, hl⟩, hr⟩
    rw [State.conditionStands_iff ha] at hl
    exact ⟨⟨⟨ha, fun h => ho.resolve_left (by simp [h]), fun h => (or_assoc.1 hl).resolve_left (by simp [h])⟩, hf⟩,
      fun h => hr.resolve_left fun hn => hn h⟩
  · rintro ⟨⟨⟨ha, ho, hl⟩, hf⟩, hr⟩
    rw [State.conditionStands_iff ha]
    refine ⟨⟨⟨⟨ha, hf⟩, ?_⟩, or_assoc.2 ?_⟩, imp_iff_not_or.1 hr⟩
    · exact (Bool.eq_false_or_eq_true s.atu.owed).symm.imp_right ho
    · exact (Bool.eq_false_or_eq_true s.atu.latch).symm.imp_right hl

/-! ### Requests -/

theorem owner_lawful {c : Instr} {f : Service} (hc : ownerOf c = some f) {s : State} (h : s.TablesLawful) :
    (f s).1.TablesLawful := by
  cases c <;> cases hc <;> simp [h]

/-- No owner of a request touches the fixed fields. -/
theorem owner_fixed {c : Instr} {f : Service} (hc : ownerOf c = some f) (s : State) : (f s).1.fixed = s.fixed := by
  cases c <;> cases hc <;> simp

theorem acceptRequest_lawful {c : Instr} {f : Service} (hc : ownerOf c = some f) (code : Nat) {s : State}
    (h : s.TablesLawful) : (acceptRequest code f s).TablesLawful :=
  @acceptRequest_keeps State.TablesLawful (fun _ => settle_lawful) (fun s l => (State.withLink_lawful s l).2) f
    (fun _ => owner_lawful hc) code s h

/-! ### Programming attempts and resets -/

theorem attemptCompleted_lawful (outcome : AttemptOutcome) {s : State} (h : s.TablesLawful) :
    (attemptCompleted outcome s).TablesLawful := by
  unfold attemptCompleted
  cases s.nva.inFlight with
  | none => exact h
  | some a =>
    have ht : ({ s with
        array := attemptArray a outcome s.array
        nva := { s.nva with inFlight := none, unsettled := s.keptNumbers a.image.target } } : State).TablesLawful :=
      h.congr rfl rfl
    dsimp only
    (repeat' split) <;> simp [ht]

/-- A reset empties both tables. -/
theorem beginReset_lawful (kind : ResetKind) {s : State} (h : s.TablesLawful) : (beginReset kind s).TablesLawful := by
  unfold beginReset
  split
  · exact h.congr rfl rfl
  · exact ⟨⟨rfl, fun h => Bool.noConfusion h, fun h => Bool.noConfusion h⟩, rfl⟩

theorem beginReset_quiescent (kind : ResetKind) {s : State} (h : s.Quiescent) : (beginReset kind s).Quiescent := by
  unfold beginReset
  split
  · exact h
  · exact fun _ => ⟨rfl, rfl⟩

/-- At the end of a reset no latch stands, so the table that holds the RESTART record alone is sound. -/
theorem endReset_lawful (good : Bool) {s : State} (h : s.TablesLawful) (hq : s.Quiescent) :
    (endReset good s).TablesLawful := by
  unfold endReset
  split
  · next hr =>
    have hl : s.atu.latch = false := (hq hr).1
    have ho : s.atu.owed = false := Bool.eq_false_iff.2 fun ho => Bool.eq_false_iff.1 hl (h.atu.owed ho).1
    exact ⟨⟨rfl, fun e => absurd e (Bool.eq_false_iff.1 ho), fun e => absurd e (Bool.eq_false_iff.1 hl)⟩, h.failures⟩
  · exact h

theorem endReset_quiescent (good : Bool) {s : State} (h : s.Quiescent) : (endReset good s).Quiescent := by
  unfold endReset
  split
  · exact fun hr => Phase.noConfusion hr
  · exact h

/-! ### The scan -/

theorem beginVault_lawful (v : Vault) {s : State} (h : s.TablesLawful) : (beginVault v s).TablesLawful := by
  have hc {s : State} (h : s.TablesLawful) :
      (if s.enabled v then s else causeOccupancy (setCertain v true s)).TablesLawful :=
    ite_lawful h (h.congr rfl rfl)
  have ho := occupancyReported_lawful v
    (hc ((State.withSequencer_lawful s v { s.sequencer v with committed := s.stagedSet v }).2 h))
  exact ite_lawful (beginDoors_lawful v ho) ho

theorem giveConfig_lawful (b : ConfigBlock) {s : State} (h : s.TablesLawful) : (giveConfig b s).TablesLawful := by
  have hr : (resumeMode { s with cfg := b }).TablesLawful := by
    unfold resumeMode
    dsimp only
    split <;> exact h.congr rfl rfl
  exact beginTransaction_lawful (eachVault_lawful (fun v _ hs => beginVault_lawful v hs) hr)

theorem readConfiguration_lawful {s : State} (h : s.TablesLawful) : (readConfiguration s).TablesLawful := by
  have hp : ({ s with scanPos := 1 } : State).TablesLawful := h.congr rfl rfl
  unfold readConfiguration
  dsimp only
  (repeat' split)
  · exact giveConfig_lawful _ hp
  · exact giveConfig_lawful _ (damage_lawful _ _ hp)
  · exact h

theorem readTarget_lawful (k : Nat) {s : State} (h : s.TablesLawful) : (readTarget k s).TablesLawful := by
  unfold readTarget readHolidayTarget readScheduleTarget readSlotTarget
  (repeat' split) <;> simp [h]

theorem endScan_lawful {s : State} (h : s.TablesLawful) : (endScan s).TablesLawful :=
  startAttempt_lawful (evaluateMode_lawful (h.congr rfl rfl))

theorem readNext_lawful {s : State} (h : s.TablesLawful) : (readNext s).TablesLawful := by
  have ht : ({ readTarget s.scanPos s with scanPos := s.scanPos + 1 } : State).TablesLawful :=
    (readTarget_lawful s.scanPos h).congr rfl rfl
  unfold readNext
  dsimp only
  (repeat' split)
  · exact endScan_lawful ht
  · exact ht
  · exact h

/-! ### The other events -/

theorem completeProcessing_lawful {s : State} (h : s.TablesLawful) : (completeProcessing s).TablesLawful := by
  unfold completeProcessing
  (repeat' split)
  · simp [h]
  · exact h
  · next hi => exact acceptRequest_lawful hi _ h
  · exact h

theorem plainEffect_lawful {c : Instr} {f : State → State} (hc : plainEffect c = some f) {s : State}
    (h : s.TablesLawful) : (f s).TablesLawful := by
  cases c <;> cases hc
  case requestTransaction rest => exact ite_lawful (beginReset_lawful _ h) (h.congr rfl rfl)
  case responseTransaction clocked =>
    exact ite_lawful (beginReset_lawful _ (h.congr rfl rfl)) (h.congr rfl rfl)
  case ignoredTransaction first clocked => exact ite_lawful h (h.congr rfl rfl)
  case completionOfProcessing => exact completeProcessing_lawful h
  case configurationRead => exact readConfiguration_lawful h
  case scanTargetRead => exact readNext_lawful h
  case writeLow => exact ite_lawful (h.congr rfl rfl) h
  case supplyGood => exact ite_lawful (startAttempt_lawful (h.congr rfl rfl)) h
  case attemptCompletion outcome => exact attemptCompleted_lawful outcome h
  case tickEvent readings => exact tickOnce_lawful readings h
  case referenceLost => unfold referenceGap; split <;> simp [h]
  case referenceReturned => unfold referenceGood; split <;> simp [h]
  case pollTransactionStart => exact ite_lawful (beginTransaction_lawful h) h
  case replyWindowOpen => exact ite_lawful (h.congr rfl rfl) h
  case readerReplyBegun => exact ite_lawful (h.congr rfl rfl) h
  case replyWindowExpiry => exact ite_lawful (transactionMissed_lawful h) h
  case readerReplyComplete bytes => exact ite_lawful (transactionReplied_lawful bytes h) h

/-- The scan end leaves the reset phase behind. -/
theorem endScan_phase (s : State) : (endScan s).phase = .running := by
  unfold endScan
  rw [State.phase_of_fixed (startAttempt_fixed _), State.phase_of_fixed (evaluateMode_fixed _)]

theorem readTarget_fixed (k : Nat) (s : State) : (readTarget k s).fixed = s.fixed := by
  unfold readTarget readHolidayTarget readScheduleTarget readSlotTarget
  (repeat' split) <;> simp

theorem readConfiguration_phase (s : State) : (readConfiguration s).phase = s.phase := by
  have hg (b : ConfigBlock) (t : State) : (giveConfig b t).phase = t.phase := by
    unfold giveConfig
    rw [State.phase_of_fixed (beginTransaction_fixed _),
      State.phase_of_fixed (eachVault_fixed _ (fun v s => (beginVault_frames v s).1) _)]
    unfold resumeMode
    dsimp only
    split <;> rfl
  unfold readConfiguration
  dsimp only
  (repeat' split)
  · exact hg _ _
  · exact (hg _ _).trans ((State.phase_of_fixed (damage_fixed _ _ _)).trans rfl)
  · rfl

theorem attemptCompleted_phase (outcome : AttemptOutcome) (s : State) :
    (attemptCompleted outcome s).phase = s.phase := by
  have h := attemptCompleted_fixed outcome s
  cases hi : s.nva.inFlight with
  | none => exact State.phase_of_fixed (by simpa only [hi] using h)
  | some a =>
    rw [hi] at h
    exact (State.phase_of_fixed h).trans rfl

theorem completeProcessing_phase (s : State) : (completeProcessing s).phase = s.phase := by
  unfold completeProcessing
  (repeat' split)
  · rfl
  · rfl
  · next hi => exact State.phase_of_fixed (acceptRequest_fixed _ _ s fun _ => owner_fixed hi _)
  · rfl

/-- No event out of reset is part of a reset but the RESTART that a transaction begins (R210). -/
theorem plainEffect_quiescent {c : Instr} {f : State → State} (hc : plainEffect c = some f) {s : State}
    (h : s.phase ≠ .reset) : (f s).Quiescent := by
  have hs := State.quiescent_of_awake h
  have same {u : State} (hu : u.phase = s.phase) : u.Quiescent := State.quiescent_of_awake (hu.symm ▸ h)
  have frame {u : State} (hu : u.fixed = s.fixed) : u.Quiescent := same (State.phase_of_fixed hu)
  cases c <;> cases hc
  case requestTransaction rest =>
    unfold requestTransaction
    split
    · exact beginReset_quiescent _ hs
    · exact same rfl
  case responseTransaction clocked =>
    unfold responseTransaction
    dsimp only
    split
    · exact beginReset_quiescent _ (same rfl)
    · exact same rfl
  case ignoredTransaction first clocked => unfold ignoredTransaction; split <;> exact same rfl
  case completionOfProcessing => exact same (completeProcessing_phase s)
  case configurationRead => exact same (readConfiguration_phase s)
  case scanTargetRead =>
    unfold readNext
    dsimp only
    (repeat' split)
    · exact State.quiescent_of_awake (by rw [endScan_phase]; exact Phase.noConfusion)
    · have hp := State.phase_of_fixed (readTarget_fixed s.scanPos s)
      exact same hp
    · exact hs
  case writeLow => unfold writeLow; split <;> exact same rfl
  case supplyGood =>
    unfold supplyReturned
    split
    · exact same ((State.phase_of_fixed (startAttempt_fixed _)).trans rfl)
    · exact hs
  case attemptCompletion outcome => exact same (attemptCompleted_phase outcome s)
  case tickEvent readings => exact frame (tickOnce_fixed readings s)
  case referenceLost => unfold referenceGap; split <;> exact frame (by simp)
  case referenceReturned => unfold referenceGood; split <;> exact frame (by simp)
  all_goals
    unfold inLinePhase
    split
    · exact frame (by simp [linePhase])
    · exact hs

theorem acceptRequest_quiescent {c : Instr} {f : Service} (hc : ownerOf c = some f) (code : Nat) {s : State}
    (h : s.Quiescent) : (acceptRequest code f s).Quiescent := by
  by_cases hp : s.phase = .reset
  · have : acceptRequest code f s = s := by
      unfold acceptRequest
      rw [settle_of_nil (h hp).2]
      exact if_pos hp
    rwa [this]
  · exact State.quiescent_of_awake
      ((State.phase_of_fixed (acceptRequest_fixed code f s (owner_fixed hc))).symm ▸ hp)

/-- Settles O8: each form of a command leaves both tables lawful, and no event waits and no latch stands while a reset is
held. -/
theorem everyStepKeepsTheTablesSound : Obligations.EveryStepKeepsTheTablesSound := by
  unfold Obligations.EveryStepKeepsTheTablesSound
  intro s t hs h
  rw [tablesSound_iff] at hs ⊢
  have settled (s : State) (h : s.TablesLawful ∧ s.Quiescent) : (settle s).TablesLawful ∧ (settle s).Quiescent :=
    ⟨settle_lawful h.1, fun hp => by
      rw [settle_phase] at hp
      rw [settle_of_nil (h.2 hp).2]
      exact h.2 hp⟩
  have taken (d : Due) (s : State) (h : s.TablesLawful ∧ s.Quiescent) :
      (takeDue d s).TablesLawful ∧ (takeDue d s).Quiescent :=
    ⟨takeDue_lawful d h.1, fun hp => by
      rw [State.phase_of_fixed (takeDue_fixed d s)] at hp
      have hd : d ∉ s.due := by simp [(h.2 hp).2]
      rw [takeDue_absent hd]
      exact h.2 hp⟩
  refine @step_keeps (fun s => s.TablesLawful ∧ s.Quiescent) (fun s q h => ⟨h.1.congr rfl rfl, h.2⟩) ?_ s t hs h
  intro c s t hs h
  exact @exec_keeps (fun s => s.TablesLawful ∧ s.Quiescent) settled taken
    (fun _ code _ _ ho h => ⟨acceptRequest_lawful ho code h.1, acceptRequest_quiescent ho code h.2⟩)
    (fun _ _ _ hp hr h => ⟨plainEffect_lawful hp h.1, plainEffect_quiescent hp hr⟩)
    (fun kind _ h => ⟨beginReset_lawful kind h.1, beginReset_quiescent kind h.2⟩)
    (fun good _ h => ⟨endReset_lawful good h.1 h.2, endReset_quiescent good h.2⟩) c s t hs h

end Sys2Proof.Machine

namespace Sys2Proof.Machine

/-! ## Resets (O4, O6) -/

/-- Settles O6: the reset state is closed, and its invariants evaluate. -/
theorem resetMeetsTheInvariants : Obligations.ResetMeetsTheInvariants := by
  unfold Obligations.ResetMeetsTheInvariants
  exact ⟨by decide, by decide, by decide, by decide, by decide, by decide, by decide, by decide, by decide⟩

/-- A reset of a part whose NVA programs nothing clears the volatile state and records its kind. -/
theorem resetCommand_awake (kind : ResetKind) {s : State} (h : s.awake) (hi : s.nva.inFlight = none) :
    resetCommand kind s = .next { clearVolatile s with resetKind := kind } := by
  have ht : tearAttempt s = s := by
    unfold tearAttempt
    rw [hi]
  unfold resetCommand beginReset
  rw [settle_of_nil h.2, if_neg h.1, ht]

/-- A cause that arrives while a reset is held changes the recorded kind alone (R210). -/
theorem resetCommand_held (kind : ResetKind) {s : State} (h : s.phase = .reset) (hd : s.due = []) :
    resetCommand kind s = .next { s with resetKind := earlierKind kind s.resetKind } := by
  unfold resetCommand beginReset
  rw [settle_of_nil hd, if_pos h]

/-- A cleared part leaves its reset as the reset state, but for what the reset keeps and what its kind gives. -/
theorem endOfReset_cleared (kind : ResetKind) (good : Bool) (s : State) :
    exec (.endOfReset good) { clearVolatile s with resetKind := kind } = .next
      { State.reset with
        resetKind := kind
        supply := if good then .good else .writeLow
        array := s.array
        cal := { State.reset.cal with
          instant := (calendarAfter kind s.cal).instant, state := (calendarAfter kind s.cal).state }
        atu := { resetAtu with
          table := [restartRecord kind
            { day := (calendarAfter kind s.cal).instant.day, minute := (calendarAfter kind s.cal).instant.minute
              second := (calendarAfter kind s.cal).instant.second }]
          counter := 2 }
        freeCount := s.freeCount
        pending := s.pending } := by
  cases kind <;> rfl

theorem earlierKind_powerOn (k : ResetKind) : earlierKind .powerOn k = .powerOn := by cases k <;> rfl

theorem earlierKind_supply (k : ResetKind) :
    earlierKind .supply k = if k = .powerOn then .powerOn else .supply := by cases k <;> rfl

theorem earlierKind_resetLine (k : ResetKind) :
    earlierKind .resetLine k = if k = .restart then .resetLine else k := by cases k <;> rfl

/-- Settles O4, from the state that a reset clears and the state that its end makes of it. -/
theorem aResetLeavesTheResetState : Obligations.AResetLeavesTheResetState := by
  unfold Obligations.AResetLeavesTheResetState
  refine ⟨fun s good h hi => ⟨?_, ?_, ?_⟩, fun s h hd => ⟨?_, ?_, ?_⟩⟩
  · exact ⟨_, resetCommand_awake .powerOn h hi, rfl, rfl, endOfReset_cleared .powerOn good s⟩
  · exact ⟨_, resetCommand_awake .supply h hi, rfl, rfl, endOfReset_cleared .supply good s⟩
  · exact ⟨_, resetCommand_awake .resetLine h hi, rfl, rfl, endOfReset_cleared .resetLine good s⟩
  · exact (resetCommand_held .powerOn h hd).trans (by rw [earlierKind_powerOn])
  · exact (resetCommand_held .supply h hd).trans (by rw [earlierKind_supply])
  · exact (resetCommand_held .resetLine h hd).trans (by rw [earlierKind_resetLine])

end Sys2Proof.Machine

namespace Sys2Proof.Machine

/-! ## What a slot reads, and what its reports say -/

theorem State.credential_held {s : State} {k n : Nat} {r : CredRecord} (hi : s.slotOf k = some n)
    (hc : s.slotContent n = .held r) : s.credential k = some (n, r) := by
  simp only [State.credential, hi, hc]

theorem badNumber_eq_false {k : Nat} (h0 : 0 < k) (h : k ≤ 4294967294) : badNumber k = false := by
  simp [badNumber, Config.numberMax, Nat.pos_iff_ne_zero.1 h0, h]

theorem onNumber_held {s : State} {k n : Nat} {r : CredRecord} (hb : badNumber k = false) (hi : s.slotOf k = some n)
    (hc : s.slotContent n = .held r) (f : Nat → CredRecord → Service) : onNumber k f s = f n r s := by
  unfold onNumber
  rw [hb, State.credential_held hi hc]
  rfl

theorem onNumber_bad {k : Nat} (hb : badNumber k = true) (f : Nat → CredRecord → Service) (s : State) :
    onNumber k f s = refuse .badField s := by
  unfold onNumber
  rw [hb]
  rfl

/-- A request that is accepted and changes nothing. -/
theorem hostRequest_ok {code : Nat} {f : Service} {s : State} {b : Body} (h : s.ready) (hf : f s = ok b s) :
    hostRequest code f s = .next (s.answered code .ok b) :=
  hostRequest_unchanged code f h hf

/-- A request that is refused without a reason. -/
theorem hostRequest_refuse {code : Nat} {f : Service} {s : State} {st : Status} (h : s.ready)
    (hf : f s = refuse st s) : hostRequest code f s = .next (s.answered code st .empty) :=
  hostRequest_unchanged code f h hf

theorem readSlot_eq {n : Nat} (h : n < 2048) (s : State) : readSlot n s = ok (.slot (s.slotReport n)) s :=
  if_neg (Nat.not_le.2 h)

/-- The request that a number names answers the report of its slot. -/
theorem lookupCredential_eq {s : State} {k n : Nat} {r : CredRecord} (hb : badNumber k = false)
    (hi : s.slotOf k = some n) (hc : s.slotContent n = .held r) :
    lookupCredential k s = ok (.slot (s.slotReport n)) s :=
  onNumber_held hb hi hc _

/-! ### Reports hide the digits (O16) -/

/-- A report of a record gives its fields and the lengths of its codes alone (R2, R213). -/
theorem reportBytes_held (r : CredRecord) :
    reportBytes (.held r) = bytes4 r.number ++
      [byteOf (stateCode r.state), r.vaults,
       byteOf (bit r.escortRequired + 2 * bit r.mayEscort + 4 * bit r.schedule.isSome + 8 * bit r.expiry.isSome
         + 16 * bit r.uses.isSome),
       byteOf (r.schedule.getD 0)] ++
      bytes2 (r.expiry.getD 0) ++ bytes2 (r.uses.getD 0) ++
      [byteOf (16 * (digitsOf r.pin).length + (digitsOf r.duress).length)] ++
      List.replicate 8 0xFF#8 ++ [byteOf r.revision, 0x5C#8] := rfl

/-- Two slots that differ in the digits of a record alone are reported alike. -/
theorem slotReport_congr {s t : State} {n : Nat} {r r' : CredRecord} (hs : s.slotContent n = .held r)
    (ht : t.slotContent n = .held r')
    (hr : { r with pin := none, duress := none } = { r' with pin := none, duress := none })
    (hp : (digitsOf r.pin).length = (digitsOf r'.pin).length)
    (hd : (digitsOf r.duress).length = (digitsOf r'.duress).length) (hcfg : s.cfg = t.cfg)
    (hf : s.failures = t.failures) (hq : (s.nva.queued (.slot n)).isSome = (t.nva.queued (.slot n)).isSome) :
    s.slotReport n = t.slotReport n := by
  simp only [CredRecord.mk.injEq] at hr
  obtain ⟨hn, hst, hv, he, hm, hsch, hex, hu, -, -, hrev⟩ := hr
  have hb : reportBytes (.held r) = reportBytes (.held r') := by
    rw [reportBytes_held, reportBytes_held, hn, hst, hv, he, hm, hsch, hex, hu, hp, hd, hrev]
  simp [State.slotReport, hs, ht, hb, hq, hcfg, hf, hn, hrev, State.inBand, SlotContent.revision, SlotContent.number,
    State.failureEntry, State.atLimit]

theorem lookupCredential_congr {s t : State} {k n : Nat} {r r' : CredRecord} (hs : s.slotContent n = .held r)
    (ht : t.slotContent n = .held r') (his : s.slotOf k = some n) (hit : t.slotOf k = some n)
    (h : s.slotReport n = t.slotReport n) : ∃ a, lookupCredential k s = (s, a) ∧ lookupCredential k t = (t, a) := by
  cases hb : badNumber k with
  | true => exact ⟨_, onNumber_bad hb _ s, onNumber_bad hb _ t⟩
  | false => exact ⟨_, lookupCredential_eq hb his hs, by rw [lookupCredential_eq hb hit ht, h]; rfl⟩

theorem readSlot_congr {s t : State} {n : Nat} (h : s.slotReport n = t.slotReport n) :
    ∃ a, readSlot n s = (s, a) ∧ readSlot n t = (t, a) := by
  by_cases hn : n < 2048
  · exact ⟨_, readSlot_eq hn s, by rw [readSlot_eq hn t, h]; rfl⟩
  · exact ⟨_, if_pos (Nat.not_lt.1 hn), if_pos (Nat.not_lt.1 hn)⟩

/-- Settles O16: a report reads nothing of a code but its length. -/
theorem reportsHideTheDigits : Obligations.ReportsHideTheDigits := by
  unfold Obligations.ReportsHideTheDigits
  intro s t n r r' hs ht hc hc' hi hi' hr hp hd hcfg hf hlink hq
  have hrep : s.slotReport n = t.slotReport n := slotReport_congr hc hc' hr hp hd hcfg hf hq
  obtain ⟨a, hsa, hta⟩ := readSlot_congr hrep
  obtain ⟨b, hsb, htb⟩ := lookupCredential_congr hc hc' hi hi' hrep
  have same (code : Nat) (x : Answer) :
      (s.answered code x.status x.body).link = (t.answered code x.status x.body).link := by
    simp only [State.answered, hlink]
  exact ⟨_, _, hostRequest_unchanged 2 _ hs hsa, hostRequest_unchanged 2 _ ht hta, same 2 a,
    _, _, hostRequest_unchanged 1 _ hs hsb, hostRequest_unchanged 1 _ ht htb, same 1 b⟩

/-! ### Reports of the effective content (O19) -/

/-- The failures that the failure table counts of a number, 0 where it holds no entry (R16). -/
def State.failuresOf (s : State) (k : Nat) : Nat :=
  ((s.failures.find? fun e => e.number = k).map FailureEntry.failures).getD 0

theorem atLimit_eq {s : State} (h : ∀ e ∈ s.failures, 0 < e.failures) (k : Nat) :
    s.atLimit k = decide (0 < s.failuresOf k ∧ s.cfg.site.failureLimit ≤ s.failuresOf k) := by
  unfold State.atLimit State.failureEntry State.failuresOf
  cases he : s.failures.find? fun e => e.number = k with
  | none => simp
  | some e => simp [h e (List.mem_of_find?_eq_some he)]

theorem slotReport_failures {s : State} {n k : Nat} (hc : (s.slotContent n).number = some k) :
    (s.slotReport n).failures = s.failuresOf k := by
  simp only [State.slotReport, hc, Option.bind_some, State.failureEntry, State.failuresOf]
  cases s.failures.find? fun e => e.number = k <;> rfl

theorem slotReport_atLimit {s : State} {n k : Nat} (hc : (s.slotContent n).number = some k) :
    (s.slotReport n).atLimit = s.atLimit k := by
  simp only [State.slotReport, hc]

/-- The report of a slot that holds a record. -/
theorem slotReport_held {s : State} {n : Nat} {r : CredRecord} (hc : s.slotContent n = .held r)
    (hf : ∀ e ∈ s.failures, 0 < e.failures) :
    s.slotReport n =
      { slot := n, inBand := s.inBand n, queued := (s.nva.queued (.slot n)).isSome
        image := reportBytes (s.slotContent n), revision := (s.slotContent n).revision
        failures := s.failuresOf r.number
        atLimit := decide (0 < s.failuresOf r.number ∧ s.cfg.site.failureLimit ≤ s.failuresOf r.number) } := by
  have hn : (s.slotContent n).number = some r.number := by rw [hc]; rfl
  rw [← atLimit_eq hf, ← slotReport_atLimit hn, ← slotReport_failures hn]
  rfl

/-- The report of a slot that holds none. -/
theorem slotReport_empty {s : State} {n : Nat} (hc : (s.slotContent n).number = none) :
    s.slotReport n =
      { slot := n, inBand := s.inBand n, queued := (s.nva.queued (.slot n)).isSome
        image := reportBytes (s.slotContent n), revision := (s.slotContent n).revision
        failures := 0, atLimit := false } := by
  simp only [State.slotReport, hc, Option.bind_none]

theorem lowestFree_eq_some {s : State} {n : Nat} (hn : n < 2048 - s.cfg.site.bandSize) (hf : s.slotContent n = .free)
    (hlow : ∀ m, m < n → s.slotContent m ≠ .free) : s.lowestFree = some n := by
  unfold State.lowestFree
  rw [List.find?_range_eq_some]
  exact ⟨by simpa using hf, List.mem_range.2 hn, fun m hm => by simpa using hlow m hm⟩

theorem lowestFree_eq_none {s : State} (h : ∀ n, n < 2048 - s.cfg.site.bandSize → s.slotContent n ≠ .free) :
    s.lowestFree = none := by
  unfold State.lowestFree
  rw [List.find?_eq_none]
  exact fun n hn => by simpa using h n (List.mem_range.1 hn)

/-- Settles O19, from the report of a slot and the lowest free slot. -/
theorem credentialReadsReportTheEffectiveContent : Obligations.CredentialReadsReportTheEffectiveContent := by
  unfold Obligations.CredentialReadsReportTheEffectiveContent
  intro s hs
  refine ⟨fun k n r h0 hk hi hc hr hf => ?_, fun n r hn hc hf => ?_, fun n hn hc => ?_, fun n hn hc hlow => ?_,
    fun h => ?_⟩
  · subst hr
    have h := lookupCredential_eq (badNumber_eq_false h0 hk) hi hc
    rw [slotReport_held hc hf] at h
    exact hostRequest_ok hs h
  · have h := readSlot_eq hn s
    rw [slotReport_held hc hf] at h
    exact hostRequest_ok hs h
  · have h := readSlot_eq hn s
    rw [slotReport_empty (by rcases hc with hc | hc <;> rw [hc] <;> rfl)] at h
    exact hostRequest_ok hs h
  · have h : findFreeSlot s = ok (.freeSlot n) s := by
      unfold findFreeSlot
      rw [lowestFree_eq_some hn hc hlow]
    exact hostRequest_ok hs h
  · have hn : findFreeSlot s = refuse .notFound s := by
      unfold findFreeSlot
      rw [lowestFree_eq_none h]
    exact hostRequest_refuse hs hn

end Sys2Proof.Machine

namespace Sys2Proof.Machine

/-! ## A write placed for a slot -/

/-- The entry of a target replaced by a new image, its attempts cleared (R29). -/
def QueueEntry.replacedBy (i : Image) (e : QueueEntry) : QueueEntry :=
  if e.image.target = i.target then { image := i, attempts := 0 } else e

theorem QueueEntry.replacedBy_target (i : Image) (e : QueueEntry) :
    (e.replacedBy i).image.target = e.image.target := by
  unfold QueueEntry.replacedBy
  split
  · next h => exact h.symm
  · rfl

theorem Nva.place_queue (n : Nva) (i : Image) : (n.place i).queue =
    if (n.queued i.target).isSome then n.queue.map (QueueEntry.replacedBy i)
    else n.queue ++ [{ image := i, attempts := 0 }] := by
  unfold Nva.place
  split <;> rfl

/-- The queue after an image is placed: its target's entry is the image's, every other target's the one it was. -/
theorem Nva.queued_place (n : Nva) (i : Image) (t : Target) :
    (n.place i).queued t = if t = i.target then some { image := i, attempts := 0 } else n.queued t := by
  have same : (fun e : QueueEntry => decide (e.image.target = t)) ∘ QueueEntry.replacedBy i =
      fun e => decide (e.image.target = t) :=
    funext fun e => by simp [QueueEntry.replacedBy_target]
  unfold Nva.queued
  rw [Nva.place_queue]
  split
  · next h =>
    obtain ⟨e, he⟩ := Option.isSome_iff_exists.1 h
    rw [List.find?_map, same]
    split
    · next ht =>
      have het : e.image.target = i.target := by simpa using List.find?_some he
      subst ht
      unfold Nva.queued at he
      rw [he, Option.map_some, QueueEntry.replacedBy, if_pos het]
    · next ht =>
      cases hq : n.queue.find? fun e => e.image.target = t with
      | none => rfl
      | some x =>
        have hx : x.image.target = t := by simpa using List.find?_some hq
        rw [Option.map_some, QueueEntry.replacedBy, if_neg (hx ▸ ht)]
  · next h =>
    have hn : n.queued i.target = none := by simpa using h
    unfold Nva.queued at hn
    rw [List.find?_append]
    split
    · next ht => subst ht; simp [hn]
    · next ht => simp [Ne.symm ht]

/-- The position of a write once it is placed: that of the entry it replaces, or the end (R15, R29). -/
theorem Nva.position_place (n : Nva) (i : Image) : (n.place i).position i.target =
    if (n.queued i.target).isSome then n.position i.target else n.queue.length + 1 := by
  have same : (fun e : QueueEntry => decide (e.image.target = i.target)) ∘ QueueEntry.replacedBy i =
      fun e => decide (e.image.target = i.target) :=
    funext fun e => by simp [QueueEntry.replacedBy_target]
  unfold Nva.position
  rw [Nva.place_queue]
  by_cases h : (n.queued i.target).isSome = true
  · rw [if_pos h, if_pos h, List.findIdx?_map, same]
  · rw [if_neg h, if_neg h]
    have hn : n.queue.findIdx? (fun e => e.image.target = i.target) = none := by
      simpa [List.findIdx?_eq_none_iff, Nva.queued] using h
    simp [List.findIdx?_append, hn]

/-- The content that a queued image gives its slot (R4). -/
def contentOf : Option CredRecord → SlotContent
  | none => .free
  | some r => .held r

/-- A slot reads the image queued for it, or what the store holds of it (R4). -/
theorem State.slotContent_queued {s : State} {n : Nat} {ro : Option CredRecord} {a : Nat}
    (h : s.nva.queued (.slot n) = some { image := .slot n ro, attempts := a }) : s.slotContent n = contentOf ro := by
  unfold State.slotContent
  rw [h]
  cases ro <;> rfl

theorem State.slotContent_congr {s t : State} {n : Nat} (hq : t.nva.queued (.slot n) = s.nva.queued (.slot n))
    (hd : t.nva.damagedSlots = s.nva.damagedSlots) (he : t.nva.erase = s.nva.erase) (ha : t.array = s.array) :
    t.slotContent n = s.slotContent n := by
  simp only [State.slotContent, State.storedContent, hq, hd, he, ha]

theorem Nva.place_damagedSlots (n : Nva) (i : Image) : (n.place i).damagedSlots = n.damagedSlots := by
  unfold Nva.place
  split <;> rfl

theorem Nva.place_erase (n : Nva) (i : Image) : (n.place i).erase = n.erase := by
  unfold Nva.place
  split <;> rfl

/-- All that placing a slot's image does: the queue, the attempt in flight and the number index change. -/
theorem place_slot_eq (n : Nat) (ro : Option CredRecord) (s : State) :
    ∃ x, place (.slot n ro) s =
      { s with
        nva := { s.nva.place (.slot n ro) with inFlight := x }
        index := reindex n (s.slotContent n).number (ro.map CredRecord.number) s.index } :=
  ⟨_, by unfold place; rw [startAttempt_eq, startAttempt_nva]; rfl⟩

/-- The slot reads what is placed for it, and every other slot reads as before. -/
theorem place_slotContent (n : Nat) (ro : Option CredRecord) (s : State) (m : Nat) :
    (place (.slot n ro) s).slotContent m = if m = n then contentOf ro else s.slotContent m := by
  obtain ⟨x, hx⟩ := place_slot_eq n ro s
  rw [hx]
  have hq := s.nva.queued_place (.slot n ro) (.slot m)
  split
  · next h =>
    subst h
    exact State.slotContent_queued (hq.trans (if_pos rfl))
  · next h =>
    refine State.slotContent_congr (hq.trans (if_neg fun he => h (Target.slot.inj he))) ?_ ?_ rfl
    · exact Nva.place_damagedSlots _ _
    · exact Nva.place_erase _ _

/-- The position that the answer to a placed write reports. -/
theorem place_position (n : Nat) (ro : Option CredRecord) (s : State) :
    (place (.slot n ro) s).nva.position (.slot n) = s.placing (.slot n) := by
  obtain ⟨x, hx⟩ := place_slot_eq n ro s
  rw [hx]
  exact s.nva.position_place (.slot n ro)

/-- The number index after a slot's content changes. -/
theorem lookupAt_reindex {index : List (Nat × Nat)} (h : risingFrom none index = true) (n : Nat) (old new : Option Nat)
    (k : Nat) : lookupAt k (reindex n old new index) =
      if new = some k then some n else if old = some k then none else lookupAt k index := by
  have hw : lookupAt k (reindex n old none index) = if old = some k then none else lookupAt k index := by
    cases old with
    | none => simp [reindex]
    | some j => simp [reindex, lookupAt_removeAt j k index h, eq_comm]
  cases new with
  | none => simpa using hw
  | some j =>
    have hi := lookupAt_insertAt j k n _ (rising_reindex n old none h)
    rw [hw] at hi
    exact hi.trans (by simp [eq_comm])

end Sys2Proof.Machine

namespace Sys2Proof.Machine

/-! ## The changes of a slot (O20, O21, O22) -/

theorem State.settledNumber_congr {s t : State} (hd : t.nva.damagedSlots = s.nva.damagedSlots)
    (hu : t.nva.unsettled = s.nva.unsettled) (ha : t.array = s.array) (n : Nat) :
    t.settledNumber n = s.settledNumber n := by
  simp only [State.settledNumber, hd, hu, ha]

/-- A placed write leaves every slot the number that its array content holds (R6). -/
theorem place_settledNumber (n : Nat) (ro : Option CredRecord) (s : State) (m : Nat) :
    (place (.slot n ro) s).settledNumber m = s.settledNumber m := by
  obtain ⟨x, hx⟩ := place_slot_eq n ro s
  rw [hx]
  refine State.settledNumber_congr ?_ ?_ ?_ m
  · exact Nva.place_damagedSlots _ _
  · exact Nva.place_unsettled _ _
  · rfl

/-- `t` is `s` with an image queued for a slot, the failure table that R11 leaves, and an accepted request answered. -/
structure State.Placed (s t : State) (n : Nat) (ro : Option CredRecord) (failures : List FailureEntry) (code : Nat)
    (body : Body) : Prop where
  content : t.slotContent n = contentOf ro
  others : ∀ m, m ≠ n → t.slotContent m = s.slotContent m
  index : ∀ k, t.slotOf k =
    if ro.map CredRecord.number = some k then some n
    else if (s.slotContent n).number = some k then none else s.slotOf k
  failures : t.failures = failures
  queue : t.nva.queue = (s.nva.place (.slot n ro)).queue
  settled : ∀ m, t.settledNumber m = s.settledNumber m
  link : t.link = s.link.answered code .ok body
  rest : t = { s with nva := t.nva, index := t.index, failures := t.failures, link := t.link }

/-- A request whose owner places an image for a slot, with entries of the failure table forgotten. -/
theorem hostRequest_placed {code : Nat} {f : Service} {s : State} (h : s.ready) (hs : s.storeSound = true) {n : Nat}
    {ro : Option CredRecord} {failures : List FailureEntry} {body : Body}
    (hf : f s = ok body (place (.slot n ro) (s.withFailures failures))) :
    ∃ t, hostRequest code f s = .next t ∧ s.Placed t n ro failures code body := by
  obtain ⟨-, -, hi, -, -⟩ := (storeSound_iff s).1 hs
  have hc := place_slotContent n ro (s.withFailures failures)
  have hm := place_settledNumber n ro (s.withFailures failures)
  obtain ⟨x, hx⟩ := place_slot_eq n ro (s.withFailures failures)
  rw [hx] at hf hc hm
  refine ⟨_, hostRequest_answered code f h (by rw [hf]; rfl), ?_⟩
  rw [hf]
  refine ⟨(hc n).trans (if_pos rfl), fun m hm => (hc m).trans (if_neg hm), fun k => ?_, rfl, rfl, fun m => ?_, rfl, rfl⟩
  · exact lookupAt_reindex hi n _ _ k
  · exact hm m

theorem changed_place (n : Nat) (ro : Option CredRecord) (s : State) :
    changed n (place (.slot n ro) s) =
      ok (.change n (contentOf ro).revision (s.placing (.slot n))) (place (.slot n ro) s) := by
  unfold changed
  rw [place_slotContent, if_pos rfl, place_position]

/-! ### The checks that a change of a slot passes -/

/-- A slot out of the band, or in it in MAINTENANCE, is not protected (R7). -/
theorem State.protects_eq_false {s : State} {n : Nat} (h : 2048 - s.cfg.site.bandSize ≤ n → s.mode = .maintenance) :
    s.protects n = false := by
  simpa [State.protects, State.inBand, Config.slotCount] using h

theorem onSlot_passed {s : State} {n : Nat} (hn : n < 2048) (hp : s.protects n = false) (f : SlotContent → Service) :
    onSlot n f s = f (s.slotContent n) s := by
  simp [onSlot, Config.slotCount, Nat.not_le.2 hn, hp]

theorem onRecord_passed {s : State} {n : Nat} {r : CredRecord} (hb : badNumber r.number = false)
    (hi : s.slotOf r.number = some n) (hc : s.slotContent n = .held r) (hp : s.protects n = false)
    (f : Nat → CredRecord → Service) : onRecord r.number f s = f n r s := by
  unfold onRecord
  rw [onNumber_held hb hi hc, hp]
  rfl

theorem forgetSome_eq (number : Option Nat) (s : State) :
    forgetSome number s = s.withFailures (s.failures.filter fun e => number ≠ some e.number) := by
  cases number with
  | none => simp [forgetSome]; rfl
  | some k => simp [forgetSome, forget, eq_comm]

theorem forget_forgetSome (k : Nat) (number : Option Nat) (s : State) :
    forget k (forgetSome number s) =
      s.withFailures (s.failures.filter fun e => e.number ≠ k ∧ number ≠ some e.number) := by
  rw [forgetSome_eq]
  simp only [forget, State.withFailures_failures, List.filter_filter, ← Bool.decide_and]
  rfl

/-! ### PURGE (O22) -/

/-- Settles O22: the FREE image is placed, and what the slot's array content holds stands until the write settles. -/
theorem purgeFreesTheSlot : Obligations.PurgeFreesTheSlot := by
  unfold Obligations.PurgeFreesTheSlot
  intro s n h hs hn hband hfree huse hbusy
  have hf : purge n s = ok (.change n 0 (s.placing (.slot n))) (place (.slot n none)
      (s.withFailures (s.failures.filter fun e => (s.slotContent n).number ≠ some e.number))) := by
    have hu : (s.slotContent n).number.any s.inUse = false := by
      cases hk : (s.slotContent n).number with
      | none => rfl
      | some k => exact huse k hk
    unfold purge
    rw [onSlot_passed hn (State.protects_eq_false hband), if_neg hfree, hu, hbusy, changed_place, forgetSome_eq]
    rfl
  obtain ⟨t, ht, hp⟩ := hostRequest_placed h hs hf
  refine ⟨t, ht, hp.content, hp.others, ?_, hp.failures, hp.queue, fun k hk => ?_, hp.link, hp.rest⟩
  · exact fun k => (hp.index k).trans (if_neg (by simp))
  · have hk' : t.settledNumber n = some k := (hp.settled n).trans hk
    exact ⟨hk', fun m hm => (State.numberTaken_iff t k m).2 (.inl ⟨n, hm.symm, hk'⟩)⟩

/-! ### WRITE-CREDENTIAL (O20) -/

theorem badFields_eq_false {w : CredentialWrite} {st : CredState} (h0 : 0 < w.number) (hn : w.number ≤ 4294967294)
    (hst : w.state = some st) (hsch : ∀ n, w.schedule = some n → n < 32) (hex : ∀ d, w.expiry = some d → d ≤ 65534)
    (hu : ∀ u, w.uses = some u → 0 < u ∧ u ≤ 65535) (he : (w.escortRequired && w.mayEscort) = false) :
    badFields w = false := by
  have hs : (match w.schedule with | none => false | some n => decide (Config.scheduleCount ≤ n)) = false := by
    cases hw : w.schedule with
    | none => rfl
    | some n => simpa [Config.scheduleCount] using hsch n hw
  have he' : (match w.expiry with | none => false | some d => decide (65534 < d)) = false := by
    cases hw : w.expiry with
    | none => rfl
    | some d => simpa using hex d hw
  have hu' : (match w.uses with | none => false | some u => decide (u = 0) || decide (65535 < u)) = false := by
    cases hw : w.uses with
    | none => rfl
    | some u => simpa [Nat.pos_iff_ne_zero] using hu u hw
  unfold badFields
  rw [badNumber_eq_false h0 hn, hst, he]
  simp only [Option.isNone_some, Bool.or_false, Bool.false_or, Bool.or_eq_false_iff]
  exact ⟨⟨hs, he'⟩, hu'⟩

/-- The codes of a write that passes check 4 of R18: those kept, or those given. -/
theorem secrets_passed {x : Secrets} {c : SlotContent} {pin duress : Option (List Nat)}
    (h : (x = .keep ∧ ∃ old, c = .held old ∧ pin = old.pin ∧ duress = old.duress)
      ∨ (x = .give pin duress ∧ (∀ p, pin = some p → goodCode p = true)
          ∧ (∀ d, duress = some d → goodCode d = true ∧ pin ≠ none ∧ pin ≠ some d))) :
    badSecrets x c = false ∧ secretCodes x c = (pin, duress) := by
  rcases h with ⟨rfl, old, rfl, rfl, rfl⟩ | ⟨rfl, hp, hd⟩
  · exact ⟨rfl, rfl⟩
  · refine ⟨?_, rfl⟩
    cases pin <;> cases duress <;> simp_all [badSecrets]

/-- Settles O20, check by check. -/
theorem writeCredentialFormsTheRecord : Obligations.WriteCredentialFormsTheRecord := by
  unfold Obligations.WriteCredentialFormsTheRecord
  intro s w st pin duress h hs hn hband h0 hmax hst hsch hex hu hesc hsec hexp huse htaken hbusy record
  have hbad := badFields_eq_false h0 hmax hst hsch hex hu hesc
  obtain ⟨hsecrets, hcodes⟩ := secrets_passed hsec
  have hrev : (w.expected.any fun e => decide (e ≠ (s.slotContent w.slot).revision)) = false := by
    cases he : w.expected with
    | none => rfl
    | some e => simpa using hexp e he
  have hlose : s.losesInUse (s.slotContent w.slot) w.number = false := by
    unfold State.losesInUse
    cases hk : (s.slotContent w.slot).number with
    | none => rfl
    | some k => simpa [← Bool.not_eq_true, not_and] using huse k hk
  have hrecord : { writtenRecord w (s.slotContent w.slot) with
      revision := (s.slotContent w.slot).nextRevision } = record := by
    unfold writtenRecord
    rw [hst, hcodes]
    rfl
  have hplace (failures : List FailureEntry) :
      placeRecord w.slot (writtenRecord w (s.slotContent w.slot)) (s.withFailures failures) =
        place (.slot w.slot (some record)) (s.withFailures failures) :=
    congrArg (fun r => place (.slot w.slot (some r)) (s.withFailures failures)) hrecord
  have hf : writeCredential w s = ok (.change w.slot record.revision (s.placing (.slot w.slot)))
      (place (.slot w.slot (some record)) (s.withFailures (s.failures.filter fun e =>
        e.number ≠ w.number ∧ (s.slotContent w.slot).number ≠ some e.number))) := by
    unfold writeCredential
    rw [onSlot_passed hn (State.protects_eq_false hband), hbad, hsecrets, hrev, hlose, htaken, hbusy,
      forget_forgetSome, hplace, changed_place]
    rfl
  obtain ⟨t, ht, hp⟩ := hostRequest_placed h hs hf
  refine ⟨t, ht, hp.content, hp.others, ?_, ?_, hp.failures, hp.queue, hp.link, hp.rest⟩
  · exact (hp.index _).trans (if_pos rfl)
  · exact fun k hk => (hp.index k).trans (if_neg fun e => hk (Option.some.inj e).symm)

/-! ### GRANT-VAULTS, REVOKE-VAULTS, SUSPEND, REINSTATE and RETIRE (O21) -/

/-- A record placed for the slot that its number stands at. -/
theorem State.Placed.recordQueued {s t : State} {n : Nat} {r : CredRecord} {failures : List FailureEntry} {code : Nat}
    {body : Body} (h : s.Placed t n (some r) failures code body) (hi : s.slotOf r.number = some n)
    (hc : (s.slotContent n).number = some r.number) : s.recordQueued t n r := by
  refine ⟨h.content, h.others, fun k => ?_, h.queue, h.rest⟩
  rw [h.index, hc, Option.map_some]
  split
  · next hk => exact (Option.some.inj hk ▸ hi).symm
  · rfl

theorem changeVaults_same {s : State} {n : Nat} {r : CredRecord} {next : VaultSet → VaultSet}
    (hb : badNumber r.number = false) (hi : s.slotOf r.number = some n) (hc : s.slotContent n = .held r)
    (hp : s.protects n = false) (hv : next r.vaults = r.vaults) :
    changeVaults r.number next s = ok (.vaultsChanged n r.vaults r.vaults r.revision 0) s := by
  unfold changeVaults
  rw [onRecord_passed hb hi hc hp, if_pos hv]

theorem placeRecord_held {s : State} {n : Nat} {r : CredRecord} (hc : s.slotContent n = .held r) (r' : CredRecord)
    (failures : List FailureEntry) :
    placeRecord n r' (s.withFailures failures) =
      place (.slot n (some { r' with revision := if r.revision = 255 then 1 else r.revision + 1 }))
        (s.withFailures failures) := by
  have hr : ((s.withFailures failures).slotContent n).nextRevision =
      if r.revision = 255 then 1 else r.revision + 1 := by
    show (s.slotContent n).nextRevision = _
    rw [hc]
    rfl
  unfold placeRecord
  rw [hr]

theorem changeVaults_other {s : State} {n : Nat} {r : CredRecord} {next : VaultSet → VaultSet}
    (hb : badNumber r.number = false) (hi : s.slotOf r.number = some n) (hc : s.slotContent n = .held r)
    (hp : s.protects n = false) (hv : next r.vaults ≠ r.vaults) (hbusy : s.storeBusy = false) :
    changeVaults r.number next s =
      ok (.vaultsChanged n r.vaults (next r.vaults) (if r.revision = 255 then 1 else r.revision + 1)
          (s.placing (.slot n)))
        (place (.slot n (some { r with
          vaults := next r.vaults, revision := if r.revision = 255 then 1 else r.revision + 1 }))
          (s.withFailures s.failures)) := by
  have hs : placeRecord n { r with vaults := next r.vaults } s = _ :=
    placeRecord_held hc { r with vaults := next r.vaults } s.failures
  unfold changeVaults
  rw [onRecord_passed hb hi hc hp, if_neg hv, hbusy]
  simp only [Bool.false_eq_true, if_false, hs, place_slotContent, if_true, place_position]
  rfl

/-- The state of a record changed, and its number's failure entry removed (R20 to R22). -/
theorem changed_state {s : State} {n : Nat} {r : CredRecord} (hc : s.slotContent n = .held r) (st : CredState) :
    changed n (placeRecord n { r with state := st } (forget r.number s)) =
      ok (.change n (if r.revision = 255 then 1 else r.revision + 1) (s.placing (.slot n)))
        (place (.slot n (some { r with
          state := st, revision := if r.revision = 255 then 1 else r.revision + 1 }))
          (s.withFailures (s.failuresWithout r.number))) :=
  (congrArg (changed n) (placeRecord_held hc { r with state := st } _)).trans (changed_place _ _ _)

/-- Settles O21: each change is a record placed for the slot of its number. -/
theorem changesOfARecord : Obligations.ChangesOfARecord := by
  unfold Obligations.ChangesOfARecord
  refine ⟨fun s n r x h hs h0 hmax hi hc hband => ?_, fun s n r h hs h0 hmax hi hc hband hbusy => ?_⟩
  all_goals
    have hb := badNumber_eq_false h0 hmax
    have hp := State.protects_eq_false hband
    have hnum : (s.slotContent n).number = some r.number := by rw [hc]; rfl
    intro rev
  · have other (code : Nat) (next : VaultSet → VaultSet) (hv : next r.vaults ≠ r.vaults) (hbusy : s.storeBusy = false) :
        ∃ t, hostRequest code (changeVaults r.number next) s = .next t
          ∧ s.recordQueued t n { r with vaults := next r.vaults, revision := rev } ∧ t.failures = s.failures
          ∧ t.link = s.link.answered code .ok (.vaultsChanged n r.vaults (next r.vaults) rev (s.placing (.slot n))) :=
      let ⟨t, ht, hq⟩ := hostRequest_placed h hs (changeVaults_other hb hi hc hp hv hbusy)
      ⟨t, ht, hq.recordQueued hi hnum, hq.failures, hq.link⟩
    exact ⟨fun hv => hostRequest_ok h (changeVaults_same hb hi hc hp hv),
      fun hv => hostRequest_ok h (changeVaults_same hb hi hc hp hv),
      other 4 fun v => v ||| x, other 5 fun v => v &&& ~~~x⟩
  · intro queued
    have changes {code : Nat} {c : Instr} {st : CredState} {f : Service} (he : exec c = hostRequest code f)
        (hf : f s = changed n (placeRecord n { r with state := st } (forget r.number s))) : queued code c st := by
      obtain ⟨t, ht, hq⟩ := hostRequest_placed h hs (hf.trans (changed_state hc st))
      exact ⟨t, he ▸ ht, hq.recordQueued hi hnum, hq.failures, hq.link⟩
    refine ⟨fun hst => changes rfl ?_, fun hst => changes rfl ?_, fun hst => ?_, fun hst => changes rfl ?_⟩
    · unfold suspend
      rw [onRecord_passed hb hi hc hp, if_neg (by simp [hst]), hbusy]
      rfl
    · unfold reinstate
      rw [onRecord_passed hb hi hc hp]
      simp only [hst, hbusy]
      rfl
    · have hf : reinstate r.number s = ok (.change n r.revision 0) (forget r.number s) := by
        unfold reinstate
        rw [onRecord_passed hb hi hc hp]
        simp only [hst]
      refine (hostRequest_answered 7 (reinstate r.number) h (by rw [hf]; rfl)).trans ?_
      rw [hf]
      rfl
    · unfold retire
      rw [onRecord_passed hb hi hc hp, if_neg hst, hbusy]
      rfl

end Sys2Proof.Machine

namespace Sys2Proof.Machine

/-! ## Raises, damage and the start of an attempt -/

/-! ### What a raise does -/

/-- A raise changes the alarm table and the link's waiting set alone. -/
theorem raised_eq (key : AlarmKey) (s : State) :
    raised key s = { s with atu := (raised key s).atu, link := (raised key s).link } := by
  unfold raised raise
  dsimp only
  (repeat' split) <;> rfl

/-- A raise into a table with a place stores a record. -/
theorem raise_stored {s : State} (hlt : s.atu.table.length < 48) (key : AlarmKey) :
    (raise key s).2 ≠ .notStored := by
  have hlt' : s.atu.table.length < Config.alarmSize := hlt
  unfold raise
  split
  · exact RaiseAnswer.noConfusion
  · rw [if_pos hlt']
    exact RaiseAnswer.noConfusion

/-- After a raise into a table with a place the condition stands (R189, R191). -/
theorem raised_stands {s : State} (h : s.atu.lawful = true) (hlt : s.atu.table.length < 48) (key : AlarmKey) :
    (raised key s).conditionStands key = true := by
  refine (State.conditionStands_iff (raise_atu_lawful h key) key).2 ?_
  exact (raise_answer h key).elim And.right fun hn => absurd hn.1 (raise_stored hlt key)

/-! ### Damage -/

/-- What the damage of a target does before STORE-FAULT is raised: a slot becomes DAMAGED and its number leaves the index
and the failure table (R4, R33). -/
def State.withDamage (s : State) (number : Option Nat) : Target → State
  | .slot n =>
    let u := s.withNva { s.nva with
      damagedSlots := insertNat n s.nva.damagedSlots
      unsettled := removeAt n s.nva.unsettled }
    match number with
    | none => u
    | some k => forget k (u.withIndex (removeAt k u.index))
  | t => s.withNva { s.nva with damaged := joinTarget t s.nva.damaged }

theorem damage_eq (t : Target) (number : Option Nat) (s : State) :
    damage t number s = raised (storeFaultKey t) (s.withDamage number t) := by
  cases t <;> rfl

theorem State.withDamage_atu (s : State) (number : Option Nat) (t : Target) :
    (s.withDamage number t).atu = s.atu := by
  cases t <;> cases number <;> rfl

/-- Damage changes the sets of damaged targets, the numbers kept, the index, the failure table, the alarm table and the link
alone. -/
theorem damage_fields (t : Target) (number : Option Nat) (s : State) :
    damage t number s =
      { s with
        nva := { s.nva with
          damaged := (damage t number s).nva.damaged
          damagedSlots := (damage t number s).nva.damagedSlots
          unsettled := (damage t number s).nva.unsettled }
        index := (damage t number s).index
        failures := (damage t number s).failures
        atu := (damage t number s).atu
        link := (damage t number s).link } := by
  rw [damage_eq, raised_eq]
  cases t <;> cases number <;> rfl

/-- STORE-FAULT stands after the damage of a target, where the alarm table has a place (R33). -/
theorem damage_stands {s : State} (h : s.atu.lawful = true) (hlt : s.atu.table.length < 48) (t : Target)
    (number : Option Nat) : (damage t number s).conditionStands (storeFaultKey t) = true := by
  rw [damage_eq]
  exact raised_stands (by rw [State.withDamage_atu]; exact h) (by rw [State.withDamage_atu]; exact hlt) _

theorem mem_insertNat (k j : Nat) (l : List Nat) : j ∈ insertNat k l ↔ j = k ∨ j ∈ l := by
  induction l with
  | nil => simp [insertNat]
  | cons i l ih =>
    unfold insertNat
    split
    · simp
    · split
      · next h => subst h; simp
      · simp only [List.mem_cons, ih]
        tauto

theorem mem_joinTarget (t : Target) (l : List Target) : t ∈ joinTarget t l := by
  unfold joinTarget
  split
  · assumption
  · simp

/-! ### The start of an attempt -/

/-- The attempt that starts with no erase pass: on the oldest entry, out of the scan and with the supply good (R31, R35). -/
def State.nextAttempt (s : State) (queue : List QueueEntry) : Option Attempt :=
  if s.phase = .running ∧ s.supply = .good then queue.head?.map fun e => attemptOn e.image else none

theorem startAttempt_idle {s : State} (hi : s.nva.inFlight = none) (he : s.nva.erase = none) :
    startAttempt s = s.withNva { s.nva with inFlight := s.nextAttempt s.nva.queue } := by
  have same : s.withNva { s.nva with inFlight := none } = s := by
    rw [← hi]
    rfl
  unfold startAttempt State.nextAttempt
  rw [he]
  by_cases hp : s.phase = .running ∧ s.supply = .good
  · rw [if_pos hp, if_pos ⟨hp.1, hi, hp.2⟩]
    cases s.nva.queue with
    | nil => exact same.symm
    | cons e rest => rfl
  · rw [if_neg hp, if_neg fun h => hp ⟨h.1, h.2.2⟩]
    exact same.symm

theorem placeOwed_none {s : State} (h : s.nva.owed = false) : placeOwed s = s :=
  if_neg (by simp [h])

end Sys2Proof.Machine

namespace Sys2Proof.Machine

/-! ## Programming attempts settle, retry and damage (O48) -/

/-- The state at the completion of an attempt, before its result is counted: what it leaves in the array, and the numbers
of overwritten cells kept (R32, R35). -/
def State.afterAttempt (s : State) (a : Attempt) (o : AttemptOutcome) : State :=
  { s with
    array := attemptArray a o s.array
    nva := { s.nva with inFlight := none, unsettled := s.keptNumbers a.image.target } }

theorem attemptCompleted_queue {s : State} {a : Attempt} (hi : s.nva.inFlight = some a) (hd : a.discard = false)
    (he : s.nva.erase = none) (o : AttemptOutcome) :
    attemptCompleted o s = startAttempt (queueCompleted (a.settles o) (s.afterAttempt a o)) := by
  unfold attemptCompleted
  rw [hi]
  dsimp only
  rw [hd, if_neg Bool.false_ne_true]
  split
  · next e h => exact absurd (he.symm.trans h) (by simp)
  · rfl

theorem attemptCompleted_discard {s : State} {a : Attempt} (hi : s.nva.inFlight = some a) (hd : a.discard = true)
    (o : AttemptOutcome) : attemptCompleted o s = startAttempt (s.afterAttempt a o) := by
  unfold attemptCompleted
  rw [hi]
  dsimp only
  rw [if_pos hd]
  rfl

theorem attemptCompleted_erase {s : State} {a : Attempt} {e : ErasePass} (hi : s.nva.inFlight = some a)
    (hd : a.discard = false) (he : s.nva.erase = some e) (o : AttemptOutcome) :
    attemptCompleted o s = startAttempt (eraseCompleted e (a.settles o) (s.afterAttempt a o)) := by
  unfold attemptCompleted
  rw [hi]
  dsimp only
  rw [hd, if_neg Bool.false_ne_true]
  split
  · next x h =>
    cases he.symm.trans h
    rfl
  · next h => exact absurd (he.symm.trans h) (by simp)

/-- An attempt that a failed one follows fails its verify, or was spoiled. -/
theorem Attempt.settles_eq_false {a : Attempt} {o : AttemptOutcome} (h : o ≠ .verifyMatches ∨ a.spoiled = true) :
    a.settles o = false := by
  rcases h with h | h <;> simp [Attempt.settles, h]

theorem Attempt.settles_eq_true {a : Attempt} (h : a.spoiled = false) : a.settles .verifyMatches = true := by
  simp [Attempt.settles, h]

/-- What an attempt that is not discarded leaves. -/
theorem attemptArray_kept {a : Attempt} (hd : a.discard = false) (o : AttemptOutcome) (array : NvArray) :
    attemptArray a o array =
      match o with
      | .verifyMatches => array.program a.image
      | .verifyDiffers left => array.leave a.image left := by
  unfold attemptArray
  rw [hd]
  cases o <;> rfl

/-- What a discarded attempt leaves: its image, or content whose check fails (R35). -/
theorem attemptArray_discard {a : Attempt} (hd : a.discard = true) (o : AttemptOutcome) (array : NvArray) :
    attemptArray a o array =
      if o = .verifyMatches ∧ a.spoiled = false then array.program a.image else array.spoil a.image.target := by
  unfold attemptArray Attempt.settles
  rw [hd]
  cases o <;> cases a.spoiled <;> simp [NvArray.leave]

/-- The numbers that the slots hold for the DUPLICATE check stand where no write settles (R6, R32). -/
theorem State.settledNumber_afterAttempt {s t : State} (hs : s.storeSound = true) {a : Attempt} {o : AttemptOutcome}
    (ha : t.array = attemptArray a o s.array) (hk : t.nva.unsettled = s.keptNumbers a.image.target)
    (hd : t.nva.damagedSlots = s.nva.damagedSlots) (n : Nat) : t.settledNumber n = s.settledNumber n := by
  obtain ⟨hc, -, -, hu, -⟩ := (storeSound_iff s).1 hs
  obtain ⟨l, hl⟩ := attemptArray_leaves a o s.array
  exact State.settledNumber_overwritten hc hu (ha.trans hl) hk hd n

/-- An entry that leaves the queue with no write owed: STORE is set where it was the last, and the next attempt starts
(R31, R36). -/
theorem startAttempt_entryLeft {u : State} (ho : u.nva.owed = false) (hi : u.nva.inFlight = none)
    (he : u.nva.erase = none) : startAttempt (entryLeft u) =
      { u with nva := { u.nva with inFlight := u.nextAttempt u.nva.queue }, link := (entryLeft u).link } := by
  unfold entryLeft
  rw [placeOwed_none ho]
  dsimp only
  split
  · exact startAttempt_idle hi he
  · exact startAttempt_idle hi he

theorem entryLeft_store {u : State} (ho : u.nva.owed = false) (hq : u.nva.queue = []) :
    (entryLeft u).link.waiting.store = true := by
  unfold entryLeft
  rw [placeOwed_none ho]
  dsimp only
  rw [if_pos hq]
  rfl

theorem Nva.repaired_eq (n : Nva) (t : Target) :
    n.repaired t = { n with
      damaged := (n.repaired t).damaged, damagedSlots := (n.repaired t).damagedSlots
      unsettled := (n.repaired t).unsettled } := by
  cases t <;> rfl

/-- A slot whose write settles holds the number of the image programmed, and every other slot the one it held (R6). -/
theorem State.settledNumber_settled {s t : State} (hs : s.storeSound = true) {i : Image}
    (ha : t.array = s.array.program i)
    (hd : t.nva.damagedSlots = (s.nva.repaired i.target).damagedSlots)
    (hu : t.nva.unsettled = (Nva.repaired { s.nva with unsettled := s.keptNumbers i.target } i.target).unsettled)
    (n : Nat) :
    (i = .slot n none → t.settledNumber n = none) ∧ (i.target ≠ .slot n → t.settledNumber n = s.settledNumber n) := by
  obtain ⟨hc, -, -, hr, -⟩ := (storeSound_iff s).1 hs
  have hkept := rising_keptNumbers hr i.target
  constructor
  · rintro rfl
    have hl : lookupAt n t.nva.unsettled = none := by
      rw [hu]
      exact (lookupAt_removeAt n n _ hkept).trans (if_pos rfl)
    have hcell : t.array.slotCell n = erasedSlot := by
      rw [ha]
      exact (NvArray.slotCell_storeSlot hc n n _).trans (if_pos rfl)
    unfold State.settledNumber
    rw [hl, hcell, Option.getD_none, cellNumber_erasedSlot]
    split <;> rfl
  · intro hn
    have hcell : t.array.slotCell n = s.array.slotCell n := by rw [ha, NvArray.slotCell_program hc hn]
    have hl : lookupAt n t.nva.unsettled = lookupAt n s.nva.unsettled := by
      rw [hu]
      cases i with
      | slot k r =>
        have hnk : n ≠ k := fun e => hn (e ▸ rfl)
        refine (lookupAt_removeAt k n _ hkept).trans ((if_neg hnk).trans ?_)
        exact (lookupAt_insertAt k n _ _ hr).trans (if_neg hnk)
      | schedule k w => rfl
      | holidays d => rfl
      | config b => rfl
    have hm : n ∈ t.nva.damagedSlots ↔ n ∈ s.nva.damagedSlots := by
      rw [hd]
      cases i with
      | slot k r => exact List.mem_erase_of_ne fun e => hn (e ▸ rfl)
      | schedule k w => exact Iff.rfl
      | holidays d => exact Iff.rfl
      | config b => exact Iff.rfl
    simp only [State.settledNumber, hcell, hl, hm]

end Sys2Proof.Machine

namespace Sys2Proof.Machine

/-! ### The oldest entry of the queue -/

/-- The state in which the oldest entry has settled and left the queue (R31). -/
def State.withSettled (s : State) (a : Attempt) (o : AttemptOutcome) (t : Target) (rest : List QueueEntry) : State :=
  (s.afterAttempt a o).withNva (Nva.repaired { (s.afterAttempt a o).nva with queue := rest } t)

/-- The state in which the oldest entry has left the queue, its target damaged (R33). -/
def State.withDamaged (s : State) (a : Attempt) (o : AttemptOutcome) (i : Image) (rest : List QueueEntry) : State :=
  damage i.target i.number ((s.afterAttempt a o).withNva { (s.afterAttempt a o).nva with queue := rest })

section
variable {s : State} {a : Attempt} {e : QueueEntry} {rest : List QueueEntry} (hi : s.nva.inFlight = some a)
  (hd : a.discard = false) (he : s.nva.erase = none) (hq : s.nva.queue = e :: rest)
include hi hd he hq

/-- A matching verify settles the oldest entry. -/
theorem attemptCompleted_settled (hsp : a.spoiled = false) (ho : s.nva.owed = false) :
    attemptCompleted .verifyMatches s =
      { s.withSettled a .verifyMatches e.image.target rest with
        nva := { (s.withSettled a .verifyMatches e.image.target rest).nva with inFlight := s.nextAttempt rest }
        link := (entryLeft (s.withSettled a .verifyMatches e.image.target rest)).link } := by
  have hr := Nva.repaired_eq { (s.afterAttempt a .verifyMatches).nva with queue := rest } e.image.target
  have hc : queueCompleted true (s.afterAttempt a .verifyMatches) =
      entryLeft (s.withSettled a .verifyMatches e.image.target rest) := by
    unfold queueCompleted
    rw [show (s.afterAttempt a .verifyMatches).nva.queue = e :: rest from hq]
    rfl
  rw [attemptCompleted_queue hi hd he, Attempt.settles_eq_true hsp, hc, startAttempt_entryLeft]
  · unfold State.withSettled
    rw [hr]
    rfl
  · unfold State.withSettled
    rw [hr]
    exact ho
  · unfold State.withSettled
    rw [hr]
    rfl
  · unfold State.withSettled
    rw [hr]
    exact he

/-- A failed one below the maximum is counted, and the next attempt is on the same entry. -/
theorem attemptCompleted_counted {o : AttemptOutcome} (hf : o ≠ .verifyMatches ∨ a.spoiled = true)
    (hm : e.attempts + 1 < s.cfg.site.maxAttempts) :
    attemptCompleted o s =
      { s.afterAttempt a o with
        nva := { (s.afterAttempt a o).nva with
          queue := { e with attempts := e.attempts + 1 } :: rest, inFlight := s.nextAttempt (e :: rest) } } := by
  have hc : queueCompleted false (s.afterAttempt a o) = (s.afterAttempt a o).withNva
      { (s.afterAttempt a o).nva with queue := { e with attempts := e.attempts + 1 } :: rest } := by
    unfold queueCompleted
    rw [show (s.afterAttempt a o).nva.queue = e :: rest from hq]
    exact if_pos hm
  rw [attemptCompleted_queue hi hd he, Attempt.settles_eq_false hf, hc]
  refine (startAttempt_idle ?_ ?_).trans rfl
  · rfl
  · exact he

/-- One at the maximum damages the target. -/
theorem attemptCompleted_damaged {o : AttemptOutcome} (hf : o ≠ .verifyMatches ∨ a.spoiled = true)
    (hm : s.cfg.site.maxAttempts ≤ e.attempts + 1) (ho : s.nva.owed = false) :
    attemptCompleted o s =
      { s.withDamaged a o e.image rest with
        nva := { (s.withDamaged a o e.image rest).nva with inFlight := s.nextAttempt rest }
        link := (entryLeft (s.withDamaged a o e.image rest)).link } := by
  have hc : queueCompleted false (s.afterAttempt a o) = entryLeft (s.withDamaged a o e.image rest) := by
    unfold queueCompleted
    rw [show (s.afterAttempt a o).nva.queue = e :: rest from hq]
    exact if_neg (Nat.not_lt.2 hm)
  have hu := damage_fields e.image.target e.image.number
    ((s.afterAttempt a o).withNva { (s.afterAttempt a o).nva with queue := rest })
  have hn : (s.withDamaged a o e.image rest).nextAttempt (s.withDamaged a o e.image rest).nva.queue =
      s.nextAttempt rest := by
    unfold State.withDamaged
    rw [hu]
    rfl
  rw [attemptCompleted_queue hi hd he, Attempt.settles_eq_false hf, hc, ← hn]
  refine startAttempt_entryLeft ?_ ?_ ?_
  · exact (congrArg (fun u => u.nva.owed) hu).trans ho
  · exact congrArg (fun u => u.nva.inFlight) hu
  · exact (congrArg (fun u => u.nva.erase) hu).trans he

end

/-! ### The clauses of O48 -/

theorem exec_attemptCompletion {s : State} (h : s.awake) (o : AttemptOutcome) :
    exec (.attemptCompletion o) s = .next (attemptCompleted o s) :=
  settledEvent_awake _ h

/-- No entry behind the oldest one is of its target (R28). -/
theorem queued_rest {s : State} (hs : s.storeSound = true) {e : QueueEntry} {rest : List QueueEntry}
    (hq : s.nva.queue = e :: rest) : Nva.queued { s.nva with queue := rest } e.image.target = none := by
  have hn := (s.nva.lawful_iff.1 ((storeSound_iff s).1 hs).2.1).2
  rw [hq, List.map_cons, List.nodup_cons] at hn
  simpa [Nva.queued] using hn.1

/-- A damaged slot with no write queued reads DAMAGED and holds no number (R4, R33). -/
theorem State.slotContent_damaged {s : State} {n : Nat} (hq : s.nva.queued (.slot n) = none)
    (hd : n ∈ s.nva.damagedSlots) : s.slotContent n = .damaged ∧ s.settledNumber n = none := by
  unfold State.slotContent State.storedContent State.settledNumber
  rw [hq]
  exact ⟨if_pos hd, if_pos hd⟩

theorem damage_slot_nva (n : Nat) (number : Option Nat) (s : State) : (damage (.slot n) number s).nva =
    { s.nva with damagedSlots := insertNat n s.nva.damagedSlots, unsettled := removeAt n s.nva.unsettled } := by
  rw [damage_eq, raised_eq]
  cases number <;> rfl

theorem damage_slot_number (n k : Nat) (s : State) :
    (damage (.slot n) (some k) s).index = removeAt k s.index
      ∧ (damage (.slot n) (some k) s).failures = s.failuresWithout k := by
  rw [damage_eq, raised_eq]
  exact ⟨rfl, rfl⟩

theorem damage_damaged {t : Target} (ht : ∀ n, t ≠ .slot n) (number : Option Nat) (s : State) :
    t ∈ (damage t number s).nva.damaged := by
  rw [damage_eq, raised_eq]
  cases t with
  | slot n => exact absurd rfl (ht n)
  | schedule n => exact mem_joinTarget _ _
  | holidays => exact mem_joinTarget _ _
  | config => exact mem_joinTarget _ _

/-- What the maximum of attempts leaves of the target (R33). -/
theorem withDamaged_reads {s : State} (hs : s.storeSound = true) (hl : s.atu.lawful = true) (hroom : s.alarmRoom)
    (a : Attempt) (o : AttemptOutcome) {e : QueueEntry} {rest : List QueueEntry} (hq : s.nva.queue = e :: rest) :
    (s.withDamaged a o e.image rest).conditionStands (storeFaultKey e.image.target) = true
      ∧ (∀ n r, e.image = .slot n r →
          (s.withDamaged a o e.image rest).slotContent n = .damaged
            ∧ (s.withDamaged a o e.image rest).settledNumber n = none
            ∧ (∀ k, r.map CredRecord.number = some k → (s.withDamaged a o e.image rest).slotOf k = none
                ∧ (s.withDamaged a o e.image rest).failures = s.failuresWithout k))
      ∧ ((∀ n, e.image.target ≠ .slot n) → e.image.target ∈ (s.withDamaged a o e.image rest).nva.damaged) := by
  obtain ⟨-, -, hi, -, -⟩ := (storeSound_iff s).1 hs
  have hlt : s.atu.table.length < 48 := by
    have : s.atu.table.length + 4 ≤ 48 := hroom
    omega
  have hatu := @damage_stands ((s.afterAttempt a o).withNva { (s.afterAttempt a o).nva with queue := rest }) hl hlt
    e.image.target e.image.number
  refine ⟨hatu, fun n r hr => ?_, fun hn => damage_damaged hn _ _⟩
  have hrest := queued_rest hs hq
  unfold State.withDamaged
  rw [hr] at hrest ⊢
  have hnva := damage_slot_nva n (Image.number (.slot n r))
    ((s.afterAttempt a o).withNva { (s.afterAttempt a o).nva with queue := rest })
  have hread := State.slotContent_damaged ((congrArg (fun v => Nva.queued v (.slot n)) hnva).trans hrest)
    ((congrArg (fun v : Nva => n ∈ v.damagedSlots) hnva).mpr ((mem_insertNat n n _).2 (.inl rfl)))
  refine ⟨hread.1, hread.2, fun k hk => ?_⟩
  obtain ⟨r, rfl, rfl⟩ := Option.map_eq_some_iff.1 hk
  obtain ⟨hindex, hfail⟩ := damage_slot_number n r.number
    ((s.afterAttempt a o).withNva { (s.afterAttempt a o).nva with queue := rest })
  refine ⟨?_, hfail⟩
  exact (congrArg (lookupAt r.number) hindex).trans ((lookupAt_removeAt _ _ _ hi).trans (if_pos rfl))

/-- What the settled write leaves of the damaged sets, and of the numbers for the DUPLICATE check (R6, R31). -/
theorem withSettled_reads {s : State} (hs : s.storeSound = true) {a : Attempt} (hd : a.discard = false)
    (e : QueueEntry) (rest : List QueueEntry) :
    (∀ n, e.image.target = .slot n →
        (s.withSettled a .verifyMatches e.image.target rest).nva.damagedSlots = s.nva.damagedSlots.erase n
          ∧ (s.withSettled a .verifyMatches e.image.target rest).nva.damaged = s.nva.damaged)
      ∧ ((∀ n, e.image.target ≠ .slot n) →
          (s.withSettled a .verifyMatches e.image.target rest).nva.damaged = s.nva.damaged.erase e.image.target
            ∧ (s.withSettled a .verifyMatches e.image.target rest).nva.damagedSlots = s.nva.damagedSlots)
      ∧ (a.image = e.image → ∀ n,
          (e.image = .slot n none →
              (s.withSettled a .verifyMatches e.image.target rest).settledNumber n = none)
            ∧ (e.image.target ≠ .slot n →
              (s.withSettled a .verifyMatches e.image.target rest).settledNumber n = s.settledNumber n)) := by
  unfold State.withSettled
  refine ⟨fun n hn => ?_, fun hn => ?_, fun hi n => State.settledNumber_settled hs ?_ ?_ ?_ n⟩
  · rw [hn]
    exact ⟨rfl, rfl⟩
  · cases ht : e.image.target with
    | slot n => exact absurd ht (hn n)
    | schedule n => exact ⟨rfl, rfl⟩
    | holidays => exact ⟨rfl, rfl⟩
    | config => exact ⟨rfl, rfl⟩
  · exact (attemptArray_kept hd _ _).trans (by rw [hi])
  · cases e.image <;> rfl
  · unfold State.afterAttempt
    rw [hi]
    cases e.image <;> rfl

/-- The start of an attempt changes neither the array, nor the erase pass, nor the link. -/
theorem startAttempt_keeps (s : State) : (startAttempt s).array = s.array ∧ (startAttempt s).nva.erase = s.nva.erase
    ∧ (startAttempt s).link = s.link := by
  rw [startAttempt_eq, startAttempt_nva]
  exact ⟨rfl, rfl, rfl⟩

/-- The erase pass goes on to its next target, or ends (R42). -/
theorem eraseNext_on {e : ErasePass} (h : e.next < 2081) (s : State) :
    eraseNext e s = s.withNva { s.nva with erase := some { next := e.next + 1, attempts := 0 } } :=
  if_pos (show e.next + 1 < 2082 by omega)

theorem eraseNext_end {e : ErasePass} (h : e.next = 2081) {s : State} (ho : s.nva.owed = false) :
    eraseNext e s = causeStore (s.withNva { s.nva with erase := none }) :=
  (if_neg (show ¬ e.next + 1 < 2082 by omega)).trans (placeOwed_none ho)

theorem eraseCompleted_good (e : ErasePass) (s : State) :
    eraseCompleted e true s = eraseNext e (s.withNva (s.nva.repaired (eraseTarget e.next))) := rfl

theorem eraseCompleted_failed {e : ErasePass} (h : e.attempts < 7) (s : State) :
    eraseCompleted e false s = s.withNva { s.nva with erase := some { e with attempts := e.attempts + 1 } } :=
  if_pos (show e.attempts + 1 < 8 by omega)

/-- Settles O48, from the equation that each kind of completed attempt gives. -/
theorem attemptsSettleRetryAndDamage : Obligations.AttemptsSettleRetryAndDamage := by
  unfold Obligations.AttemptsSettleRetryAndDamage
  intro s h hs hl next leaves
  have hleaves {a : Attempt} (hd : a.discard = false) (o : AttemptOutcome) : attemptArray a o s.array = leaves a o :=
    attemptArray_kept hd o s.array
  refine ⟨fun a e rest hi hd he hq ho => ⟨fun hsp => ?_, fun o hf hm => ?_, fun o hf hm hroom => ?_⟩,
    fun a o hi hd he => ?_, fun a e hi hd he => ⟨fun hsp hlt => ?_, fun hsp hlast ho => ?_, fun o hf hlt => ?_⟩,
    fun hg => ?_, fun hw hp hi he => ?_, fun hw hp => ?_⟩
  · have ht := attemptCompleted_settled hi hd he hq hsp ho
    have hn := Nva.repaired_eq { (s.afterAttempt a .verifyMatches).nva with queue := rest } e.image.target
    obtain ⟨hslot, hother, hnumber⟩ := withSettled_reads hs hd e rest
    refine ⟨_, (exec_attemptCompletion h _).trans (congrArg _ ht), hleaves hd .verifyMatches, congrArg Nva.queue hn, rfl,
      hslot, hother, fun hq => entryLeft_store ?_ ?_, hnumber, rfl⟩
    · exact (congrArg Nva.owed hn).trans ho
    · exact (congrArg Nva.queue hn).trans hq
  · have ht := attemptCompleted_counted hi hd he hq hf hm
    refine ⟨_, (exec_attemptCompletion h _).trans (congrArg _ ht), hleaves hd o, rfl, rfl, ?_, rfl⟩
    exact State.settledNumber_afterAttempt hs rfl rfl rfl
  · have ht := attemptCompleted_damaged hi hd he hq hf hm ho
    have hu := damage_fields e.image.target e.image.number
      ((s.afterAttempt a o).withNva { (s.afterAttempt a o).nva with queue := rest })
    refine ⟨_, (exec_attemptCompletion h _).trans (congrArg _ ht), ?_, ?_, rfl, withDamaged_reads hs hl hroom a o hq⟩
    · exact (congrArg State.array hu).trans (hleaves hd o)
    · exact congrArg (fun u => u.nva.queue) hu
  · have ht := (attemptCompleted_discard hi hd o).trans (startAttempt_idle (by rfl) he)
    refine ⟨_, (exec_attemptCompletion h _).trans (congrArg _ ht), attemptArray_discard hd o s.array, ?_, rfl⟩
    exact State.settledNumber_afterAttempt hs rfl rfl rfl
  · have ht := attemptCompleted_erase hi hd he .verifyMatches
    rw [Attempt.settles_eq_true hsp, eraseCompleted_good, eraseNext_on hlt] at ht
    obtain ⟨ha, hx, -⟩ := startAttempt_keeps _
    exact ⟨_, (exec_attemptCompletion h _).trans (congrArg _ ht), ha.trans (hleaves hd .verifyMatches), hx⟩
  · have ht := attemptCompleted_erase hi hd he .verifyMatches
    have howed := congrArg Nva.owed (Nva.repaired_eq (s.afterAttempt a .verifyMatches).nva (eraseTarget e.next))
    rw [Attempt.settles_eq_true hsp, eraseCompleted_good, eraseNext_end hlast (howed.trans ho)] at ht
    obtain ⟨ha, hx, hlink⟩ := startAttempt_keeps _
    exact ⟨_, (exec_attemptCompletion h _).trans (congrArg _ ht), ha.trans (hleaves hd .verifyMatches), hx,
      congrArg (fun l : Link => l.waiting.store) hlink⟩
  · have ht := attemptCompleted_erase hi hd he o
    rw [Attempt.settles_eq_false hf, eraseCompleted_failed hlt] at ht
    obtain ⟨ha, hx, -⟩ := startAttempt_keeps _
    exact ⟨_, (exec_attemptCompletion h _).trans (congrArg _ ht), ha.trans (hleaves hd o), hx⟩
  · exact (settledEvent_awake writeLow h).trans (congrArg _ (if_pos hg))
  · refine (settledEvent_awake supplyReturned h).trans (congrArg _ ((if_pos hw).trans ?_))
    have hn : State.nextAttempt { s with supply := .good } s.nva.queue =
        s.nva.queue.head?.map fun e => attemptOn e.image := if_pos ⟨hp, rfl⟩
    rw [@startAttempt_idle { s with supply := .good } hi he, hn]
    rfl
  · refine (settledEvent_awake supplyReturned h).trans (congrArg _ ((if_pos hw).trans (if_neg ?_)))
    exact fun hc => Phase.noConfusion (hp.symm.trans hc.1)

end Sys2Proof.Machine

namespace Sys2Proof.Machine

/-! ## The end of a condition, and a device-made suspension -/

/-- A condition does not stand where every record of its key is CLEARED-UNACK. -/
theorem State.not_conditionStands {s : State} {key : AlarmKey}
    (h : ∀ r ∈ s.atu.table, r.key = key → r.state = .clearedUnack) : s.conditionStands key = false := by
  unfold State.conditionStands
  split
  · rfl
  · next r hf =>
    have hk : r.key = key := by simpa using List.find?_some hf
    simp [h r (List.mem_of_find?_eq_some hf) hk]

/-- After its end a condition does not stand (R193), but for the site EVACUATION record that a retirement stores as owed. -/
theorem endCondition_ends {s : State} (h : s.atu.lawful = true) (ho : s.atu.owed = false) (key : AlarmKey) :
    (endCondition key s).conditionStands key = false := by
  obtain ⟨-, hkeys, hids⟩ := s.atu.lawful_iff.1 h
  unfold endCondition
  split
  · next hf => exact State.not_conditionStands fun r hr hk => absurd hk ((s.atu.find_eq_none_iff key).1 hf r hr)
  · next r hf =>
    obtain ⟨hr, hk⟩ := (Atu.find_eq_some_iff h).1 hf
    split
    · refine State.not_conditionStands fun x hx hxk => ?_
      obtain ⟨y, -, rfl⟩ := List.mem_map.1 (show x ∈ updateKey key AlarmRecord.cleared s.atu.table from hx)
      split at hxk
      · next hy => rw [if_pos hy]; rfl
      · next hy => exact absurd hxk hy
    · refine State.not_conditionStands fun x hx hxk => ?_
      unfold retireRecord at hx
      dsimp only at hx
      rw [if_neg (by simp [ho])] at hx
      have hx' : x ∈ s.atu.table.filter fun x => x.id ≠ r.id := (dropId_eq_filter hids r.id).subst hx
      obtain ⟨hxt, hne⟩ := List.mem_filter.1 hx'
      have hxr : x = r := List.inj_on_of_nodup_map hkeys hxt hr (hxk.trans hk.symm)
      simp [hxr] at hne
    · next hs =>
      refine State.not_conditionStands fun x hx hxk => ?_
      rw [List.inj_on_of_nodup_map hkeys hx hr (hxk.trans hk.symm), hs]

/-- The end of a condition changes the alarm table and the link's waiting set alone. -/
theorem endCondition_eq (key : AlarmKey) (s : State) :
    endCondition key s = { s with atu := (endCondition key s).atu, link := (endCondition key s).link } := by
  unfold endCondition
  (repeat' split) <;> rfl

/-! ### A device-made change of a record (R12) -/

/-- A change of a slot's record that has a place is queued with the next revision. -/
theorem deviceChange_made {s : State} {n : Nat} {r : CredRecord} (hc : s.slotContent n = .held r)
    (hp : s.devicePlace (.slot n) = true) (f : CredRecord → CredRecord) :
    deviceChange n f s =
      (place (.slot n (some { f r with revision := if r.revision = 255 then 1 else r.revision + 1 })) s, true) := by
  have hr : (s.slotContent n).nextRevision = if r.revision = 255 then 1 else r.revision + 1 := by rw [hc]; rfl
  unfold deviceChange
  rw [hr]
  simp only [hc, hp, if_true]

theorem deviceChange_noPlace {s : State} {n : Nat} (hp : s.devicePlace (.slot n) = false)
    (f : CredRecord → CredRecord) : deviceChange n f s = (s, false) := by
  unfold deviceChange
  split
  · rw [hp, if_neg Bool.false_ne_true]
  · rfl

/-- A record placed for the slot that its number stands at, with changes of the failure table before and after it. -/
theorem State.recordQueued_place {s : State} (hs : s.storeSound = true) {n : Nat} {r : CredRecord}
    (hi : s.slotOf r.number = some n) (hc : (s.slotContent n).number = some r.number)
    (before after : List FailureEntry) :
    s.recordQueued ((place (.slot n (some r)) (s.withFailures before)).withFailures after) n r := by
  obtain ⟨-, -, hrise, -, -⟩ := (storeSound_iff s).1 hs
  have hread := place_slotContent n (some r) (s.withFailures before)
  obtain ⟨x, hx⟩ := place_slot_eq n (some r) (s.withFailures before)
  rw [hx] at hread ⊢
  refine ⟨(hread n).trans (if_pos rfl), fun m hm => (hread m).trans (if_neg hm), fun k => ?_, rfl, rfl⟩
  have hk := lookupAt_reindex hrise n (s.slotContent n).number (some r.number) k
  refine hk.trans ?_
  rw [hc]
  split
  · next hk => exact (Option.some.inj hk ▸ hi).symm
  · rfl

theorem place_slot_failures (n : Nat) (ro : Option CredRecord) (s : State) :
    (place (.slot n ro) s).failures = s.failures := by
  obtain ⟨x, hx⟩ := place_slot_eq n ro s
  rw [hx]

/-! ### The lockout suspension (R14) -/

/-- The suspension of an ACTIVE record that has a place: the record is queued, and the number's entry forgotten. -/
theorem suspendLockedOut_made {s : State} {k n : Nat} {r : CredRecord} (hi : s.slotOf k = some n)
    (hc : s.slotContent n = .held r) (hr : r.state = .active) (hp : s.devicePlace (.slot n) = true) :
    suspendLockedOut k s =
      forget k (place (.slot n (some { r with
        state := .suspended, revision := if r.revision = 255 then 1 else r.revision + 1 })) s) := by
  simp only [suspendLockedOut, State.credential_held hi hc, hr, if_true, deviceChange_made hc hp]

/-- Without a place nothing changes. -/
theorem suspendLockedOut_noPlace {s : State} {k n : Nat} {r : CredRecord} (hi : s.slotOf k = some n)
    (hc : s.slotContent n = .held r) (hr : r.state = .active) (hp : s.devicePlace (.slot n) = false) :
    suspendLockedOut k s = s := by
  simp only [suspendLockedOut, State.credential_held hi hc, hr, if_true, deviceChange_noPlace hp, Bool.false_eq_true,
    if_false]

/-- The entry of a number that needs no suspension is forgotten. -/
theorem suspendLockedOut_notNeeded {s : State} {k : Nat}
    (h : ∀ n r, s.credential k = some (n, r) → r.state ≠ .active) : suspendLockedOut k s = forget k s := by
  unfold suspendLockedOut
  split
  · rfl
  · next n r hk => rw [if_neg (h n r hk)]

theorem suspendLockedOut_active {s : State} {k n : Nat} {r : CredRecord} (hi : s.slotOf k = some n)
    (hc : s.slotContent n = .held r) (hr : r.state ≠ .active) : suspendLockedOut k s = forget k s :=
  suspendLockedOut_notNeeded fun m x hx => by
    rw [State.credential_held hi hc] at hx
    cases hx
    exact hr

theorem suspendLockedOut_unknown {s : State} {k : Nat} (hi : s.slotOf k = none) :
    suspendLockedOut k s = forget k s :=
  suspendLockedOut_notNeeded fun m x hx => by
    rw [State.credential, hi] at hx
    cases hx

end Sys2Proof.Machine

namespace Sys2Proof.Machine

/-! ## The reference events and the minute event (O50) -/

/-- What REFERENCE-LOST does to the state (R45). -/
theorem referenceLost_effect {s : State} (hl : s.atu.lawful = true) (hroom : s.alarmRoom) :
    (referenceLost s).tmb = { s.tmb with source := .rc, length := none, startUp := none }
      ∧ (referenceLost s).cal =
          { s.cal with state := if s.cal.state = .unsynchronised then .unsynchronised else .drifted }
      ∧ (referenceLost s).conditionStands clockFaultKey = true ∧ (referenceLost s).link.waiting.clock = true
      ∧ referenceLost s = { s with
          tmb := (referenceLost s).tmb, cal := (referenceLost s).cal, atu := (referenceLost s).atu
          link := (referenceLost s).link, due := (referenceLost s).due } := by
  have hlt : s.atu.table.length < 48 := by
    have : s.atu.table.length + 4 ≤ 48 := hroom
    omega
  have hstands := @raised_stands { s with
      tmb := { s.tmb with source := .rc, length := none, startUp := none }
      cal := { s.cal with state := lostState s.cal.state } } hl hlt clockFaultKey
  have hcal : lostState s.cal.state = if s.cal.state = .unsynchronised then .unsynchronised else .drifted := by
    cases s.cal.state <;> rfl
  rw [← hcal]
  unfold referenceLost
  refine ⟨?_, ?_, hstands, rfl, ?_⟩
  all_goals
    rw [raised_eq]
    rfl

/-- What REFERENCE-RETURNED does to the state (R46). -/
theorem referenceReturned_effect {s : State} (hl : s.atu.lawful = true) :
    (referenceReturned s).tmb = { s.tmb with source := .rcReturnPending, startUp := none }
      ∧ (referenceReturned s).cal = s.cal
      ∧ (s.tmb.startUp = none → s.atu.owed = false → (referenceReturned s).conditionStands clockFaultKey = false)
      ∧ (s.tmb.startUp ≠ none → (referenceReturned s).atu = s.atu) ∧ (referenceReturned s).link.waiting.clock = true
      ∧ referenceReturned s = { s with
          tmb := (referenceReturned s).tmb, atu := (referenceReturned s).atu, link := (referenceReturned s).link } := by
  unfold referenceReturned
  cases hst : s.tmb.startUp with
  | none =>
    have he := endCondition_eq clockFaultKey { s with tmb := { s.tmb with source := .rcReturnPending, startUp := none } }
    have hends := @endCondition_ends { s with tmb := { s.tmb with source := .rcReturnPending, startUp := none } } hl
    dsimp only
    simp only [Option.isSome_none, Bool.false_eq_true, if_false]
    refine ⟨?_, ?_, fun _ ho => hends ho clockFaultKey, fun h => absurd rfl h, rfl, ?_⟩
    all_goals
      rw [he]
      rfl
  | some n => exact ⟨rfl, rfl, fun h => absurd h (by simp), fun _ => rfl, rfl, rfl⟩

/-! ### The minute event -/

/-- The failure table at a minute event (R10). -/
def State.agedFailures (s : State) : List FailureEntry :=
  (s.failures.map fun e => { e with age := min 255 (e.age + 1) }).filter fun e =>
    decide (s.cfg.site.failureLimit ≤ e.failures ∨ e.age < s.cfg.site.forgiveness)

theorem ageFailures_eq (s : State) : ageFailures s = s.withFailures s.agedFailures := by
  simp only [ageFailures, State.agedFailures, Bool.decide_or]

theorem repeatLockouts_none {s : State} (h : ∀ e ∈ s.failures, e.failures < s.cfg.site.failureLimit) :
    repeatLockouts s = s := by
  have hn : (s.failures.filter fun e => decide (s.cfg.site.failureLimit ≤ e.failures)) = [] :=
    List.filter_eq_nil_iff.2 fun e he => by simpa using h e he
  unfold repeatLockouts
  rw [hn]
  rfl

theorem repeatLockouts_one {s : State} {e : FailureEntry}
    (h : (s.failures.filter fun e => decide (s.cfg.site.failureLimit ≤ e.failures)) = [e]) :
    repeatLockouts s = suspendLockedOut e.number s := by
  unfold repeatLockouts
  rw [h]
  rfl

theorem evaluateMode_manual {s : State} (h : s.auto = false) : evaluateMode s = s :=
  if_neg (by simp [h])

theorem lapsePair_failures (v : Vault) (s : State) : (lapsePair v s).failures = s.failures := by
  unfold lapsePair
  split
  · rfl
  · unfold handVerdict
    split <;> rfl

theorem settleLone_failures (v : Vault) (s : State) : (settleLone v s).failures = s.failures := by
  have hf (o : VaultOccupancy) : (o.entries.foldl (fun s e =>
      if e.overdue then endCondition (loneWorkerKey v e.number) s else s) s).failures = s.failures := by
    refine @foldl_keeps _ (fun t => t.failures = s.failures) _ (fun t e ht => ?_) _ s rfl
    split
    · exact (endCondition_failures _ t).trans ht
    · exact ht
  have hc (t : State) : (claimChirp v false t).failures = t.failures := by
    unfold claimChirp claim
    split <;> rfl
  unfold settleLone
  dsimp only
  split
  · rfl
  · exact (hc _).trans (hf _)

theorem eachVault_failures (f : Vault → State → State) (h : ∀ v s, (f v s).failures = s.failures) (s : State) :
    (eachVault f s).failures = s.failures :=
  @eachVault_keeps (fun t => t.failures = s.failures) f (fun v t ht => (h v t).trans ht) s rfl

/-- The mode and the auto flag are all of the settings that setting the site mode changes (R98). -/
theorem setMode_settings (mode : Mode) (auto : Bool) (s : State) :
    (setMode mode auto s).settings = State.settings { s with mode := mode, auto := auto } := by
  unfold setMode
  dsimp only
  split
  · next h =>
    obtain ⟨rfl, rfl⟩ := h
    rfl
  · (repeat' split) <;> simp [eachVault_settings]

theorem setMode_failures {mode : Mode} (hm : mode ≠ .lockdown) (auto : Bool) (s : State) :
    (setMode mode auto s).failures = s.failures := by
  unfold setMode
  dsimp only
  rw [if_neg hm]
  (repeat' split)
  · rfl
  · rfl
  · exact (eachVault_failures _ settleLone_failures _).trans (eachVault_failures _ lapsePair_failures _)
  · exact eachVault_failures _ settleLone_failures _

theorem scheduledMode_eq (s : State) : s.scheduledMode =
    if s.cal.containment s.cfg.site.siteSchedule = .contained then .openHours else .afterHours := by
  unfold State.scheduledMode
  cases s.cal.containment s.cfg.site.siteSchedule <;> rfl

/-- What the evaluation of an automatic mode sets and leaves alone (R59, R98). -/
theorem evaluateMode_auto {s : State} (h : s.auto = true) :
    (evaluateMode s).settings = State.settings { s with mode := s.scheduledMode, auto := true }
      ∧ (evaluateMode s).failures = s.failures := by
  have hm : s.scheduledMode ≠ .lockdown := by
    rw [scheduledMode_eq]
    split <;> exact Mode.noConfusion
  unfold evaluateMode
  rw [if_pos h]
  exact ⟨setMode_settings _ _ s, setMode_failures hm _ s⟩

/-- A minute event of a part that runs in a mode set by hand: the failures age, and the owed lockouts are repeated. -/
theorem minuteEvent_manual {s : State} (hp : s.phase = .running) (ha : s.auto = false) :
    minuteEvent s = repeatLockouts (s.withFailures s.agedFailures) := by
  unfold minuteEvent
  rw [ageFailures_eq]
  exact (if_pos hp).trans (congrArg repeatLockouts (evaluateMode_manual ha))

theorem minuteEvent_scanning {s : State} (hp : s.phase = .scanning) :
    minuteEvent s = s.withFailures s.agedFailures := by
  unfold minuteEvent
  rw [ageFailures_eq]
  exact if_neg fun h => Phase.noConfusion (hp.symm.trans h)

/-- One in an automatic mode with no lockout owed. -/
theorem minuteEvent_auto {s : State} (hp : s.phase = .running) (ha : s.auto = true)
    (hn : ∀ e ∈ s.agedFailures, e.failures < s.cfg.site.failureLimit) :
    minuteEvent s = evaluateMode (s.withFailures s.agedFailures) := by
  obtain ⟨hs, hf⟩ := @evaluateMode_auto (s.withFailures s.agedFailures) ha
  unfold minuteEvent
  rw [ageFailures_eq]
  refine (if_pos hp).trans (repeatLockouts_none ?_)
  rw [hf, State.cfg_of_settings hs]
  exact hn

theorem exec_minuteEvent {s : State} (h : s.comes .minute) :
    exec .minuteEvent s = .next (minuteEvent (s.without .minute)) :=
  event_comes h

theorem exec_startUpReferenceTimeout {s : State} (h : s.comes .startUpTimeout) :
    exec .startUpReferenceTimeout s = .next (referenceLost (s.without .startUpTimeout)) :=
  event_comes h

theorem referenceGap_eq {s : State} (h : s.tmb.source ≠ .rc) : referenceGap s = referenceLost s := by
  unfold referenceGap
  split
  · rfl
  · rfl
  · next hs => exact absurd hs h

theorem referenceGap_rc {s : State} (h : s.tmb.source = .rc) : referenceGap s = s := by
  unfold referenceGap
  rw [h]

theorem referenceGood_rc {s : State} (h : s.tmb.source = .rc) : referenceGood s = referenceReturned s := by
  unfold referenceGood
  rw [h]

/-- Settles O50, from the effect of each event. -/
theorem referenceAndMinuteEvents : Obligations.ReferenceAndMinuteEvents := by
  unfold Obligations.ReferenceAndMinuteEvents
  intro s hl hroom lost
  refine ⟨fun h hsrc => ?_, fun h hsrc => ?_, fun h => ?_, fun h hsrc => ?_, fun h => ⟨fun hp => ?_,
    fun hp ha hn => ?_, fun hp ha hn => ?_, fun hp ha hs e he honly => ⟨?_, ?_, ?_⟩⟩⟩
  · obtain ⟨htmb, hcal, hstands, hclock, hrest⟩ := referenceLost_effect hl hroom
    exact ⟨_, (settledEvent_awake _ h).trans (congrArg _ (referenceGap_eq hsrc)), htmb, hcal, hstands, hclock, hrest⟩
  · exact (settledEvent_awake _ h).trans (congrArg _ (referenceGap_rc hsrc))
  · obtain ⟨htmb, hcal, hstands, hclock, hrest⟩ := @referenceLost_effect (s.without .startUpTimeout) hl hroom
    exact ⟨_, exec_startUpReferenceTimeout h, htmb, hcal, hstands, hclock, hrest⟩
  · exact ⟨_, (settledEvent_awake _ h).trans (congrArg _ (referenceGood_rc hsrc)), referenceReturned_effect hl⟩
  · exact (exec_minuteEvent h).trans (congrArg _ (minuteEvent_scanning hp))
  · have hm := @minuteEvent_manual (s.without .minute) hp ha
    exact (exec_minuteEvent h).trans (congrArg _ (hm.trans (repeatLockouts_none hn)))
  · have hm := @minuteEvent_auto (s.without .minute) hp ha hn
    obtain ⟨hset, hf⟩ := @evaluateMode_auto ((s.without .minute).withFailures s.agedFailures) ha
    have hauto := State.auto_of_settings hset
    have hmode := (State.mode_of_settings hset).trans (scheduledMode_eq s)
    have hcal := State.cal_of_settings hset
    have hcfg := State.cfg_of_settings hset
    refine ⟨_, (exec_minuteEvent h).trans (congrArg _ hm), hf, hauto, hmode, hcal, ?_, hcfg, ?_⟩
    · exact State.nva_of_store (evaluateMode_store _)
    · exact State.array_of_fixed (evaluateMode_fixed _)
  all_goals
    have hmanual := @minuteEvent_manual (s.without .minute) hp ha
    have hm := (exec_minuteEvent h).trans (congrArg _ (hmanual.trans (repeatLockouts_one honly)))
  · intro n r hi hc hr hact hplace
    have hmade := @suspendLockedOut_made ((s.without .minute).withFailures s.agedFailures) _ n r hi hc hact hplace
    refine ⟨_, hm.trans (congrArg _ hmade), ?_, ?_⟩
    · exact congrArg (List.filter fun x : FailureEntry => x.number ≠ e.number) (place_slot_failures n _ _)
    · exact @State.recordQueued_place (s.without .minute) hs n
        { r with state := .suspended, revision := if r.revision = 255 then 1 else r.revision + 1 } (hr ▸ hi)
        (congrArg SlotContent.number hc) s.agedFailures _
  · intro n r hi hc hact hplace
    exact hm.trans (congrArg _ (suspendLockedOut_noPlace hi hc hact hplace))
  · rintro (hi | ⟨n, r, hi, hc, hr⟩)
    · exact hm.trans (congrArg _ (suspendLockedOut_unknown hi))
    · exact hm.trans (congrArg _ (suspendLockedOut_active hi hc hr))

end Sys2Proof.Machine

namespace Sys2Proof.Machine

/-! ## The checks of an entry (O59) -/

/-! ### Checks 2 to 9 of R103 -/

/-- The checks of the vault set and of the hours (R103 checks 8 and 9). -/
def permit (s : State) (v : Vault) (slot : Nat) (r : CredRecord) : Except Verdict (Nat × CredRecord) :=
  if r.vaults.getLsbD v.num = false then .error .notPermitted
  else if s.mode = .openHours ∨ s.inBand slot = true then .ok (slot, r)
  else
    match r.schedule with
    | none => .error .outOfHours
    | some n =>
      match s.cal.containment n with
      | .contained => .ok (slot, r)
      | .notContained => .error .outOfHours
      | .noTime => .error .clock

theorem gate_suppression {s : State} {v : Vault} (h : s.entryState v = false) (k : Nat) :
    gate s v k = .error .suppression := by
  simp [gate, h]

section
variable {s : State} {v : Vault} (he : s.entryState v = true)
include he

theorem gate_unknown {k : Nat} (hc : s.credential k = none) : gate s v k = .error .unknown := by
  simp [gate, he, hc]

variable {k slot : Nat} {r : CredRecord} (hc : s.credential k = some (slot, r))
include hc

theorem gate_retired (hr : r.state = .retired) : gate s v k = .error .retired := by
  simp [gate, he, hc, hr]

theorem gate_suspended (hr : r.state = .suspended) : gate s v k = .error .suspended := by
  simp [gate, he, hc, hr]

variable (hr : r.state = .active)
include hr

theorem gate_lockedOut (hl : s.atLimit k = true) : gate s v k = .error .lockedOut := by
  simp [gate, he, hc, hr, hl]

variable (hl : s.atLimit k = false)
include hl

theorem gate_lockdown (hm : s.mode = .lockdown) (hb : s.inBand slot = false) : gate s v k = .error .lockdown := by
  simp [gate, he, hc, hr, hl, hm, hb]

variable (hm : s.mode = .lockdown → s.inBand slot = true)
include hm

theorem gate_expired {e : Nat} (hx : r.expiry = some e) (hd : e < s.cal.instant.day) :
    gate s v k = .error .expired := by
  have hm' : (decide (s.mode = .lockdown) && !s.inBand slot) = false := by simpa using hm
  simp [gate, he, hc, hr, hl, hm', hx, hd]

variable (hx : ∀ e, r.expiry = some e → s.cal.instant.day ≤ e)
include hx

/-- Checks 8 and 9 of R103, of a record that the earlier checks pass. -/
theorem gate_eq_permit : gate s v k = permit s v slot r := by
  have hm' : (decide (s.mode = .lockdown) && !s.inBand slot) = false := by simpa using hm
  unfold permit
  cases hxe : r.expiry with
  | none => simp [gate, he, hc, hr, hl, hm', hxe] <;> rfl
  | some d => simp [gate, he, hc, hr, hl, hm', hxe, Nat.not_lt.2 (hx d hxe)] <;> rfl

end

section
variable {s : State} {v : Vault} {slot : Nat} {r : CredRecord}

theorem permit_notPermitted (hv : r.vaults.getLsbD v.num = false) : permit s v slot r = .error .notPermitted := by
  simp [permit, hv]

variable (hv : r.vaults.getLsbD v.num = true)
include hv

theorem permit_passed (h : s.mode = .openHours ∨ s.inBand slot = true
    ∨ ∃ n, r.schedule = some n ∧ s.cal.containment n = .contained) : permit s v slot r = .ok (slot, r) := by
  rcases h with h | h | ⟨n, hn, hc⟩
  · simp [permit, hv, h]
  · simp [permit, hv, h]
  · simp [permit, hv, hn, hc]

variable (hm : s.mode ≠ .openHours) (hb : s.inBand slot = false)
include hm hb

theorem permit_clock {n : Nat} (hn : r.schedule = some n) (hc : s.cal.containment n = .noTime) :
    permit s v slot r = .error .clock := by
  simp [permit, hv, hm, hb, hn, hc]

theorem permit_outOfHours (h : r.schedule = none ∨ ∃ n, r.schedule = some n ∧ s.cal.containment n = .notContained) :
    permit s v slot r = .error .outOfHours := by
  rcases h with h | ⟨n, hn, hc⟩
  · simp [permit, hv, hm, hb, h]
  · simp [permit, hv, hm, hb, hn, hc]

end

/-! ### Checks 10 to 14 at an outer reader -/

/-- Checks 13 and 14 of R103 and the grant of R106, of a record that checks 2 to 12 pass. -/
def grantOuter (v : Vault) (k slot : Nat) (r : CredRecord) (s : State) : State × Verdict :=
  if (s.door v).vault ≠ .secured ∨ (s.door v).outer ≠ .locked then (s, .interlock)
  else if s.needsPlace slot r && decide (Config.queueSize ≤ s.nva.queue.length) then (s, .storeBusy)
  else (recordOuterGrant v .entry (decrementUses k s), .granted)

/-- Checks 11 to 14 of R103 at an outer reader, of a record that the PIN check passes. -/
def placeOuter (v : Vault) (k slot : Nat) (r : CredRecord) (s : State) : State × Verdict :=
  match s.placeVerdict v k none with
  | some e => (s, e)
  | none => grantOuter v k slot r s

theorem presentOuter_error {s : State} {v : Vault} {k : Nat} {e : Verdict} (h : gate s v k = .error e)
    (digits : List Nat) : presentOuter v k digits s = (s, e) := by
  simp only [presentOuter, checkEntry, h]

section
variable {s : State} {v : Vault} {k slot : Nat} {r : CredRecord} {digits : List Nat} (hg : gate s v k = .ok (slot, r))
include hg

theorem presentOuter_required (hp : pinCheck r digits = .required) :
    presentOuter v k digits s = (s, .pinRequired) := by
  simp only [presentOuter, checkEntry, hg, hp]

theorem presentOuter_wrong (hp : pinCheck r digits = .wrong) :
    presentOuter v k digits s = (recordFailure k s, .pinWrong) := by
  simp only [presentOuter, checkEntry, hg, hp]

theorem presentOuter_passed (hp : pinCheck r digits = .passed) :
    presentOuter v k digits s = placeOuter v k slot r s := by
  simp only [presentOuter, checkEntry, hg, hp, placeOuter]
  cases s.placeVerdict v k none <;> rfl

/-- The duress code raises DURESS-CODE and is decided as the PIN is (R104). -/
theorem presentOuter_duress (hp : pinCheck r digits = .onDuress) :
    presentOuter v k digits s = placeOuter v k slot r (raised (duressCodeKey v k) s) := by
  simp only [presentOuter, checkEntry, hg, hp, placeOuter]
  cases (raised (duressCodeKey v k) s).placeVerdict v k none <;> rfl

end

theorem pinCheck_none {r : CredRecord} (h : r.pin = none) (digits : List Nat) : pinCheck r digits = .passed := by
  simp only [pinCheck, h]

theorem pinCheck_required {r : CredRecord} {pin : List Nat} (h : r.pin = some pin) : pinCheck r [] = .required := by
  simp only [pinCheck, h, if_true]

theorem pinCheck_wrong {r : CredRecord} {pin digits : List Nat} (h : r.pin = some pin) (h0 : digits ≠ [])
    (hp : digits ≠ pin) (hd : r.duress ≠ some digits) : pinCheck r digits = .wrong := by
  simp only [pinCheck, h, if_neg h0, if_neg hd, if_neg hp]

theorem pinCheck_passed {r : CredRecord} {pin : List Nat} (h : r.pin = some pin) (h0 : pin ≠ [])
    (hd : r.duress ≠ some pin) : pinCheck r pin = .passed := by
  simp only [pinCheck, h, if_neg h0, if_neg hd, if_true]

theorem pinCheck_duress {r : CredRecord} {pin digits : List Nat} (h : r.pin = some pin) (h0 : digits ≠ [])
    (hd : r.duress = some digits) : pinCheck r digits = .onDuress := by
  simp only [pinCheck, h, if_neg h0, if_pos hd]

/-! ### Where a number stands, and the room (R105) -/

/-- A number fails the passback check where it is on an occupant list, on an entering list or the first of a pair. -/
theorem State.passback_iff (s : State) (k : Nat) : s.passback k none = true ↔ k ∈ s.placedNumbers := by
  unfold State.passback State.placedNumbers
  simp only [List.any_eq_true, List.mem_flatMap, List.mem_append, List.mem_map, Bool.or_eq_true, decide_eq_true_eq,
    Option.mem_toList, Option.map_eq_some_iff, or_assoc]
  refine exists_congr fun v => and_congr_right fun _ => or_congr_right (or_congr_right ?_)
  cases s.pair v <;> simp

theorem State.placeVerdict_passback {s : State} {v : Vault} {k : Nat} (h : k ∈ s.placedNumbers) :
    s.placeVerdict v k none = some .passback :=
  if_pos ((s.passback_iff k).2 h)

section
variable {s : State} {v : Vault} {k : Nat} (h : k ∉ s.placedNumbers)
include h

theorem State.placeVerdict_full (hf : (s.group v).limit < s.load v + 1 ∨ 64 < s.siteLoad + 1) :
    s.placeVerdict v k none = some .full := by
  have hn : s.noRoom v 1 = true := by simpa [State.noRoom, Config.registerSize] using hf
  exact (if_neg fun hp => h ((s.passback_iff k).1 hp)).trans (if_pos hn)

theorem State.placeVerdict_none (hv : s.load v + 1 ≤ (s.group v).limit) (hs : s.siteLoad + 1 ≤ 64) :
    s.placeVerdict v k none = none := by
  have hn : s.noRoom v 1 = false := by
    simp [State.noRoom, Config.registerSize, Nat.not_lt.2 hv, Nat.not_lt.2 hs]
  exact (if_neg fun hp => h ((s.passback_iff k).1 hp)).trans (if_neg (by simp [hn]))

end

theorem placeOuter_refused {s : State} {v : Vault} {k : Nat} {e : Verdict} (h : s.placeVerdict v k none = some e)
    (slot : Nat) (r : CredRecord) : placeOuter v k slot r s = (s, e) := by
  simp only [placeOuter, h]

theorem placeOuter_placed {s : State} {v : Vault} {k : Nat} (h : s.placeVerdict v k none = none)
    (slot : Nat) (r : CredRecord) : placeOuter v k slot r s = grantOuter v k slot r s := by
  simp only [placeOuter, h]

end Sys2Proof.Machine

namespace Sys2Proof.Machine

/-! ### The grant of an outer door, and the use it spends (R106, R116) -/

/-- A door record replaced, and the link's waiting set, are all that putting a door record changes. -/
theorem putDoor_eq (v : Vault) (d : DoorRecord) (s : State) :
    putDoor v d s = { s.withDoor v d with link := (putDoor v d s).link } := by
  unfold putDoor
  dsimp only
  split <;> rfl

theorem putDoor_door (v : Vault) (d : DoorRecord) (s : State) : (putDoor v d s).door v = d := by
  rw [putDoor_eq]
  exact State.withDoor_door s v d

/-- A recorded outer grant unlocks the outer door and changes the link's waiting set, nothing else (R125). -/
theorem recordOuterGrant_eq (v : Vault) (o : OuterOrigin) (s : State) :
    recordOuterGrant v o s =
      { s.withDoor v { s.door v with
          outer := .unlocked, outerGrant := some { origin := o, lapse := s.outerTicks v } } with
        link := (recordOuterGrant v o s).link } := by
  have twice (d e : DoorRecord) (l : Link) :
      { (putDoor v d s).withDoor v e with link := l } = { s.withDoor v e with link := l } := by
    rw [putDoor_eq v d s]
    show { s with doors := (s.doors.set v d).set v e, link := l } = _
    rw [PerVault.set_set]
    rfl
  have h : recordOuterGrant v o s = putDoor v
      { s.door v with outer := .unlocked, outerGrant := some { origin := o, lapse := s.outerTicks v } }
      (putDoor v { s.door v with outerGrant := some { origin := o, lapse := s.outerTicks v } } s) := by
    unfold recordOuterGrant setOuter
    rw [putDoor_door]
    exact if_neg OuterState.noConfusion
  rw [h]
  exact (putDoor_eq v _ _).trans (twice _ _ _)

/-- What the grant of a presentation at an outer reader leaves of the door and of the other blocks. -/
theorem recordOuterGrant_door (v : Vault) (s : State) :
    (recordOuterGrant v .entry s).door v =
      { s.door v with
        outer := .unlocked, outerGrant := some { origin := .entry, lapse := (s.group v).tOuter * 100 } } := by
  rw [recordOuterGrant_eq]
  exact State.withDoor_door s v _

/-- The start of an attempt depends on the phase, the store and the supply alone. -/
theorem startAttempt_nva_congr {s t : State} (hp : t.phase = s.phase) (hn : t.nva = s.nva) (hs : t.supply = s.supply) :
    (startAttempt t).nva = (startAttempt s).nva := by
  unfold startAttempt
  rw [hp, hn, hs]
  by_cases hc : s.phase = .running ∧ s.nva.inFlight = none ∧ s.supply = .good
  · rw [if_pos hc, if_pos hc]
    cases s.nva.erase with
    | some e => rfl
    | none =>
      cases s.nva.queue with
      | nil => exact hn
      | cons e rest => rfl
  · rw [if_neg hc, if_neg hc, hn]

/-- The alarm table and the link record have no part in the start of an attempt. -/
theorem startAttempt_alarms (s : State) (a : Atu) (l : Link) :
    startAttempt { s with atu := a, link := l } = { startAttempt s with atu := a, link := l } := by
  have hn := @startAttempt_nva_congr s { s with atu := a, link := l } rfl rfl rfl
  calc startAttempt { s with atu := a, link := l }
      = State.withNva { s with atu := a, link := l } (startAttempt s).nva := by rw [startAttempt_eq, hn]
    _ = { s.withNva (startAttempt s).nva with atu := a, link := l } := rfl
    _ = { startAttempt s with atu := a, link := l } := by rw [← startAttempt_eq]

theorem place_slot_alarms (n : Nat) (ro : Option CredRecord) (s : State) (a : Atu) (l : Link) :
    place (.slot n ro) { s with atu := a, link := l } = { place (.slot n ro) s with atu := a, link := l } :=
  startAttempt_alarms ((s.withIndex (reindex n (s.slotContent n).number (ro.map CredRecord.number) s.index)).withNva
    (s.nva.place (.slot n ro))) a l

theorem State.credential_eq_some {s : State} {k n : Nat} {r : CredRecord} (h : s.credential k = some (n, r)) :
    s.slotOf k = some n ∧ s.slotContent n = .held r := by
  unfold State.credential at h
  split at h
  · cases h
  · next m hm =>
    split at h
    · next x hx =>
      cases h
      exact ⟨hm, hx⟩
    · cases h

theorem decrementUses_unknown {s : State} {k : Nat} (h : s.credential k = none) : decrementUses k s = s := by
  simp only [decrementUses, h]

/-- A use is spent in a write of the record, where it counts uses and the write has a place (R13). -/
theorem decrementUses_known {s : State} {k n : Nat} {r : CredRecord} (h : s.credential k = some (n, r)) :
    decrementUses k s =
      if r.uses.isNone then s
      else if s.devicePlace (.slot n) then
        place (.slot n (some { r.used with revision := if r.revision = 255 then 1 else r.revision + 1 })) s
      else s := by
  obtain ⟨-, hc⟩ := State.credential_eq_some h
  simp only [decrementUses, h]
  by_cases hu : r.uses.isNone = true
  · rw [if_pos hu, if_pos hu]
  · rw [if_neg hu, if_neg hu]
    cases hp : s.devicePlace (.slot n) with
    | true => rw [deviceChange_made hc hp, if_pos rfl]
    | false => rw [deviceChange_noPlace hp, if_neg Bool.false_ne_true]

theorem decrementUses_alarms (k : Nat) (s : State) (a : Atu) (l : Link) :
    decrementUses k { s with atu := a, link := l } = { decrementUses k s with atu := a, link := l } := by
  cases h : s.credential k with
  | none => rw [decrementUses_unknown h, @decrementUses_unknown { s with atu := a, link := l } k h]
  | some x =>
    obtain ⟨n, r⟩ := x
    rw [decrementUses_known h, @decrementUses_known { s with atu := a, link := l } k n r h, place_slot_alarms]
    by_cases hu : r.uses.isNone = true
    · rw [if_pos hu, if_pos hu]
    · rw [if_neg hu, if_neg hu]
      by_cases hp : s.devicePlace (.slot n) = true
      · rw [if_pos hp]
        exact if_pos hp
      · rw [if_neg hp]
        exact if_neg hp

theorem recordOuterGrant_alarms (v : Vault) (o : OuterOrigin) (s : State) (a : Atu) (l : Link) :
    ∃ l', recordOuterGrant v o { s with atu := a, link := l } = { recordOuterGrant v o s with atu := a, link := l' } := by
  refine ⟨(recordOuterGrant v o { s with atu := a, link := l }).link, ?_⟩
  rw [recordOuterGrant_eq v o s]
  exact recordOuterGrant_eq v o { s with atu := a, link := l }

/-- The alarm table and the link record have no part in the decision at an outer reader once the PIN check is passed. -/
theorem placeOuter_alarms (v : Vault) (k slot : Nat) (r : CredRecord) (s : State) (a : Atu) (l : Link) :
    ∃ l', placeOuter v k slot r { s with atu := a, link := l } =
      ({ (placeOuter v k slot r s).1 with atu := a, link := l' }, (placeOuter v k slot r s).2) := by
  cases hv : s.placeVerdict v k none with
  | some e =>
    rw [placeOuter_refused hv, @placeOuter_refused { s with atu := a, link := l } v k e hv]
    exact ⟨l, rfl⟩
  | none =>
    rw [placeOuter_placed hv, @placeOuter_placed { s with atu := a, link := l } v k hv]
    unfold grantOuter
    by_cases hd : (s.door v).vault ≠ .secured ∨ (s.door v).outer ≠ .locked
    · rw [if_pos hd]
      exact ⟨l, if_pos hd⟩
    · rw [if_neg hd]
      by_cases hb : (s.needsPlace slot r && decide (Config.queueSize ≤ s.nva.queue.length)) = true
      · rw [if_pos hb]
        exact ⟨l, (if_neg hd).trans (if_pos hb)⟩
      · rw [if_neg hb, decrementUses_alarms]
        obtain ⟨l', hl'⟩ := recordOuterGrant_alarms v .entry (decrementUses k s) a l
        exact ⟨l', ((if_neg hd).trans (if_neg hb)).trans (by rw [hl'])⟩

/-! ### The failure that a wrong PIN records (R9) -/

theorem recordFailure_counted {s : State} {k : Nat} {e : FailureEntry} (h : s.failureEntry k = some e) :
    recordFailure k s =
      s.withFailures ({ e with failures := min 9 (e.failures + 1), age := 0 } :: s.failuresWithout k) := by
  simp only [recordFailure, h]
  rfl

section
variable {s : State} {k : Nat} (h : s.failureEntry k = none)
include h

theorem recordFailure_new (hl : s.failures.length < 32) :
    recordFailure k s = s.withFailures ({ number := k, failures := 1, age := 0 } :: s.failures) := by
  have hl' : s.failures.length < Config.failureSize := hl
  simp only [recordFailure, h, if_pos hl']

variable (hl : 32 ≤ s.failures.length)
include hl

/-- A full table gives up its oldest entry below the limit. -/
theorem recordFailure_evicts {before after : List FailureEntry} {e : FailureEntry}
    (hf : s.failures = before ++ e :: after) (he : e.failures < s.cfg.site.failureLimit)
    (ha : ∀ x ∈ after, ¬ x.failures < s.cfg.site.failureLimit) :
    recordFailure k s = s.withFailures ({ number := k, failures := 1, age := 0 } :: (before ++ after)) := by
  have hl' : ¬ s.failures.length < Config.failureSize := Nat.not_lt.2 hl
  have hv : evictFailure s.cfg.site.failureLimit s.failures = some (before ++ after) := by
    have hany : (s.failures.any fun x => decide (x.failures < s.cfg.site.failureLimit)) = true :=
      List.any_eq_true.2 ⟨e, by simp [hf], by simpa using he⟩
    have herase : (s.failures.reverse.eraseP fun x => decide (x.failures < s.cfg.site.failureLimit)).reverse =
        before ++ after := by
      rw [hf, List.reverse_append, List.reverse_cons, List.append_assoc,
        List.eraseP_append_right _ fun x hx => by simpa using ha x (List.mem_reverse.1 hx)]
      simp [he]
    unfold evictFailure
    rw [if_pos hany, herase]
  simp only [recordFailure, h, if_neg hl', hv]

theorem recordFailure_full (ha : ∀ x ∈ s.failures, ¬ x.failures < s.cfg.site.failureLimit) :
    recordFailure k s = s := by
  have hl' : ¬ s.failures.length < Config.failureSize := Nat.not_lt.2 hl
  have hv : evictFailure s.cfg.site.failureLimit s.failures = none := by
    refine if_neg fun hany => ?_
    obtain ⟨x, hx, hlt⟩ := List.any_eq_true.1 hany
    exact ha x hx (by simpa using hlt)
  simp only [recordFailure, h, if_neg hl', hv]

end

end Sys2Proof.Machine

namespace Sys2Proof.Machine

/-! ### The clauses of O59 -/

theorem decidePresentation_starting {s : State} (h : s.phase ≠ .running) (b : ReaderAddress) (k : Nat)
    (purpose : Purpose) (digits : List Nat) : decidePresentation b k purpose digits s = (s, .starting) :=
  if_pos h

theorem decidePresentation_outer {s : State} (h : s.phase = .running) (v : Vault) (k : Nat)
    (purpose : Purpose) (digits : List Nat) :
    decidePresentation ⟨v, .outer⟩ k purpose digits s = presentOuter v k digits s :=
  if_neg (not_not_intro h)

theorem grantOuter_interlock {s : State} {v : Vault} (h : (s.door v).vault ≠ .secured ∨ (s.door v).outer ≠ .locked)
    (k slot : Nat) (r : CredRecord) : grantOuter v k slot r s = (s, .interlock) :=
  if_pos h

section
variable {s : State} {v : Vault} {k slot : Nat} {r : CredRecord} (hv : (s.door v).vault = .secured)
  (ho : (s.door v).outer = .locked)
include hv ho

theorem grantOuter_secured : grantOuter v k slot r s =
    if s.needsPlace slot r && decide (8 ≤ s.nva.queue.length) then (s, .storeBusy)
    else (recordOuterGrant v .entry (decrementUses k s), .granted) :=
  if_neg (by simp [hv, ho])

theorem grantOuter_storeBusy {n : Nat} (hu : r.uses = some n) (hq : s.nva.queued (.slot slot) = none)
    (hl : 8 ≤ s.nva.queue.length) : grantOuter v k slot r s = (s, .storeBusy) :=
  (grantOuter_secured hv ho).trans (if_pos (by simp [State.needsPlace, hu, hq, hl]))

variable (hc : s.credential k = some (slot, r))
include hc

theorem grantOuter_unlimited (hu : r.uses = none) :
    grantOuter v k slot r s = (recordOuterGrant v .entry s, .granted) := by
  rw [grantOuter_secured hv ho, decrementUses_known hc]
  simp [State.needsPlace, hu]

/-- A credential that counts its uses spends one in a write with the next revision, and is RETIRED with the last (R13). -/
theorem grantOuter_spends (hr : r.state = .active) {n : Nat} (hu : r.uses = some n)
    (hp : s.devicePlace (.slot slot) = true) :
    grantOuter v k slot r s =
      (recordOuterGrant v .entry (place (.slot slot (some { r with
        uses := some (n - 1), state := if n ≤ 1 then .retired else .active
        revision := if r.revision = 255 then 1 else r.revision + 1 })) s), .granted) := by
  have hused : r.used = { r with uses := some (n - 1), state := if n ≤ 1 then .retired else .active } := by
    simp only [CredRecord.used, hu, hr, Nat.sub_eq_zero_iff_le]
  have hplace : (s.needsPlace slot r && decide (8 ≤ s.nva.queue.length)) = false := by
    rcases State.place_of_devicePlace hp with hq | hl
    · simp [State.needsPlace, Option.isSome_iff_ne_none.1 hq]
    · simp [Nat.not_le.2 hl]
  rw [grantOuter_secured hv ho, hplace, decrementUses_known hc, hused, if_neg Bool.false_ne_true, if_pos hp]
  simp [hu]

end

/-- What the grant of a presentation leaves of the store and of the other blocks (R106). -/
theorem recordOuterGrant_keeps (v : Vault) (s : State) :
    (recordOuterGrant v .entry s).nva = s.nva ∧ (recordOuterGrant v .entry s).occ = s.occ
      ∧ (recordOuterGrant v .entry s).ssq = s.ssq ∧ (recordOuterGrant v .entry s).array = s.array := by
  rw [recordOuterGrant_eq]
  exact ⟨rfl, rfl, rfl, rfl⟩

theorem recordOuterGrant_slotContent (v : Vault) (s : State) (m : Nat) :
    (recordOuterGrant v .entry s).slotContent m = s.slotContent m := by
  rw [recordOuterGrant_eq]
  rfl

/-- After the verdict of a presentation that leaves its number at the limit the lockout is requested (R14, R117). -/
theorem present_eq (a : ReaderAddress) (k : Nat) (purpose : Purpose) (digits : List Nat) (s : State) :
    present a k purpose digits s =
      if (handVerdict a (decidePresentation a k purpose digits s).2 (some k)
          (decidePresentation a k purpose digits s).1).atLimit k then
        suspendLockedOut k (handVerdict a (decidePresentation a k purpose digits s).2 (some k)
          (decidePresentation a k purpose digits s).1)
      else handVerdict a (decidePresentation a k purpose digits s).2 (some k)
        (decidePresentation a k purpose digits s).1 := rfl

/-- The lockout of a number that has a place is the suspension of its record, with the entry forgotten (R14). -/
theorem suspendLockedOut_queued {u : State} (hs : u.storeSound = true) {k slot : Nat} {r : CredRecord}
    (hi : u.slotOf k = some slot) (hc : u.slotContent slot = .held r) (hr : r.state = .active) (hk : r.number = k)
    (hp : u.devicePlace (.slot slot) = true) :
    u.recordQueued (suspendLockedOut k u) slot
        { r with state := .suspended, revision := if r.revision = 255 then 1 else r.revision + 1 }
      ∧ (suspendLockedOut k u).failures = u.failuresWithout k := by
  have hm := suspendLockedOut_made hi hc hr hp
  rw [hm]
  refine ⟨?_, congrArg (List.filter fun x : FailureEntry => x.number ≠ k) (place_slot_failures slot _ u)⟩
  exact @State.recordQueued_place u hs slot
    { r with state := .suspended, revision := if r.revision = 255 then 1 else r.revision + 1 } (hk ▸ hi)
    (congrArg SlotContent.number hc) u.failures _

/-- Settles O59, check by check in the order of R103. -/
theorem entryChecksComeInOrder : Obligations.EntryChecksComeInOrder := by
  unfold Obligations.EntryChecksComeInOrder
  intro s v k digits purpose a decided next
  refine ⟨fun b h => decidePresentation_starting h b k purpose digits, ?_, fun hrun => ?_⟩
  · intro u t
    have ht : t = if u.atLimit k then suspendLockedOut k u else u := present_eq a k purpose digits s
    refine ⟨fun hl => ?_, fun hl hi => ?_, fun slot r hl hi hc => ⟨fun hr => ?_, fun hr hp => ?_, fun hr hk hs hp => ?_⟩⟩
    · exact ht.trans (if_neg (by simp [hl]))
    all_goals
      rw [if_pos hl] at ht
      rw [ht]
    · exact suspendLockedOut_unknown hi
    · exact suspendLockedOut_active hi hc hr
    · exact suspendLockedOut_noPlace hi hc hr hp
    · exact suspendLockedOut_queued hs hi hc hr hk hp
  have hdec : decided = presentOuter v k digits s := decidePresentation_outer hrun v k purpose digits
  refine ⟨fun hq hi => ?_, fun hst => ?_⟩
  · have he : s.entryState v = false := by simp [State.entryState, hq, hi]
    exact hdec.trans (presentOuter_error (gate_suppression he k) digits)
  have he : s.entryState v = true := by simpa [State.entryState] using hst
  have fails {e : Verdict} (hg : gate s v k = .error e) : decided = (s, e) := hdec.trans (presentOuter_error hg digits)
  refine ⟨fun hi => fails (gate_unknown he (by simp only [State.credential, hi])), ?_⟩
  intro slot r hi hc band
  have hcred := State.credential_held hi hc
  refine ⟨fun hr => fails (gate_retired he hcred hr), fun hr => fails (gate_suspended he hcred hr),
    fun hr hl => fails (gate_lockedOut he hcred hr hl), fun hr hl =>
    ⟨fun hm hb => fails (gate_lockdown he hcred hr hl hm hb), fun hm =>
      ⟨fun e hx hd => fails (gate_expired he hcred hr hl hm hx hd), fun hx => ?_⟩⟩⟩
  have hg := gate_eq_permit he hcred hr hl hm hx
  refine ⟨fun hv => fails (hg.trans (permit_notPermitted hv)), fun hv => ?_⟩
  intro hours
  have pass (h : hours) : gate s v k = .ok (slot, r) := hg.trans (permit_passed hv h)
  refine ⟨fun hm hb n hn hc => fails (hg.trans (permit_clock hv hm hb hn hc)),
    fun hm hb h => fails (hg.trans (permit_outOfHours hv hm hb h)), fun h pin hp hd => ?_, fun h pin hp h0 hdp hdu => ?_,
    fun h pin hp h0 hdp hdu hd => ?_, fun h hp => ?_⟩
  · subst hd
    exact hdec.trans (presentOuter_required (pass h) (pinCheck_required hp))
  · have hwrong : decided = (recordFailure k s, .pinWrong) :=
      hdec.trans (presentOuter_wrong (pass h) (pinCheck_wrong hp h0 hdp hdu))
    have failed {t : State} (ht : recordFailure k s = t) : decided = (t, .pinWrong) := by rw [hwrong, ht]
    exact ⟨fun e he => failed (recordFailure_counted he), fun hn => ⟨fun hl => failed (recordFailure_new hn hl),
      fun hl => ⟨fun before e after hf hb ha => failed (recordFailure_evicts hn hl hf hb ha),
        fun ha => failed (recordFailure_full hn hl ha)⟩⟩⟩
  · have hplain : decidePresentation a k purpose pin s = placeOuter v k slot r s :=
      (decidePresentation_outer hrun v k purpose pin).trans (presentOuter_passed (pass h) (pinCheck_passed hp h0 hdp))
    have hduress := hdec.trans (presentOuter_duress (pass h) (pinCheck_duress hp hd hdu))
    rw [raised_eq] at hduress
    obtain ⟨l, hl⟩ := placeOuter_alarms v k slot r s (raised (duressCodeKey v k) s).atu (raised (duressCodeKey v k) s).link
    rw [hl] at hduress
    rw [hduress, hplain]
    refine ⟨rfl, rfl, fun hlaw hroom => ?_⟩
    have hlt : s.atu.table.length < 48 := by
      have : s.atu.table.length + 4 ≤ 48 := hroom
      omega
    exact raised_stands hlaw hlt (duressCodeKey v k)
  have hpin : pinCheck r digits = .passed := by
    rcases hp with hp | ⟨pin, hp, h0, rfl, hd⟩
    · exact pinCheck_none hp digits
    · exact pinCheck_passed hp h0 hd
  have hplace : decided = placeOuter v k slot r s := hdec.trans (presentOuter_passed (pass h) hpin)
  refine ⟨fun hk => hplace.trans (placeOuter_refused (State.placeVerdict_passback hk) slot r), fun hk =>
    ⟨fun hf => hplace.trans (placeOuter_refused (State.placeVerdict_full hk hf) slot r), fun hload hsite => ?_⟩⟩
  have hgrant : decided = grantOuter v k slot r s :=
    hplace.trans (placeOuter_placed (State.placeVerdict_none hk hload hsite) slot r)
  refine ⟨fun hd => hgrant.trans (grantOuter_interlock hd k slot r), fun hd ho hu => ?_,
    fun n hd ho hu hq hl => hgrant.trans (grantOuter_storeBusy hd ho hu hq hl), fun n hd ho hu hp => ?_⟩
  · rw [hgrant.trans (grantOuter_unlimited hd ho hcred hu)]
    obtain ⟨hnva, hocc, hssq, -⟩ := recordOuterGrant_keeps v s
    exact ⟨rfl, recordOuterGrant_door v s, hnva, hocc, hssq⟩
  · intro used
    have hread := place_slotContent slot (some used) s
    rw [hgrant.trans (grantOuter_spends hd ho hcred hr hu hp)]
    obtain ⟨hnva, hocc, hssq, harray⟩ := recordOuterGrant_keeps v (place (.slot slot (some used)) s)
    obtain ⟨x, hx⟩ := place_slot_eq slot (some used) s
    refine ⟨rfl, (recordOuterGrant_slotContent v _ slot).trans ((hread slot).trans (if_pos rfl)), fun m hm =>
      (recordOuterGrant_slotContent v _ m).trans ((hread m).trans (if_neg hm)), ?_, ?_, ?_, ?_, ?_⟩
    · exact (congrArg Nva.queue hnva).trans (congrArg (fun u => u.nva.queue) hx)
    · refine (recordOuterGrant_door v _).trans ?_
      rw [hx]
      rfl
    · exact hocc.trans (by rw [hx])
    · exact hssq.trans (by rw [hx])
    · exact harray.trans (by rw [hx])

end Sys2Proof.Machine

namespace Sys2Proof.Machine

/-! ## The credential record image gives its record back (R213) -/

theorem toNat_byteOf (n : Nat) : (byteOf n).toNat = n % 256 := BitVec.toNat_ofNat n 8

theorem num4_bytes4 {n : Nat} (h : n < 4294967296) :
    num4 (byteOf (n / 16777216)) (byteOf (n / 65536)) (byteOf (n / 256)) (byteOf n) = n := by
  simp only [num4, toNat_byteOf]
  omega

theorem num2_bytes2 {n : Nat} (h : n < 65536) : num2 (byteOf (n / 256)) (byteOf n) = n := by
  simp only [num2, toNat_byteOf]
  omega

/-- The eight digit nibbles of a code: its digits, and unused nibbles behind them. -/
theorem nibbles_eq {digits : List Nat} (h : digits.length ≤ 8) :
    [nibble digits 0, nibble digits 1, nibble digits 2, nibble digits 3, nibble digits 4, nibble digits 5,
      nibble digits 6, nibble digits 7] = digits ++ List.replicate (8 - digits.length) 15 := by
  have hr : (List.range 8).map (nibble digits) = digits ++ List.replicate (8 - digits.length) 15 := by
    refine List.ext_getElem (by simp; omega) fun i hi hj => ?_
    simp only [List.getElem_map, List.getElem_range, nibble, List.getElem_append, List.getD_eq_getElem?_getD]
    split
    · next hlt => simp [hlt]
    · next hge => simp [Nat.not_lt.1 hge]
  exact hr

theorem nibble_lt {digits : List Nat} (h : ∀ x ∈ digits, x ≤ 9) (i : Nat) : nibble digits i < 16 := by
  unfold nibble
  rw [List.getD_eq_getElem?_getD]
  cases hi : digits[i]? with
  | none => simp
  | some x =>
    have := h x (List.mem_of_getElem? hi)
    simp only [Option.getD_some]
    omega

/-- Two nibbles in a byte come back. -/
theorem byteOf_nibbles {x y : Nat} (hx : x < 16) (hy : y < 16) :
    (byteOf (16 * x + y)).toNat / 16 = x ∧ (byteOf (16 * x + y)).toNat % 16 = y := by
  rw [toNat_byteOf]
  omega

theorem digitsOfBytes_digitBytes {code : Option (List Nat)} (h : ∀ d, code = some d → goodCode d = true) :
    digitsOfBytes (digitsOf code).length
      (byteOf (16 * nibble (digitsOf code) 0 + nibble (digitsOf code) 1))
      (byteOf (16 * nibble (digitsOf code) 2 + nibble (digitsOf code) 3))
      (byteOf (16 * nibble (digitsOf code) 4 + nibble (digitsOf code) 5))
      (byteOf (16 * nibble (digitsOf code) 6 + nibble (digitsOf code) 7)) = some code := by
  have hgood : (digitsOf code).length ≤ 8 ∧ ∀ x ∈ digitsOf code, x ≤ 9 := by
    cases code with
    | none => simp [digitsOf]
    | some d =>
      have := h d rfl
      simp only [goodCode, Bool.and_eq_true, decide_eq_true_eq, List.all_eq_true] at this
      exact ⟨this.1.2, this.2⟩
  obtain ⟨hl, hd⟩ := hgood
  have hn (i j : Nat) := byteOf_nibbles (nibble_lt hd i) (nibble_lt hd j)
  have hnib := nibbles_eq hl
  unfold digitsOfBytes
  simp only [(hn _ _).1, (hn _ _).2, hnib]
  rw [List.take_left' rfl, List.drop_left' rfl]
  have hall : ((digitsOf code).all fun x => decide (x ≤ 9)) = true := by simpa using hd
  have hrest : ((List.replicate (8 - (digitsOf code).length) 15).all fun x => decide (x = 15)) = true := by simp
  rw [hall, hrest]
  cases code with
  | none => rfl
  | some d =>
    have := h d rfl
    simp only [goodCode, Bool.and_eq_true, decide_eq_true_eq] at this
    have h0 : d.length ≠ 0 := by omega
    simp only [digitsOf, Option.getD_some, h0, Bool.and_self, if_true, if_false, this.1, and_self]

theorem digitsOf_length_lt {code : Option (List Nat)} (h : ∀ d, code = some d → goodCode d = true) :
    (digitsOf code).length < 16 := by
  cases code with
  | none => simp [digitsOf]
  | some d =>
    have := h d rfl
    simp only [goodCode, Bool.and_eq_true, decide_eq_true_eq] at this
    simp only [digitsOf, Option.getD_some]
    omega

/-- The flag byte of a record gives its five flags back. -/
theorem flagByte (a b c d e : Bool) :
    (byteOf (bit a + 2 * bit b + 4 * bit c + 8 * bit d + 16 * bit e)).toNat < 32
      ∧ (byteOf (bit a + 2 * bit b + 4 * bit c + 8 * bit d + 16 * bit e)).getLsbD 0 = a
      ∧ (byteOf (bit a + 2 * bit b + 4 * bit c + 8 * bit d + 16 * bit e)).getLsbD 1 = b
      ∧ (byteOf (bit a + 2 * bit b + 4 * bit c + 8 * bit d + 16 * bit e)).getLsbD 2 = c
      ∧ (byteOf (bit a + 2 * bit b + 4 * bit c + 8 * bit d + 16 * bit e)).getLsbD 3 = d
      ∧ (byteOf (bit a + 2 * bit b + 4 * bit c + 8 * bit d + 16 * bit e)).getLsbD 4 = e := by
  revert a b c d e
  decide

theorem stateByte (st : CredState) :
    (byteOf (stateCode st)).toNat ≠ 0 ∧ stateOfCode (byteOf (stateCode st)).toNat = some st := by
  cases st <;> decide

/-- A field that a flag marks comes back where its value does. -/
theorem optional_field {o : Option Nat} {x : Nat} (h : ∀ n, o = some n → x = n) :
    (if o.isSome = true then some x else none) = o := by
  cases o with
  | none => rfl
  | some n => simp [h n rfl]

/-- What R1 says of the fields of a record that the image holds. -/
theorem recordInRange_fields {r : CredRecord} (h : recordInRange r = true) :
    r.number < 4294967296 ∧ (∀ n, r.schedule = some n → n < 32) ∧ (∀ d, r.expiry = some d → d < 65536)
      ∧ (∀ u, r.uses = some u → u < 65536) ∧ (∀ p, r.pin = some p → goodCode p = true)
      ∧ (∀ d, r.duress = some d → goodCode d = true) ∧ r.revision < 256 := by
  simp only [recordInRange, Bool.and_eq_true, decide_eq_true_eq, badNumber, Config.numberMax] at h
  obtain ⟨⟨⟨⟨⟨⟨⟨⟨hn, -⟩, hs⟩, hx⟩, hu⟩, hp⟩, hd⟩, -⟩, hrev⟩ := h
  refine ⟨?_, fun n e => ?_, fun d e => ?_, fun u e => ?_, fun p e => ?_, fun d e => ?_, by omega⟩
  · simp at hn
    omega
  · rw [e] at hs
    simpa [Config.scheduleCount] using hs
  · rw [e] at hx
    simp at hx
    omega
  · rw [e] at hu
    simp at hu
    omega
  · rw [e] at hp
    exact hp
  · rw [e] at hd
    simp at hd
    exact hd.1

/-- The image of a record in range is read as that record. -/
theorem parseSlot_encodeSlot {r : CredRecord} (h : recordInRange r = true) :
    parseSlot (encodeSlot (some r)) = some (some r) := by
  obtain ⟨hn, hs, hx, hu, hp, hd, hrev⟩ := recordInRange_fields h
  obtain ⟨hfl, h0, h1, h2, h3, h4⟩ :=
    flagByte r.escortRequired r.mayEscort r.schedule.isSome r.expiry.isSome r.uses.isSome
  obtain ⟨hst, hcode⟩ := stateByte r.state
  obtain ⟨hdiv, hmod⟩ := byteOf_nibbles (digitsOf_length_lt hp) (digitsOf_length_lt hd)
  have hschedule : (if r.schedule.isSome = true then some (byteOf (r.schedule.getD 0)).toNat else none) = r.schedule :=
    optional_field fun n e => by
      have := hs n e
      rw [e, toNat_byteOf, Option.getD_some]
      omega
  have hexpiry : (if r.expiry.isSome = true then
      some (num2 (byteOf (r.expiry.getD 0 / 256)) (byteOf (r.expiry.getD 0))) else none) = r.expiry :=
    optional_field fun n e => by rw [e, Option.getD_some, num2_bytes2 (hx n e)]
  have huses : (if r.uses.isSome = true then
      some (num2 (byteOf (r.uses.getD 0 / 256)) (byteOf (r.uses.getD 0))) else none) = r.uses :=
    optional_field fun n e => by rw [e, Option.getD_some, num2_bytes2 (hu n e)]
  have hrevision : (byteOf r.revision).toNat = r.revision := by rw [toNat_byteOf]; omega
  simp only [encodeSlot, slotBytes, recordBytes, bytes4, bytes2, digitBytes, List.cons_append, List.nil_append, parseSlot,
    ne_eq, not_true_eq_false, if_false, Nat.not_le.2 hfl, hdiv, hmod, digitsOfBytes_digitBytes hp,
    digitsOfBytes_digitBytes hd, hst, hcode, num4_bytes4 hn, h0, h1, h2, h3, h4, hschedule, hexpiry, huses, hrevision, h,
    if_true]

end Sys2Proof.Machine

namespace Sys2Proof.Machine

/-! ## The reads of the scan after the first (O47) -/

/-! ### The listed cells of an array -/

theorem mem_of_lookupAt {α : Type} {k : Nat} {a : α} {m : List (Nat × α)} (h : lookupAt k m = some a) : (k, a) ∈ m := by
  induction m with
  | nil => simp [lookupAt] at h
  | cons e m ih =>
    unfold lookupAt at h
    split at h
    · next hk =>
      cases h
      exact List.mem_cons.2 (.inl (by rw [hk]))
    · split at h
      · cases h
      · exact List.mem_cons_of_mem _ (ih h)

theorem lt_of_mem_rising {α : Type} {b : Nat} {m : List (Nat × α)} (hm : risingFrom (some b) m = true) {e : Nat × α}
    (he : e ∈ m) : b < e.1 := by
  induction m generalizing b with
  | nil => cases he
  | cons x m ih =>
    simp only [risingFrom, Bool.and_eq_true, decide_eq_true_eq] at hm
    rcases List.mem_cons.1 he with rfl | he
    · exact hm.1
    · exact Nat.lt_trans hm.1 (ih hm.2 he)

theorem lookupAt_of_mem {α : Type} {m : List (Nat × α)} (hm : risingFrom none m = true) {e : Nat × α} (he : e ∈ m) :
    lookupAt e.1 m = some e.2 := by
  induction m with
  | nil => cases he
  | cons x m ih =>
    have hm' : risingFrom (some x.1) m = true := by simpa [risingFrom] using hm
    rcases List.mem_cons.1 he with rfl | he
    · simp [lookupAt]
    · have hlt := lt_of_mem_rising hm' he
      unfold lookupAt
      rw [if_neg (by omega), if_neg (by omega)]
      exact ih (risingFrom_none hm') he

theorem NvArray.slotCell_of_mem {a : NvArray} (h : a.canonical = true) {e : Nat × Cell (List Byte)}
    (he : e ∈ a.slots) : a.slotCell e.1 = e.2 := by
  simp only [NvArray.canonical, Machine.canonical, Bool.and_eq_true] at h
  unfold NvArray.slotCell
  rw [lookupAt_of_mem h.1.1 he, Option.getD_some]

theorem NvArray.mem_of_slotCell {a : NvArray} {n : Nat} (h : a.slotCell n ≠ erasedSlot) : (n, a.slotCell n) ∈ a.slots := by
  unfold NvArray.slotCell at h ⊢
  cases hl : lookupAt n a.slots with
  | none => exact absurd (by rw [hl]; rfl) h
  | some c => exact mem_of_lookupAt hl

set_option maxRecDepth 10000 in
theorem cellRecord_erasedSlot : cellRecord erasedSlot = some none := by decide

/-- A slot whose cell holds a record is listed in the array. -/
theorem NvArray.mem_of_cellRecord {a : NvArray} {n : Nat} {r : CredRecord}
    (h : cellRecord (a.slotCell n) = some (some r)) : (n, a.slotCell n) ∈ a.slots :=
  NvArray.mem_of_slotCell fun e => by
    rw [e, cellRecord_erasedSlot] at h
    cases h

theorem cellRecord_encoded {r : CredRecord} (h : recordInRange r = true) :
    cellRecord (.content (encodeSlot (some r))) = some (some r) :=
  parseSlot_encodeSlot h

/-- All that the duplicate test of the scan asks (R39). -/
theorem State.heldBelow_iff (s : State) (k n : Nat) : s.heldBelow k n = true ↔
    ∃ e ∈ s.array.slots, e.1 < n ∧ e.1 ∉ s.nva.damagedSlots ∧ ∃ r, cellRecord e.2 = some (some r) ∧ r.number = k := by
  unfold State.heldBelow
  simp only [List.any_eq_true, Bool.and_eq_true, decide_eq_true_eq, Bool.not_eq_true', decide_eq_false_iff_not, and_assoc]
  refine exists_congr fun e => and_congr_right fun _ => and_congr_right fun _ => and_congr_right fun _ => ?_
  split
  · next r hr => simp [hr]
  · next hn =>
    simp only [Bool.false_eq_true, false_iff]
    rintro ⟨r, hr, -⟩
    exact hn r hr

/-! ### One read -/

theorem exec_scanTargetRead {s : State} (hp : s.phase = .scanning) (hd : s.due = []) :
    exec .scanTargetRead s = .next (readNext s) :=
  settledEvent_awake _ ⟨fun h => Phase.noConfusion (hp.symm.trans h), hd⟩

theorem readNext_mid {s : State} (hp : s.phase = .scanning) {k : Nat} (hk : s.scanPos = k) (h0 : 0 < k)
    (hlt : k < 2081) : readNext s = { readTarget k s with scanPos := k + 1 } := by
  subst hk
  unfold readNext
  rw [if_pos ⟨hp, h0, show s.scanPos < 2082 by omega⟩]
  exact if_neg (show ¬ s.scanPos + 1 = 2082 by omega)

theorem readNext_last {s : State} (hp : s.phase = .scanning) (hk : s.scanPos = 2081) :
    readNext s = endScan { readTarget 2081 s with scanPos := 2082 } := by
  unfold readNext
  rw [hk, if_pos ⟨hp, by decide, by decide⟩]
  exact if_pos rfl

theorem readTarget_schedule {n : Nat} (hn : n < 32) (s : State) : readTarget (2 + n) s = readScheduleTarget n s := by
  have hlt : 2 + n < 2 + Config.scheduleCount := Nat.add_lt_add_left hn 2
  unfold readTarget
  rw [if_neg (by omega), if_pos hlt, Nat.add_sub_cancel_left]

theorem readTarget_slot (n : Nat) (s : State) : readTarget (34 + n) s = readSlotTarget n s := by
  have hle : ¬ 34 + n < 2 + Config.scheduleCount := Nat.not_lt.2 (Nat.le_add_right 34 n)
  have hn : 34 + n - 2 - 32 = n := by omega
  unfold readTarget
  rw [if_neg (by omega), if_neg hle]
  exact congrArg (readSlotTarget · s) hn

/-- The holiday list rises (R54). -/
theorem ascending_iff (days : List Nat) : ascending days = true ↔ days.Pairwise (· < ·) := by
  rw [← List.isChain_iff_pairwise]
  induction days with
  | nil => simp [ascending]
  | cons a l ih =>
    cases l with
    | nil => simp [ascending]
    | cons b l => simp only [ascending, Bool.and_eq_true, decide_eq_true_eq, ih, List.isChain_cons_cons]

/-! ### The reads of the holiday list and of the schedules -/

theorem State.alarmRoom.lt {s : State} (h : s.alarmRoom) : s.atu.table.length < 48 := by
  have : s.atu.table.length + 4 ≤ 48 := h
  omega

theorem readHolidayTarget_good {s : State} {days : List Nat} (h : s.array.holidays = .content days)
    (hd : days.Pairwise (· < ·)) : readHolidayTarget s = s.withCal { s.cal with holidays := days } := by
  unfold readHolidayTarget
  rw [h]
  exact if_pos ((ascending_iff days).2 hd)

theorem readHolidayTarget_bad {s : State}
    (h : s.array.holidays = .checkFails ∨ ∃ days, s.array.holidays = .content days ∧ ¬ days.Pairwise (· < ·)) :
    readHolidayTarget s = damage .holidays none (s.withCal { s.cal with holidays := [] }) := by
  unfold readHolidayTarget
  rcases h with h | ⟨days, h, hd⟩
  · rw [h]
  · rw [h]
    exact if_neg fun ha => hd ((ascending_iff days).1 ha)

theorem readScheduleTarget_good {s : State} {n : Nat} {w : List Window}
    (h : cellWindows (s.array.scheduleCell n) = some w) : readScheduleTarget n s = s.withCal (s.cal.setSchedule n w) := by
  unfold readScheduleTarget
  rw [h]

theorem readScheduleTarget_bad {s : State} {n : Nat} (h : cellWindows (s.array.scheduleCell n) = none) :
    readScheduleTarget n s = damage (.schedule n) none (s.withCal (s.cal.setSchedule n [])) := by
  unfold readScheduleTarget
  rw [h]

/-- The working copy of the schedules after a record is put there. -/
theorem Cal.windows_setSchedule {c : Cal} (h : Machine.canonical [] c.schedules = true) (n m : Nat) (w : List Window) :
    (c.setSchedule n w).windows m = if m = n then w else c.windows m :=
  lookupAt_storeAt [] n m w h

/-- What the damage of a target found by a read leaves: the calendar, and the target DAMAGED with STORE-FAULT raised. -/
theorem damage_read {s : State} (hl : s.atu.lawful = true) (hroom : s.alarmRoom) {t : Target} (ht : ∀ n, t ≠ .slot n) :
    (damage t none s).cal = s.cal ∧ t ∈ (damage t none s).nva.damaged
      ∧ (damage t none s).conditionStands (storeFaultKey t) = true :=
  ⟨State.cal_of_settings (damage_settings t none s), damage_damaged ht none s, damage_stands hl hroom.lt t none⟩

/-! ### The read of a slot -/

theorem readSlotTarget_record {s : State} {n : Nat} {r : CredRecord}
    (h : cellRecord (s.array.slotCell n) = some (some r)) (hb : s.heldBelow r.number n = false) :
    readSlotTarget n s = s := by
  unfold readSlotTarget
  rw [h]
  exact if_neg (by simp [hb])

theorem readSlotTarget_free {s : State} {n : Nat} (h : cellRecord (s.array.slotCell n) = some none) :
    readSlotTarget n s = s := by
  unfold readSlotTarget
  rw [h]

theorem readSlotTarget_unread {s : State} {n : Nat} (h : cellRecord (s.array.slotCell n) = none) :
    readSlotTarget n s = damage (.slot n) none s := by
  unfold readSlotTarget
  rw [h]

theorem readSlotTarget_duplicate {s : State} {n : Nat} {r : CredRecord}
    (h : cellRecord (s.array.slotCell n) = some (some r)) (hb : s.heldBelow r.number n = true) :
    readSlotTarget n s = damage (.slot n) none s := by
  unfold readSlotTarget
  rw [h]
  exact if_pos hb

/-- No slot below holds the number, where none that is not DAMAGED does. -/
theorem State.heldBelow_eq_false {s : State} {k n : Nat} (hc : s.array.canonical = true)
    (h : ∀ m r, m < n → m ∉ s.nva.damagedSlots → cellRecord (s.array.slotCell m) = some (some r) → r.number ≠ k) :
    s.heldBelow k n = false := by
  rw [Bool.eq_false_iff]
  intro hb
  obtain ⟨e, he, hlt, hd, r, hr, hk⟩ := (s.heldBelow_iff k n).1 hb
  exact h e.1 r hlt hd (by rw [NvArray.slotCell_of_mem hc he]; exact hr) hk

/-- A slot below that holds the number and is not DAMAGED. -/
theorem State.heldBelow_of_record {s : State} {m n : Nat} {r : CredRecord} (hlt : m < n)
    (hd : m ∉ s.nva.damagedSlots) (h : cellRecord (s.array.slotCell m) = some (some r)) :
    s.heldBelow r.number n = true :=
  (s.heldBelow_iff r.number n).2 ⟨_, NvArray.mem_of_cellRecord h, hlt, hd, r, h, rfl⟩

/-- What the damage of a slot found by a read leaves (R33, R38). -/
theorem damage_readSlot {s : State} (hl : s.atu.lawful = true) (hroom : s.alarmRoom) (n : Nat) :
    n ∈ (damage (.slot n) none s).nva.damagedSlots
      ∧ (damage (.slot n) none s).conditionStands (storeFaultKey (.slot n)) = true
      ∧ (damage (.slot n) none s).phase = s.phase ∧ (damage (.slot n) none s).array = s.array
      ∧ (damage (.slot n) none s).cal = s.cal ∧ (damage (.slot n) none s).cfg = s.cfg := by
  refine ⟨?_, damage_stands hl hroom.lt _ none, ?_⟩
  · rw [damage_slot_nva]
    exact (mem_insertNat n n _).2 (.inl rfl)
  · rw [damage_fields]
    exact ⟨rfl, rfl, rfl, rfl⟩

end Sys2Proof.Machine

namespace Sys2Proof.Machine

/-! ## The scan end and the reads of the scan (O47) -/

/-! ### The index that the scan builds -/

/-- One listed slot joins the index, as the scan end does it (R39). -/
def State.indexed (s : State) (index : List (Nat × Nat)) (e : Nat × Cell (List Byte)) : List (Nat × Nat) :=
  if e.1 ∈ s.nva.damagedSlots then index
  else
    match cellRecord e.2 with
    | some (some r) => insertAt r.number e.1 index
    | _ => index

theorem State.builtIndex_eq (s : State) : s.builtIndex = s.array.slots.foldl s.indexed [] := rfl

theorem State.indexed_record {s : State} {e : Nat × Cell (List Byte)} (hd : e.1 ∉ s.nva.damagedSlots) {r : CredRecord}
    (hr : cellRecord e.2 = some (some r)) (index : List (Nat × Nat)) :
    s.indexed index e = insertAt r.number e.1 index := by
  unfold State.indexed
  rw [if_neg hd, hr]

/-- A listed slot is added under the number of its record, or leaves the index. -/
theorem State.indexed_cases (s : State) (e : Nat × Cell (List Byte)) (index : List (Nat × Nat)) :
    s.indexed index e = index
      ∨ ∃ r, e.1 ∉ s.nva.damagedSlots ∧ cellRecord e.2 = some (some r)
          ∧ s.indexed index e = insertAt r.number e.1 index := by
  by_cases hd : e.1 ∈ s.nva.damagedSlots
  · exact .inl (if_pos hd)
  · rcases hr : cellRecord e.2 with - | - | r
    · left
      unfold State.indexed
      rw [if_neg hd, hr]
    · left
      unfold State.indexed
      rw [if_neg hd, hr]
    · exact .inr ⟨r, hd, rfl, s.indexed_record hd hr index⟩

theorem State.indexed_rising (s : State) (e : Nat × Cell (List Byte)) {index : List (Nat × Nat)}
    (h : risingFrom none index = true) : risingFrom none (s.indexed index e) = true := by
  rcases s.indexed_cases e index with he | ⟨r, -, -, he⟩
  · exact he.symm ▸ h
  · exact he.symm ▸ risingFrom_none_insertAt _ _ h

/-- Where every listed slot that holds a number and is not DAMAGED is the slot `n`, the slot that the index gives the number
stays, and is given once the slot has been added. -/
theorem State.foldl_indexed {s : State} {k n : Nat} {l : List (Nat × Cell (List Byte))}
    (honly : ∀ e ∈ l, ∀ r, e.1 ∉ s.nva.damagedSlots → cellRecord e.2 = some (some r) → r.number = k → e.1 = n)
    {index : List (Nat × Nat)} (hi : risingFrom none index = true)
    (h : lookupAt k index = some n
      ∨ ∃ e ∈ l, e.1 ∉ s.nva.damagedSlots ∧ ∃ r, cellRecord e.2 = some (some r) ∧ r.number = k) :
    lookupAt k (l.foldl s.indexed index) = some n := by
  induction l generalizing index with
  | nil =>
    rcases h with h | ⟨e, he, -⟩
    · exact h
    · cases he
  | cons x l ih =>
    refine ih (fun e he => honly e (List.mem_cons_of_mem _ he)) (s.indexed_rising x hi) ?_
    have hx := honly x List.mem_cons_self
    rcases h with h | ⟨e, he, hd, r, hr, hk⟩
    · left
      rcases s.indexed_cases x index with hs | ⟨r, hd, hr, hs⟩
      · rw [hs, h]
      · rw [hs, lookupAt_insertAt _ _ _ _ hi]
        split
        · next hk => rw [hx r hd hr hk.symm]
        · exact h
    · rcases List.mem_cons.1 he with rfl | he
      · left
        rw [s.indexed_record hd hr, lookupAt_insertAt _ _ _ _ hi, if_pos hk.symm, hx r hd hr hk]
      · exact .inr ⟨e, he, hd, r, hr, hk⟩

/-- The built index gives a number its slot, where that slot alone holds the number (R39). -/
theorem State.lookupAt_builtIndex {s : State} (hc : s.array.canonical = true) {n : Nat} {r : CredRecord}
    (hd : n ∉ s.nva.damagedSlots) (hr : cellRecord (s.array.slotCell n) = some (some r))
    (honly : ∀ m r', m ∉ s.nva.damagedSlots → cellRecord (s.array.slotCell m) = some (some r') →
      r'.number = r.number → m = n) : lookupAt r.number s.builtIndex = some n := by
  rw [s.builtIndex_eq]
  refine State.foldl_indexed (fun e he r' hd' hr' hk => honly e.1 r' hd' ?_ hk) rfl
    (.inr ⟨_, NvArray.mem_of_cellRecord hr, hd, r, hr, rfl⟩)
  rw [NvArray.slotCell_of_mem hc he]
  exact hr'

/-! ### The scan end -/

/-- The scan end changes the attempt in flight and nothing else of the record of the array, and builds the index. -/
theorem endScan_store (s : State) : (endScan s).nva = { s.nva with inFlight := (endScan s).nva.inFlight }
    ∧ (endScan s).index = s.builtIndex := by
  have hst := evaluateMode_store { s with index := s.builtIndex, phase := .running }
  have hnva := startAttempt_nva (evaluateMode { s with index := s.builtIndex, phase := .running })
  unfold endScan
  refine ⟨?_, ?_⟩
  · rw [State.nva_of_store hst] at hnva
    exact hnva
  · rw [startAttempt_eq]
    exact State.index_of_store hst

/-! ### The commands of the reads -/

section
variable {s : State} (hp : s.phase = .scanning) (hd : s.due = [])
include hp hd

/-- A read of the scan that is neither the first nor the last. -/
theorem exec_read {k : Nat} (hk : s.scanPos = k) (h0 : 0 < k) (hlt : k < 2081) :
    exec .scanTargetRead s = .next { readTarget k s with scanPos := k + 1 } :=
  (exec_scanTargetRead hp hd).trans (congrArg _ (readNext_mid hp hk h0 hlt))

theorem exec_readHolidays (hk : s.scanPos = 1) :
    exec .scanTargetRead s = .next { readHolidayTarget s with scanPos := 2 } :=
  exec_read hp hd hk (by omega) (by omega)

theorem exec_readSchedule {n : Nat} (hn : n < 32) (hk : s.scanPos = 2 + n) :
    exec .scanTargetRead s = .next { readScheduleTarget n s with scanPos := 3 + n } := by
  rw [exec_read hp hd hk (by omega) (by omega), readTarget_schedule hn, show 2 + n + 1 = 3 + n by omega]

theorem exec_readSlot {n : Nat} (hn : n < 2047) (hk : s.scanPos = 34 + n) :
    exec .scanTargetRead s = .next { readSlotTarget n s with scanPos := 35 + n } := by
  rw [exec_read hp hd hk (by omega) (by omega), readTarget_slot, show 34 + n + 1 = 35 + n by omega]

/-- A read that damages its slot (R38, R39). -/
theorem exec_readSlot_damaged {n : Nat} (hl : s.atu.lawful = true) (hroom : s.alarmRoom) (hn : n < 2047)
    (hk : s.scanPos = 34 + n) (h : readSlotTarget n s = damage (.slot n) none s) :
    ∃ t, exec .scanTargetRead s = .next t ∧ n ∈ t.nva.damagedSlots ∧ t.scanPos = 35 + n
      ∧ t.conditionStands (storeFaultKey (.slot n)) = true ∧ t.phase = .scanning
      ∧ t.array = s.array ∧ t.cal = s.cal ∧ t.cfg = s.cfg := by
  obtain ⟨hmem, hstands, hphase, hrest⟩ := damage_readSlot hl hroom n
  refine ⟨_, exec_readSlot hp hd hn hk, ?_⟩
  rw [h]
  exact ⟨hmem, rfl, hstands, hphase.trans hp, hrest⟩

/-- The read of slot 2047 ends the scan with the index built (R39). -/
theorem exec_lastRead (hk : s.scanPos = 2081) :
    ∃ t, exec .scanTargetRead s = .next t ∧ t.phase = .running ∧ t.scanPos = 2082 ∧ t.array = s.array
      ∧ (s.array.canonical = true → ∀ n r, n ∉ t.nva.damagedSlots →
          cellRecord (s.array.slotCell n) = some (some r) →
          (∀ m r', m ∉ t.nva.damagedSlots → cellRecord (s.array.slotCell m) = some (some r') →
            r'.number = r.number → m = n) →
          t.slotOf r.number = some n) := by
  obtain ⟨u, hu⟩ : ∃ u, u = { readTarget 2081 s with scanPos := 2082 } := ⟨_, rfl⟩
  have harray : u.array = s.array := by
    have hread := State.array_of_fixed (readTarget_fixed 2081 s)
    rw [hu]
    exact hread
  have hfixed : (endScan u).fixed = State.fixed { u with phase := .running } := by
    unfold endScan
    rw [startAttempt_fixed, evaluateMode_fixed]
    rfl
  obtain ⟨hnva, hindex⟩ := endScan_store u
  refine ⟨endScan u, ?_, endScan_phase u, ?_, (State.array_of_fixed hfixed).trans harray, ?_⟩
  · rw [exec_scanTargetRead hp hd, readNext_last hp hk, hu]
  · rw [State.scanPos_of_fixed hfixed, hu]
  · intro hc n r hdn hr honly
    have hdamaged : (endScan u).nva.damagedSlots = u.nva.damagedSlots := by rw [hnva]
    rw [hdamaged] at hdn honly
    rw [← harray] at hc hr honly
    unfold State.slotOf
    rw [hindex]
    exact State.lookupAt_builtIndex hc hdn hr honly

end

end Sys2Proof.Machine

namespace Sys2Proof.Machine

/-! ## The configuration read (O47) -/

/-! ### A vault at rest, and how its blocks begin -/

/-- What the begin of a vault's blocks needs of the records of the vault: a QUIET sequencer, the door and the lines of a
reset. -/
structure State.Resting (s : State) (v : Vault) : Prop where
  quiet : (s.sequencer v).state = .quiet
  door : s.door v = resetDoor
  lines : s.lines.get v = resetLines

/-- The door record of bolts that extend from rest. -/
def extendingDoor (travel : Nat) : DoorRecord := { resetDoor with vault := .extending, travel := some travel }

/-- The door record of a vault whose doors have begun: the bolts of an enabled vault extend (R143). -/
def State.begunDoor (s : State) (v : Vault) : DoorRecord :=
  if s.enabled v then extendingDoor ((s.group v).tBolt * 100) else resetDoor

/-- What a vault's blocks hold once they have begun, told from the state before (R143, R160, R186). -/
structure State.Begun (s t : State) (v : Vault) : Prop where
  committed : (t.sequencer v).committed = s.stagedSet v
  quiet : (t.sequencer v).state = .quiet
  certain : (t.occupancy v).certain = ((s.occupancy v).certain || !s.enabled v)
  door : t.door v = s.begunDoor v

/-- The blocks of a vault stand. -/
structure State.Untouched (s t : State) (v : Vault) : Prop where
  sequencer : t.sequencer v = s.sequencer v
  occupancy : t.occupancy v = s.occupancy v
  door : t.door v = s.door v

/-- The blocks of the vaults and the link's waiting set are all that differs. -/
def State.SameButBlocks (s t : State) : Prop :=
  t = { s with ssq := t.ssq, occ := t.occ, doors := t.doors, link := t.link }

theorem occupancyReported_quiet {s : State} {v : Vault} (h : (s.sequencer v).state = .quiet) :
    occupancyReported v s = s.withSequencer v { s.sequencer v with clear := s.clearVault v } := by
  unfold occupancyReported
  dsimp only
  rw [State.withSequencer_sequencer]
  dsimp only
  rw [h]

theorem countsActive_resetLines {s : State} {v : Vault} (h : s.lines.get v = resetLines) (l : Line) :
    s.countsActive v l = false := by
  unfold State.countsActive State.lineRecord
  rw [h]
  cases l <;> rfl

theorem withdrawOuter_none {s : State} {v : Vault} (h : (s.door v).outerGrant = none) : withdrawOuter v s = s := by
  unfold withdrawOuter
  rw [h]

/-- Entry into EXTENDING with no grant at the outer door changes the door state alone. -/
theorem setVaultState_extending {s : State} {v : Vault} (h : (s.door v).outerGrant = none) :
    setVaultState v .extending s = putDoor v { s.door v with vault := .extending } s := by
  have hg : ((putDoor v { s.door v with vault := .extending } s).door v).outerGrant = none :=
    (congrArg DoorRecord.outerGrant (putDoor_door v _ s)).trans h
  unfold setVaultState
  dsimp only
  rw [if_neg (show VaultState.extending ≠ .secured from VaultState.noConfusion),
    if_neg (show VaultState.extending ≠ .released from VaultState.noConfusion), withdrawOuter_none hg, ite_self]

/-- The bolts of a door at rest begin to extend (R127, R143). -/
theorem startExtend_rest {s : State} {v : Vault} (hd : s.door v = resetDoor) (hl : s.lines.get v = resetLines) :
    startExtend v s =
      { s.withDoor v (extendingDoor ((s.group v).tBolt * 100)) with link := (startExtend v s).link } := by
  obtain ⟨u, hu⟩ : ∃ u, u = s.withDoor v { resetDoor with travel := some (s.travelTicks v) } := ⟨_, rfl⟩
  have hdoor : u.door v = { resetDoor with travel := some (s.travelTicks v) } := by
    rw [hu]
    exact State.withDoor_door s v _
  have hset : setVaultState v .extending u = putDoor v (extendingDoor (s.travelTicks v)) u := by
    rw [setVaultState_extending (by rw [hdoor]; rfl), hdoor]
    rfl
  have hput := putDoor_eq v (extendingDoor (s.travelTicks v)) u
  have hstart : startExtend v s = putDoor v (extendingDoor (s.travelTicks v)) u := by
    unfold startExtend
    dsimp only
    rw [hd, show s.withDoor v { resetDoor with travel := some (s.travelTicks v), relock := none } = u from hu.symm, hset]
    refine if_neg (Bool.eq_false_iff.1 (countsActive_resetLines ?_ _))
    rw [hput, hu]
    exact hl
  have htwice : u.withDoor v (extendingDoor (s.travelTicks v)) = s.withDoor v (extendingDoor (s.travelTicks v)) := by
    rw [hu]
    exact congrArg (fun d => { s with doors := d }) (PerVault.set_set s.doors v _ _)
  rw [htwice] at hput
  rw [hstart]
  exact hput

/-- The sequencer, the list and the door of a vault, and the link, replaced. -/
def State.withBlocks (s : State) (v : Vault) (q : SsqRecord) (o : VaultOccupancy) (d : DoorRecord) (l : Link) : State :=
  { s with ssq := s.ssq.set v q, occ := s.occ.set v o, doors := s.doors.set v d, link := l }

theorem State.withBlocks_sameList (s : State) (v : Vault) (q : SsqRecord) (d : DoorRecord) (l : Link) :
    s.withBlocks v q (s.occupancy v) d l = { (s.withSequencer v q).withDoor v d with link := l } := by
  unfold State.withBlocks State.occupancy
  rw [PerVault.set_get]
  rfl

theorem State.withBlocks_sameDoor (s : State) (v : Vault) (q : SsqRecord) (o : VaultOccupancy) (l : Link) :
    s.withBlocks v q o (s.door v) l = { (s.withSequencer v q).withOccupancy v o with link := l } := by
  unfold State.withBlocks State.door
  rw [PerVault.set_get]
  rfl

theorem State.withSequencer_twice (s : State) (v : Vault) (q r : SsqRecord) :
    (s.withSequencer v q).withSequencer v r = s.withSequencer v r :=
  congrArg (fun x => { s with ssq := x }) (PerVault.set_set s.ssq v q r)

/-- The begin of the blocks of an enabled vault at rest (R143, R160, R186). -/
theorem beginVault_enabled {s : State} {v : Vault} (h : s.Resting v) (hl : s.atu.latch = false)
    (he : s.enabled v = true) : ∃ c l, beginVault v s =
      s.withBlocks v { s.sequencer v with committed := s.stagedSet v, clear := c } (s.occupancy v)
        (extendingDoor ((s.group v).tBolt * 100)) l := by
  obtain ⟨q, hq⟩ : ∃ q, q = { s.sequencer v with committed := s.stagedSet v } := ⟨_, rfl⟩
  have hquiet : q.state = .quiet := by rw [hq]; exact h.quiet
  obtain ⟨c, hc⟩ : ∃ c, c = (s.withSequencer v q).clearVault v := ⟨_, rfl⟩
  obtain ⟨u, hu⟩ : ∃ u, u = s.withSequencer v { q with clear := c } := ⟨_, rfl⟩
  have hreported : occupancyReported v (s.withSequencer v q) = u := by
    rw [occupancyReported_quiet (by rw [State.withSequencer_sequencer]; exact hquiet), State.withSequencer_sequencer,
      State.withSequencer_twice, hu, hc]
  have hdoors : beginDoors v u = startExtend v u := by
    refine if_neg ?_
    rw [State.emergencyCause, hu, State.withSequencer_sequencer]
    simp [hl, hquiet]
  have hbegin : beginVault v s = startExtend v u := by
    unfold beginVault
    dsimp only
    rw [← hq, if_pos (show (s.withSequencer v q).enabled v = true from he), hreported,
      if_pos (show u.enabled v = true by rw [hu]; exact he), hdoors]
  have hext := @startExtend_rest u v (by rw [hu]; exact h.door) (by rw [hu]; exact h.lines)
  refine ⟨c, (startExtend v u).link, ?_⟩
  rw [State.withBlocks_sameList, hbegin, hext, hu, hq]
  rfl

/-- The begin of the blocks of a vault at rest that is not enabled (R143, R160, R186). -/
theorem beginVault_disabled {s : State} {v : Vault} (h : s.Resting v) (he : s.enabled v = false) :
    ∃ c l, beginVault v s =
      s.withBlocks v { s.sequencer v with committed := s.stagedSet v, clear := c }
        { s.occupancy v with certain := true } (s.door v) l := by
  obtain ⟨q, hq⟩ : ∃ q, q = { s.sequencer v with committed := s.stagedSet v } := ⟨_, rfl⟩
  have hquiet : q.state = .quiet := by rw [hq]; exact h.quiet
  obtain ⟨u, hu⟩ : ∃ u, u = causeOccupancy (setCertain v true (s.withSequencer v q)) := ⟨_, rfl⟩
  have hseq : u.sequencer v = q := by
    rw [hu]
    exact State.withSequencer_sequencer s v q
  have hbegin : beginVault v s = u.withSequencer v { q with clear := u.clearVault v } := by
    unfold beginVault
    dsimp only
    rw [← hq, if_neg (show ¬ (s.withSequencer v q).enabled v = true from Bool.eq_false_iff.1 he), ← hu,
      occupancyReported_quiet (by rw [hseq]; exact hquiet), hseq]
    refine if_neg ?_
    rw [hu]
    exact Bool.eq_false_iff.1 he
  refine ⟨u.clearVault v, u.link, ?_⟩
  rw [State.withBlocks_sameDoor, hbegin, hu, hq]
  show { s with ssq := (s.ssq.set v _).set v _, occ := s.occ.set v _, link := _ } = _
  rw [PerVault.set_set]
  rfl

/-- The begin of the blocks of a vault at rest (R143, R160, R186). -/
theorem beginVault_rest {s : State} {v : Vault} (h : s.Resting v) (hl : s.atu.latch = false) :
    ∃ c l, beginVault v s =
      s.withBlocks v { s.sequencer v with committed := s.stagedSet v, clear := c }
        { s.occupancy v with certain := (s.occupancy v).certain || !s.enabled v } (s.begunDoor v) l := by
  unfold State.begunDoor
  cases he : s.enabled v with
  | true =>
    simpa using beginVault_enabled h hl he
  | false =>
    simpa [h.door] using beginVault_disabled h he

/-! ### The begin of every vault -/

theorem State.SameButBlocks.trans {s t u : State} (h : s.SameButBlocks t) (h' : t.SameButBlocks u) : s.SameButBlocks u := by
  unfold State.SameButBlocks at *
  rw [h', h]

/-- The records of another vault stand. -/
theorem State.withBlocks_untouched (s : State) {v w : Vault} (hw : v ≠ w) (q : SsqRecord) (o : VaultOccupancy)
    (d : DoorRecord) (l : Link) : s.Untouched (s.withBlocks v q o d l) w :=
  ⟨PerVault.get_set_of_ne _ _ hw, PerVault.get_set_of_ne _ _ hw, PerVault.get_set_of_ne _ _ hw⟩

theorem beginVault_begun {s : State} {v : Vault} (h : s.Resting v) (hl : s.atu.latch = false) :
    s.SameButBlocks (beginVault v s) ∧ s.Begun (beginVault v s) v ∧ ∀ w, v ≠ w → s.Untouched (beginVault v s) w := by
  obtain ⟨c, l, hb⟩ := beginVault_rest h hl
  rw [hb]
  refine ⟨rfl, ⟨?_, ?_, ?_, ?_⟩, fun w hw => s.withBlocks_untouched hw _ _ _ _⟩
  · exact congrArg SsqRecord.committed (PerVault.get_set_self _ _ _)
  · exact (congrArg SsqRecord.state (PerVault.get_set_self _ _ _)).trans h.quiet
  · exact congrArg VaultOccupancy.certain (PerVault.get_set_self _ _ _)
  · exact PerVault.get_set_self _ _ _

theorem State.Resting.untouched {s t : State} {w : Vault} (h : s.Resting w) (hs : s.SameButBlocks t)
    (hu : s.Untouched t w) : t.Resting w := by
  refine ⟨hu.sequencer ▸ h.quiet, hu.door.trans h.door, ?_⟩
  rw [hs]
  exact h.lines

theorem State.begunDoor_same {s t : State} (hs : s.SameButBlocks t) (w : Vault) : t.begunDoor w = s.begunDoor w := by
  rw [hs]
  rfl

/-- What a vault's blocks hold after their begin, with the blocks of other vaults begun before. -/
theorem State.Begun.after {s t u : State} {w : Vault} (h : t.Begun u w) (hs : s.SameButBlocks t) (hu : s.Untouched t w) :
    s.Begun u w := by
  have hcfg : t.cfg = s.cfg := by rw [hs]
  refine ⟨?_, h.quiet, ?_, h.door.trans (State.begunDoor_same hs w)⟩
  · rw [h.committed, State.stagedSet, State.stagedSet, hcfg]
  · rw [h.certain, hu.occupancy, State.enabled, State.enabled, State.group, State.group, hcfg]

/-- What a vault's blocks hold after their begin, with the blocks of other vaults begun after. -/
theorem State.Begun.before {s t u : State} {w : Vault} (h : s.Begun t w) (hu : t.Untouched u w) : s.Begun u w :=
  ⟨hu.sequencer ▸ h.committed, hu.sequencer ▸ h.quiet, hu.occupancy ▸ h.certain, hu.door.trans h.door⟩

theorem foldl_beginVault {l : List Vault} (hl : l.Nodup) {s : State} (hlatch : s.atu.latch = false)
    (h : ∀ v ∈ l, s.Resting v) :
    s.SameButBlocks (l.foldl (fun s v => beginVault v s) s)
      ∧ (∀ v ∈ l, s.Begun (l.foldl (fun s v => beginVault v s) s) v)
      ∧ ∀ v, v ∉ l → s.Untouched (l.foldl (fun s v => beginVault v s) s) v := by
  induction l generalizing s with
  | nil => exact ⟨rfl, fun v hv => (List.not_mem_nil hv).elim, fun v _ => ⟨rfl, rfl, rfl⟩⟩
  | cons x l ih =>
    obtain ⟨hx, hnd⟩ := List.nodup_cons.1 hl
    obtain ⟨hsame, hbegun, hother⟩ := beginVault_begun (h x List.mem_cons_self) hlatch
    have hne {w : Vault} (hw : w ∈ l) : x ≠ w := fun e => hx (e ▸ hw)
    have hlatch' : (beginVault x s).atu.latch = false := by rw [hsame]; exact hlatch
    obtain ⟨hsame', hbegun', hother'⟩ := ih hnd hlatch' fun w hw =>
      (h w (List.mem_cons_of_mem x hw)).untouched hsame (hother w (hne hw))
    refine ⟨hsame.trans hsame', fun v hv => ?_, fun v hv => ?_⟩
    · rcases List.mem_cons.1 hv with rfl | hv
      · exact hbegun.before (hother' v hx)
      · exact (hbegun' v hv).after hsame (hother v (hne hv))
    · obtain ⟨hvx, hvl⟩ := List.ne_and_not_mem_of_not_mem_cons hv
      obtain ⟨hq, ho, hd⟩ := hother' v hvl
      obtain ⟨hq', ho', hd'⟩ := hother v hvx.symm
      exact ⟨hq.trans hq', ho.trans ho', hd.trans hd'⟩

theorem Vault.nodup_all : Vault.all.Nodup := by decide

/-- The begin of every vault's blocks from rest (R143, R160, R186). -/
theorem eachVault_begun {s : State} (hlatch : s.atu.latch = false) (h : ∀ v, s.Resting v) :
    s.SameButBlocks (eachVault beginVault s) ∧ ∀ v, s.Begun (eachVault beginVault s) v := by
  obtain ⟨hs, hb, -⟩ := foldl_beginVault Vault.nodup_all hlatch fun v _ => h v
  exact ⟨hs, fun v => hb v v.mem_all⟩

end Sys2Proof.Machine

namespace Sys2Proof.Machine

/-! ## The configuration that a read gives (O47) -/

/-! ### The site mode record and the reader line -/

/-- The configuration with its site mode record resumed (R101). -/
def ConfigBlock.resumed (b : ConfigBlock) : ConfigBlock :=
  { b with site := { b.site with stored := resumedMode b.site.stored } }

theorem resumeMode_eq (s : State) : resumeMode s =
    { s with
      cfg := s.cfg.resumed
      mode := s.cfg.resumed.site.stored.mode
      auto := s.cfg.resumed.site.stored.auto
      link := (resumeMode s).link } := by
  unfold resumeMode
  dsimp only
  split
  · next h =>
    obtain ⟨hmode, hauto⟩ := h
    unfold ConfigBlock.resumed
    rw [← hmode, ← hauto]
    rfl
  · rfl

theorem beginTransaction_eq (s : State) : beginTransaction s =
    { s with readers := (beginTransaction s).readers, rline := (beginTransaction s).rline } := by
  unfold beginTransaction
  split <;> rfl

/-- The next reader of a round that is not empty is there. -/
theorem State.nextReader_ne_none {s : State} {a : ReaderAddress} (h : a ∈ s.round) : s.nextReader ≠ none := by
  have hhead : s.round.head? ≠ none := fun hn => by
    rw [List.head?_eq_none_iff.1 hn] at h
    cases h
  unfold State.nextReader
  split
  · exact hhead
  · split
    · exact Option.some_ne_none _
    · exact hhead

theorem State.mem_round {s : State} {v : Vault} (h : s.enabled v = true) : (⟨v, .outer⟩ : ReaderAddress) ∈ s.round :=
  List.mem_filter.2 ⟨List.mem_flatMap.2 ⟨v, v.mem_all, List.mem_cons_self⟩, h⟩

/-- A transaction begins where a vault is enabled (R81). -/
theorem beginTransaction_phase {s : State} {v : Vault} (h : s.enabled v = true) :
    (beginTransaction s).rline.phase = .partFrame := by
  unfold beginTransaction
  split
  · next hn => exact absurd hn (State.nextReader_ne_none (State.mem_round h))
  · rfl

/-! ### The configuration given to the owners -/

/-- The state with a configuration whose site mode record is resumed. -/
def State.withRead (s : State) (b : ConfigBlock) : State :=
  { s with cfg := b.resumed, mode := b.resumed.site.stored.mode, auto := b.resumed.site.stored.auto }

/-- The blocks of the vaults, the link and the reader line are all that differs. -/
def State.SameButOwners (s t : State) : Prop :=
  t = { s with
    ssq := t.ssq, occ := t.occ, doors := t.doors, link := t.link, readers := t.readers, rline := t.rline }

/-- What the owners hold after a configuration has been given to them at rest (R38, R81, R101, R143, R160, R186). -/
theorem giveConfig_rest {s : State} (hlatch : s.atu.latch = false) (h : ∀ v, s.Resting v) (b : ConfigBlock) :
    (s.withRead b).SameButOwners (giveConfig b s) ∧ ∀ v, (s.withRead b).Begun (giveConfig b s) v
      ∧ ((giveConfig b s).enabled v = true → (giveConfig b s).rline.phase = .partFrame) := by
  obtain ⟨u, hu⟩ : ∃ u, u = { s.withRead b with link := (resumeMode { s with cfg := b }).link } := ⟨_, rfl⟩
  obtain ⟨w, hw⟩ : ∃ w, w = eachVault beginVault u := ⟨_, rfl⟩
  have hgive : giveConfig b s = beginTransaction w := by
    have hres : resumeMode { s with cfg := b } = u := (resumeMode_eq _).trans hu.symm
    unfold giveConfig
    rw [hres, hw]
  have hrest (v : Vault) : u.Resting v := by
    rw [hu]
    exact ⟨(h v).quiet, (h v).door, (h v).lines⟩
  obtain ⟨hsame, hbegun⟩ := eachVault_begun (by rw [hu]; exact hlatch) hrest
  rw [← hw] at hsame hbegun
  have hline := beginTransaction_eq w
  rw [hgive]
  refine ⟨?_, fun v => ⟨?_, fun he => ?_⟩⟩
  · unfold State.SameButOwners
    rw [hline, hsame, hu]
  · have hv := (hbegun v).before (show w.Untouched (beginTransaction w) v by rw [hline]; exact ⟨rfl, rfl, rfl⟩)
    have hlink : State.SameButBlocks (s.withRead b) u := by rw [hu]; rfl
    exact hv.after hlink (by rw [hu]; exact ⟨rfl, rfl, rfl⟩)
  · refine @beginTransaction_phase w v ?_
    rw [hline] at he
    exact he

/-! ### The configuration read -/

theorem raised_latch (key : AlarmKey) (s : State) : (raised key s).atu.latch = s.atu.latch := by
  unfold raised raise
  dsimp only
  (repeat' split) <;> rfl

theorem damage_latch (t : Target) (number : Option Nat) (s : State) : (damage t number s).atu.latch = s.atu.latch := by
  rw [damage_eq, raised_latch, State.withDamage_atu]

/-- Before the configuration read every vault rests (R62, R143, R186). -/
theorem State.resting_of_restSound {s : State} (h : s.restSound = true) (hp : s.phase = .scanning) (hk : s.scanPos = 0)
    (v : Vault) : s.Resting v := by
  have hacts : s.acts v = false := by
    unfold State.acts State.configured
    rw [hp, hk]
    rfl
  unfold State.restSound at h
  simp only [Bool.and_eq_true, List.all_eq_true] at h
  have hv := h.1.1.1 v v.mem_all
  rw [hacts, Bool.false_or] at hv
  unfold State.atRest at hv
  simp only [Bool.and_eq_true, decide_eq_true_eq] at hv
  obtain ⟨⟨⟨⟨⟨⟨hlines, hdoor⟩, -⟩, -⟩, -⟩, hseq⟩, -⟩ := hv
  exact ⟨by rw [hseq]; rfl, hdoor, hlines⟩

theorem exec_configurationRead {s : State} (hp : s.phase = .scanning) (hd : s.due = []) (hk : s.scanPos = 0) :
    (∀ b, cellConfig s.array.config = some b →
      exec .configurationRead s = .next (giveConfig b { s with scanPos := 1 }))
    ∧ (cellConfig s.array.config = none →
      exec .configurationRead s
        = .next (giveConfig (defaultConfig true) (damage .config none { s with scanPos := 1 }))) := by
  have hexec : exec .configurationRead s = .next (readConfiguration s) :=
    settledEvent_awake _ ⟨fun h => Phase.noConfusion (hp.symm.trans h), hd⟩
  rw [hexec]
  unfold readConfiguration
  rw [if_pos ⟨hp, hk⟩]
  dsimp only
  refine ⟨fun b hb => ?_, fun hb => ?_⟩
  all_goals rw [hb]

/-- The record that a stored site mode record resumes as (R101). -/
theorem resumedMode_eq (m : StoredMode) : resumedMode m =
    if m.auto = false ∧ (m.mode = .lockdown ∨ m.mode = .maintenance) then m else { mode := .afterHours, auto := true } := by
  unfold resumedMode
  split
  · next h =>
    obtain ⟨mode, auto⟩ := m
    rw [show auto = false from h.1]
  · rfl

theorem cellConfig_good {c : Cell ConfigBlock} {b : ConfigBlock} (h : c = .content b) (hb : structured b = true) :
    cellConfig c = some (clampConfig b) := by
  rw [h]
  exact if_pos hb

theorem cellConfig_bad {c : Cell ConfigBlock} (h : c = .checkFails ∨ ∃ b, c = .content b ∧ structured b = false) :
    cellConfig c = none := by
  rcases h with rfl | ⟨b, rfl, hb⟩
  · rfl
  · exact if_neg (Bool.eq_false_iff.1 hb)

/-- What the configuration read leaves, whatever the stored cell holds: the mode of the configuration given, and the blocks
of every vault begun (R101, R143, R160, R186). -/
def State.ConfigurationGiven (s t : State) : Prop :=
  t.phase = .scanning ∧ t.scanPos = 1 ∧ t.array = s.array
    ∧ t.mode = t.cfg.site.stored.mode ∧ t.auto = t.cfg.site.stored.auto
    ∧ ∀ v, (t.sequencer v).committed = t.stagedSet v ∧ (t.sequencer v).state = .quiet
      ∧ (t.occupancy v).certain = ((s.occupancy v).certain || !t.enabled v)
      ∧ (t.enabled v = false → t.door v = resetDoor)
      ∧ (t.enabled v = true →
          t.door v = { resetDoor with vault := .extending, travel := some ((t.group v).tBolt * 100) }
            ∧ t.rline.phase = .partFrame)

/-- What the configuration read gives of a state that the stored cell, good or not, leaves. -/
theorem giveConfig_reads {s u : State} (hlatch : u.atu.latch = false) (hrest : ∀ v, u.Resting v)
    (hphase : u.phase = .scanning) (hpos : u.scanPos = 1) (harray : u.array = s.array) (hocc : u.occ = s.occ)
    {b : ConfigBlock} {t : State} (ht : t = giveConfig b u) :
    s.ConfigurationGiven t := by
  obtain ⟨hsame, hv⟩ := giveConfig_rest hlatch hrest b
  rw [← ht] at hsame hv
  have hcfg : t.cfg = (u.withRead b).cfg := by rw [hsame]
  have hfixed : t.phase = u.phase ∧ t.scanPos = u.scanPos ∧ t.array = u.array := by
    rw [hsame]
    exact ⟨rfl, rfl, rfl⟩
  obtain ⟨hp, hk, ha⟩ := hfixed
  refine ⟨hp.trans hphase, hk.trans hpos, ha.trans harray, ?_, ?_, fun v => ?_⟩
  · rw [hcfg, hsame]
    rfl
  · rw [hcfg, hsame]
    rfl
  · obtain ⟨hbegun, hline⟩ := hv v
    have henabled : t.enabled v = (u.withRead b).enabled v := by rw [State.enabled, State.group, hcfg]; rfl
    have hdoor := hbegun.door
    unfold State.begunDoor at hdoor
    refine ⟨?_, hbegun.quiet, ?_, fun he => ?_, fun he => ⟨?_, hline he⟩⟩
    · rw [hbegun.committed, State.stagedSet, State.stagedSet, hcfg]
    · rw [hbegun.certain, henabled, State.occupancy, State.occupancy]
      exact congrArg (fun o : PerVault VaultOccupancy => (o.get v).certain || _) hocc
    · rw [hdoor, if_neg (by rw [← henabled, he]; exact Bool.false_ne_true)]
    · rw [hdoor, if_pos (henabled.symm.trans he), State.group, State.group, hcfg]
      rfl

/-- The configuration read (R38, R101, R143, R160, R211). -/
theorem configurationRead_reads {s : State} (hp : s.phase = .scanning) (hd : s.due = []) (hk : s.scanPos = 0)
    (hrest : s.restSound = true) (hlatch : s.atu.latch = false) (hl : s.atu.lawful = true) (hroom : s.alarmRoom) :
    (∀ b, s.array.config = .content b → structured b = true →
        ∃ t, exec .configurationRead s = .next t ∧ t.cfg = (clampConfig b).resumed ∧ t.nva = s.nva ∧ t.atu = s.atu)
      ∧ ((s.array.config = .checkFails ∨ ∃ b, s.array.config = .content b ∧ structured b = false) →
        ∃ t, exec .configurationRead s = .next t ∧ t.cfg = defaultConfig true ∧ Target.config ∈ t.nva.damaged
          ∧ t.conditionStands (storeFaultKey .config) = true)
      ∧ ∃ t, exec .configurationRead s = .next t ∧ s.ConfigurationGiven t := by
  obtain ⟨hgood, hbad⟩ := exec_configurationRead hp hd hk
  obtain ⟨g, hg⟩ : ∃ g, g = { s with scanPos := 1 } := ⟨_, rfl⟩
  obtain ⟨d, hdam⟩ : ∃ d, d = damage .config none g := ⟨_, rfl⟩
  have hdamage := damage_fields .config none g
  rw [← hdam] at hdamage
  have hquiet (v : Vault) := State.resting_of_restSound hrest hp hk v
  have hgrest (v : Vault) : g.Resting v := by
    rw [hg]
    exact ⟨(hquiet v).quiet, (hquiet v).door, (hquiet v).lines⟩
  have hdrest (v : Vault) : d.Resting v := by
    rw [hdamage]
    exact ⟨(hgrest v).quiet, (hgrest v).door, (hgrest v).lines⟩
  have hglatch : g.atu.latch = false := by rw [hg]; exact hlatch
  have hdlatch : d.atu.latch = false := by rw [hdam, damage_latch]; exact hglatch
  rw [← hg] at hgood hbad
  rw [← hdam] at hbad
  refine ⟨fun b hb hstr => ?_, fun hb => ?_, ?_⟩
  · obtain ⟨hsame, -⟩ := giveConfig_rest hglatch hgrest (clampConfig b)
    refine ⟨_, hgood _ (cellConfig_good hb hstr), ?_⟩
    rw [hsame, hg]
    exact ⟨rfl, rfl, rfl⟩
  · obtain ⟨hsame, -⟩ := giveConfig_rest hdlatch hdrest (defaultConfig true)
    obtain ⟨-, hmem, hstands⟩ := @damage_read g (by rw [hg]; exact hl) (by rw [hg]; exact hroom) .config
      fun n => Target.noConfusion
    refine ⟨_, hbad (cellConfig_bad hb), ?_⟩
    rw [hsame]
    rw [← hdam] at hmem hstands
    exact ⟨rfl, hmem, hstands⟩
  · cases hc : cellConfig s.array.config with
    | some b =>
      exact ⟨_, hgood b hc, giveConfig_reads hglatch hgrest (by rw [hg]; exact hp) (by rw [hg]) (by rw [hg])
        (by rw [hg]) rfl⟩
    | none =>
      exact ⟨_, hbad hc, giveConfig_reads hdlatch hdrest (by rw [hdamage, hg]; exact hp) (by rw [hdamage, hg])
        (by rw [hdamage, hg]) (by rw [hdamage, hg]) rfl⟩

end Sys2Proof.Machine

namespace Sys2Proof.Machine

/-- Settles O47, from what each read of the scan does. -/
theorem theScanReadsTheArray : Obligations.TheScanReadsTheArray := by
  unfold Obligations.TheScanReadsTheArray
  refine ⟨fun s hp hd hk hrest hlatch hl hroom => ?_, fun s hp hd hl hroom =>
    ⟨fun hk days hday hrise => ?_, fun hk hday => ?_, fun n hn hk w hw => ?_, fun n hn hk hw => ?_, fun n hn hk => ?_,
      exec_lastRead hp hd⟩⟩
  · obtain ⟨hgood, hbad, hany⟩ := configurationRead_reads hp hd hk hrest hlatch hl hroom
    refine ⟨fun b hb hstr => ?_, hbad, hany⟩
    obtain ⟨t, hexec, hcfg, hkept⟩ := hgood b hb hstr
    refine ⟨t, hexec, hcfg.trans ?_, hkept⟩
    unfold ConfigBlock.resumed
    rw [resumedMode_eq]
    rfl
  · rw [exec_readHolidays hp hd hk, readHolidayTarget_good hday hrise]
    rfl
  · obtain ⟨hcal, hmem, hstands⟩ := @damage_read (s.withCal { s.cal with holidays := [] }) hl hroom .holidays
      fun n => Target.noConfusion
    refine ⟨_, exec_readHolidays hp hd hk, ?_⟩
    rw [readHolidayTarget_bad hday]
    exact ⟨congrArg Cal.holidays hcal, hmem, hstands, rfl⟩
  · refine ⟨_, exec_readSchedule hp hd hn hk, ?_⟩
    rw [readScheduleTarget_good hw]
    refine ⟨rfl, rfl, fun hc => ⟨?_, fun m hm => ?_⟩⟩
    · exact (Cal.windows_setSchedule hc n n w).trans (if_pos rfl)
    · exact (Cal.windows_setSchedule hc n m w).trans (if_neg hm)
  · obtain ⟨hcal, hmem, hstands⟩ := @damage_read (s.withCal (s.cal.setSchedule n [])) hl hroom (.schedule n)
      fun n => Target.noConfusion
    refine ⟨_, exec_readSchedule hp hd hn hk, ?_⟩
    rw [readScheduleTarget_bad hw]
    refine ⟨rfl, hmem, hstands, fun hc => ?_⟩
    exact (congrArg (Cal.windows · n) hcal).trans ((Cal.windows_setSchedule hc n n []).trans (if_pos rfl))
  · have hexec := exec_readSlot hp hd hn hk
    refine ⟨fun r hr hin honly hc => ?_, fun hr => ?_, fun h => ?_⟩
    · have hcell : cellRecord (s.array.slotCell n) = some (some r) := by rw [hr]; exact cellRecord_encoded hin
      rw [hexec, readSlotTarget_record hcell (State.heldBelow_eq_false hc fun m r' hlt hdm => honly m r' hlt hdm hc)]
    · have hcell : cellRecord (s.array.slotCell n) = some none := by rw [hr]; exact cellRecord_erasedSlot
      rw [hexec, readSlotTarget_free hcell]
    · refine exec_readSlot_damaged hp hd hl hroom hn hk ?_
      rcases h with h | ⟨r, hr, hin, ⟨m, r', hlt, hdm, hr', hnum⟩, hrange⟩
      · exact readSlotTarget_unread (by rw [h]; rfl)
      · have hcell : cellRecord (s.array.slotCell n) = some (some r) := by rw [hr]; exact cellRecord_encoded hin
        have hlow : cellRecord (s.array.slotCell m) = some (some r') := by
          rw [hr']
          exact cellRecord_encoded (hrange m r' hr')
        exact readSlotTarget_duplicate hcell (hnum ▸ State.heldBelow_of_record hlt hdm hlow)

end Sys2Proof.Machine

namespace Sys2Proof.Machine

/-! ## What the blocks of the vaults leave alone -/

/-- The state with every field blanked that the DSQ writes, and what it calls at the OAR, the ATU and the readers: door
records, claim sets, pending pairs, reader records, alarm table and attention causes. Two states that agree in it differ in
those alone. -/
def State.sansDoors (s : State) : State :=
  { s with
    link := { s.link with waiting := {} }
    claims := PerVault.replicate noClaims
    readers := PerVault.replicate resetReaders
    pairs := PerVault.replicate none
    doors := PerVault.replicate resetDoor
    atu := resetAtu }

/-- The state with the sequencers blanked. -/
def State.sansSsq (s : State) : State := { s with ssq := PerVault.replicate (resetSsq defaultSuppression) }

/-- The state with the occupancy register blanked. -/
def State.sansOcc (s : State) : State := { s with occ := PerVault.replicate resetOccupancy }

/-- The state with the occupancy register blanked, and with it the vault lines, the reader line, the values in force and the
site mode record. -/
def State.sansSite (s : State) : State :=
  { s with
    occ := PerVault.replicate resetOccupancy
    lines := PerVault.replicate resetLines
    rline := resetReaderLine
    cfg := defaultConfig false
    mode := .afterHours
    auto := true }

/-- The state with the site functions of the LQU blanked. -/
def State.sansLqu (s : State) : State := { s with lqu := resetLqu }

/-- A fold of changes that keep a part of the state keeps it. -/
theorem foldl_part {α β : Type} (part : State → β) (f : State → α → State) (h : ∀ s a, part (f s a) = part s)
    (l : List α) (s : State) : part (l.foldl f s) = part s := by
  induction l generalizing s with
  | nil => rfl
  | cons a l ih => rw [List.foldl_cons, ih, h]

/-- A change at every vault that keeps a part of the state keeps it. -/
theorem eachVault_part {β : Type} (part : State → β) (f : Vault → State → State)
    (h : ∀ v s, part (f v s) = part s) (s : State) : part (eachVault f s) = part s :=
  foldl_part part _ (fun s v => h v s) _ s

@[simp] theorem State.withDoor_sansDoors (s : State) (v : Vault) (d : DoorRecord) :
    (s.withDoor v d).sansDoors = s.sansDoors := rfl
@[simp] theorem State.withClaimSet_sansDoors (s : State) (v : Vault) (c : ClaimSet) :
    (s.withClaimSet v c).sansDoors = s.sansDoors := rfl
@[simp] theorem State.withPair_sansDoors (s : State) (v : Vault) (p : Option PendingPair) :
    (s.withPair v p).sansDoors = s.sansDoors := rfl
@[simp] theorem State.withReader_sansDoors (s : State) (a : ReaderAddress) (r : ReaderRecord) :
    (s.withReader a r).sansDoors = s.sansDoors := rfl
@[simp] theorem State.withAtu_sansDoors (s : State) (a : Atu) : (s.withAtu a).sansDoors = s.sansDoors := rfl
@[simp] theorem State.withWaiting_sansDoors (s : State) (c : Causes) : (s.withWaiting c).sansDoors = s.sansDoors := rfl
@[simp] theorem causeAlarms_sansDoors (s : State) : (causeAlarms s).sansDoors = s.sansDoors := rfl
@[simp] theorem causeOccupancy_sansDoors (s : State) : (causeOccupancy s).sansDoors = s.sansDoors := rfl
@[simp] theorem causeSuppression_sansDoors (s : State) : (causeSuppression s).sansDoors = s.sansDoors := rfl
@[simp] theorem causeDoors_sansDoors (s : State) : (causeDoors s).sansDoors = s.sansDoors := rfl
@[simp] theorem causeMode_sansDoors (s : State) : (causeMode s).sansDoors = s.sansDoors := rfl
@[simp] theorem causeVerdict_sansDoors (s : State) : (causeVerdict s).sansDoors = s.sansDoors := rfl

@[simp] theorem State.withSequencer_sansSsq (s : State) (v : Vault) (q : SsqRecord) :
    (s.withSequencer v q).sansDoors.sansSsq = s.sansDoors.sansSsq := rfl

@[simp] theorem State.withOccupancy_sansOcc (s : State) (v : Vault) (o : VaultOccupancy) :
    (s.withOccupancy v o).sansDoors.sansOcc = s.sansDoors.sansOcc := rfl

@[simp] theorem State.withOccupancy_sansSite (s : State) (v : Vault) (o : VaultOccupancy) :
    (s.withOccupancy v o).sansDoors.sansSsq.sansSite = s.sansDoors.sansSsq.sansSite := rfl
@[simp] theorem State.withLines_sansSite (s : State) (v : Vault) (l : VaultLines) :
    (s.withLines v l).sansDoors.sansSsq.sansSite = s.sansDoors.sansSsq.sansSite := rfl
@[simp] theorem State.withLineRecord_sansSite (s : State) (v : Vault) (l : Line) (q : Qualification Reading) :
    (s.withLineRecord v l q).sansDoors.sansSsq.sansSite = s.sansDoors.sansSsq.sansSite := rfl
@[simp] theorem State.withRelease_sansSite (s : State) (v : Vault) (q : Qualification Circuit) :
    (s.withRelease v q).sansDoors.sansSsq.sansSite = s.sansDoors.sansSsq.sansSite := rfl
@[simp] theorem State.withGroup_sansSite (s : State) (v : Vault) (g : VaultGroup) :
    (s.withGroup v g).sansDoors.sansSsq.sansSite = s.sansDoors.sansSsq.sansSite := rfl
@[simp] theorem State.withSite_sansSite (s : State) (g : SiteGroup) :
    (s.withSite g).sansDoors.sansSsq.sansSite = s.sansDoors.sansSsq.sansSite := rfl
@[simp] theorem State.withReaderLine_sansSite (s : State) (r : ReaderLine) :
    (s.withReaderLine r).sansDoors.sansSsq.sansSite = s.sansDoors.sansSsq.sansSite := rfl

/-! ### The DSQ and what it calls -/

@[simp] theorem claim_sansDoors (v : Vault) (f : ClaimSet → ClaimSet) (s : State) :
    (claim v f s).sansDoors = s.sansDoors := by
  unfold claim
  split <;> rfl

@[simp] theorem claimForced_sansDoors (v : Vault) (d : Door) (b : Bool) (s : State) :
    (claimForced v d b s).sansDoors = s.sansDoors := by
  simp [claimForced]

@[simp] theorem claimHeld_sansDoors (v : Vault) (d : Door) (b : Bool) (s : State) :
    (claimHeld v d b s).sansDoors = s.sansDoors := by
  simp [claimHeld]

@[simp] theorem claimChirp_sansDoors (v : Vault) (b : Bool) (s : State) : (claimChirp v b s).sansDoors = s.sansDoors := by
  simp [claimChirp]

@[simp] theorem claimSiteEvacuate_sansDoors (v : Vault) (b : Bool) (s : State) :
    (claimSiteEvacuate v b s).sansDoors = s.sansDoors := by
  simp [claimSiteEvacuate]

@[simp] theorem claimSsq_sansDoors (v : Vault) (k : Option ClaimKind) (s : State) :
    (claimSsq v k s).sansDoors = s.sansDoors := by
  simp [claimSsq]

@[simp] theorem endTest_sansDoors (v : Vault) (s : State) : (endTest v s).sansDoors = s.sansDoors := by
  simp [endTest]

@[simp] theorem raise_sansDoors (key : AlarmKey) (s : State) : (raise key s).1.sansDoors = s.sansDoors := by
  unfold raise
  dsimp only
  (repeat' split) <;> simp

@[simp] theorem raised_sansDoors (key : AlarmKey) (s : State) : (raised key s).sansDoors = s.sansDoors := by
  simp [raised]

@[simp] theorem retireRecord_sansDoors (id : Nat) (s : State) : (retireRecord id s).sansDoors = s.sansDoors := by
  rfl

@[simp] theorem endCondition_sansDoors (key : AlarmKey) (s : State) : (endCondition key s).sansDoors = s.sansDoors := by
  unfold endCondition
  (repeat' split) <;> simp

@[simp] theorem handVerdict_sansDoors (a : ReaderAddress) (verdict : Verdict) (number : Option Nat) (s : State) :
    (handVerdict a verdict number s).sansDoors = s.sansDoors := by
  unfold handVerdict
  split <;> simp

@[simp] theorem disableReaders_sansDoors (v : Vault) (s : State) : (disableReaders v s).sansDoors = s.sansDoors := by
  simp [disableReaders]

@[simp] theorem putDoor_sansDoors (v : Vault) (d : DoorRecord) (s : State) : (putDoor v d s).sansDoors = s.sansDoors := by
  unfold putDoor
  split <;> simp

@[simp] theorem raiseForced_sansDoors (v : Vault) (which : Door) (s : State) :
    (raiseForced v which s).sansDoors = s.sansDoors := by
  unfold raiseForced
  dsimp only
  split <;> simp

@[simp] theorem raiseHeld_sansDoors (v : Vault) (which : Door) (s : State) :
    (raiseHeld v which s).sansDoors = s.sansDoors := by
  unfold raiseHeld
  dsimp only
  split <;> simp

@[simp] theorem raiseFault_sansDoors (v : Vault) (drive : Drive) (s : State) :
    (raiseFault v drive s).sansDoors = s.sansDoors := by
  simp [raiseFault]

@[simp] theorem endForced_sansDoors (v : Vault) (which : Door) (s : State) :
    (endForced v which s).sansDoors = s.sansDoors := by
  unfold endForced
  split <;> simp

@[simp] theorem endHeld_sansDoors (v : Vault) (which : Door) (s : State) : (endHeld v which s).sansDoors = s.sansDoors := by
  unfold endHeld
  split <;> simp

@[simp] theorem endFaults_sansDoors (v : Vault) (s : State) : (endFaults v s).sansDoors = s.sansDoors := by
  simp [endFaults, apply_ite State.sansDoors]

@[simp] theorem setOuter_sansDoors (v : Vault) (o : OuterState) (s : State) : (setOuter v o s).sansDoors = s.sansDoors := by
  unfold setOuter
  split <;> simp

@[simp] theorem withdrawOuter_sansDoors (v : Vault) (s : State) : (withdrawOuter v s).sansDoors = s.sansDoors := by
  unfold withdrawOuter
  dsimp only
  (repeat' split) <;> simp

@[simp] theorem setVaultState_sansDoors (v : Vault) (st : VaultState) (s : State) :
    (setVaultState v st s).sansDoors = s.sansDoors := by
  simp [setVaultState, apply_ite State.sansDoors]

@[simp] theorem startRetract_sansDoors (v : Vault) (s : State) : (startRetract v s).sansDoors = s.sansDoors := by
  unfold startRetract
  dsimp only
  split <;> simp

@[simp] theorem startExtend_sansDoors (v : Vault) (s : State) : (startExtend v s).sansDoors = s.sansDoors := by
  unfold startExtend
  dsimp only
  split <;> simp

@[simp] theorem startEmergencyDrive_sansDoors (v : Vault) (s : State) :
    (startEmergencyDrive v s).sansDoors = s.sansDoors := by
  rfl

@[simp] theorem restartEmergencyDrive_sansDoors (v : Vault) (s : State) :
    (restartEmergencyDrive v s).sansDoors = s.sansDoors := by
  unfold restartEmergencyDrive
  split <;> simp

@[simp] theorem freeVaultDoor_sansDoors (v : Vault) (s : State) : (freeVaultDoor v s).sansDoors = s.sansDoors := by
  unfold freeVaultDoor
  split <;> simp

@[simp] theorem recordOuterGrant_sansDoors (v : Vault) (o : OuterOrigin) (s : State) :
    (recordOuterGrant v o s).sansDoors = s.sansDoors := by
  simp [recordOuterGrant]

@[simp] theorem outerEgressPress_sansDoors (v : Vault) (s : State) : (outerEgressPress v s).sansDoors = s.sansDoors := by
  unfold outerEgressPress
  split <;> simp

@[simp] theorem vaultEgressPress_sansDoors (v : Vault) (s : State) : (vaultEgressPress v s).sansDoors = s.sansDoors := by
  simp [vaultEgressPress, apply_ite State.sansDoors]

@[simp] theorem secureWhereFree_sansDoors (v : Vault) (s : State) : (secureWhereFree v s).sansDoors = s.sansDoors := by
  unfold secureWhereFree
  dsimp only
  (repeat' split) <;> simp

@[simp] theorem discardGrant_sansDoors (v : Vault) (s : State) : (discardGrant v s).sansDoors = s.sansDoors := by
  simp [discardGrant]

@[simp] theorem discardEgress_sansDoors (v : Vault) (s : State) : (discardEgress v s).sansDoors = s.sansDoors := by
  simp [discardEgress]

@[simp] theorem outerLapsed_sansDoors (v : Vault) (s : State) : (outerLapsed v s).sansDoors = s.sansDoors := by
  unfold outerLapsed
  dsimp only
  split <;> simp

@[simp] theorem trimEntering_sansDoors (v : Vault) (keep : EnteringEntry → Bool) (s : State) :
    (trimEntering v keep s).sansDoors = s.sansDoors := by
  unfold trimEntering
  dsimp only
  (repeat' split) <;> simp

@[simp] theorem cancelEntry_sansDoors (v : Vault) (s : State) : (cancelEntry v s).sansDoors = s.sansDoors := by
  simp [cancelEntry]

@[simp] theorem outerOpened_sansDoors (v : Vault) (first : Bool) (s : State) :
    (outerOpened v first s).sansDoors = s.sansDoors := by
  unfold outerOpened
  (repeat' split) <;> simp

@[simp] theorem outerClosed_sansDoors (v : Vault) (s : State) : (outerClosed v s).sansDoors = s.sansDoors := by
  unfold outerClosed
  split <;> simp

@[simp] theorem vaultClosed_sansDoors (v : Vault) (s : State) : (vaultClosed v s).sansDoors = s.sansDoors := by
  unfold vaultClosed
  dsimp only
  (repeat' split) <;> simp

@[simp] theorem enterOpen_sansDoors (v : Vault) (s : State) : (enterOpen v s).sansDoors = s.sansDoors := by
  simp [enterOpen]

@[simp] theorem boltsWithdrawnActive_sansDoors (v : Vault) (s : State) :
    (boltsWithdrawnActive v s).sansDoors = s.sansDoors := by
  unfold boltsWithdrawnActive
  (repeat' split) <;> simp

@[simp] theorem boltsThrownActive_sansDoors (v : Vault) (s : State) : (boltsThrownActive v s).sansDoors = s.sansDoors := by
  unfold boltsThrownActive
  (repeat' split) <;> simp

@[simp] theorem boltsThrownLost_sansDoors (v : Vault) (s : State) : (boltsThrownLost v s).sansDoors = s.sansDoors := by
  unfold boltsThrownLost
  split <;> simp

@[simp] theorem travelExpired_sansDoors (v : Vault) (s : State) : (travelExpired v s).sansDoors = s.sansDoors := by
  unfold travelExpired
  dsimp only
  split <;> simp

@[simp] theorem relockExpired_sansDoors (v : Vault) (s : State) : (relockExpired v s).sansDoors = s.sansDoors := by
  unfold relockExpired
  dsimp only
  split <;> simp

@[simp] theorem heldExpired_sansDoors (v : Vault) (which : Door) (s : State) :
    (heldExpired v which s).sansDoors = s.sansDoors := by
  simp [heldExpired]

@[simp] theorem emergencyStart_sansDoors (v : Vault) (s : State) : (emergencyStart v s).sansDoors = s.sansDoors := by
  simp [emergencyStart]

@[simp] theorem emergencyEnd_sansDoors (v : Vault) (s : State) : (emergencyEnd v s).1.sansDoors = s.sansDoors := by
  unfold emergencyEnd
  dsimp only
  (repeat' split) <;> simp

@[simp] theorem beginDoors_sansDoors (v : Vault) (s : State) : (beginDoors v s).sansDoors = s.sansDoors := by
  unfold beginDoors
  split <;> simp

@[simp] theorem disableDoors_sansDoors (v : Vault) (s : State) : (disableDoors v s).sansDoors = s.sansDoors := by
  simp [disableDoors]

@[simp] theorem lapsePair_sansDoors (v : Vault) (s : State) : (lapsePair v s).sansDoors = s.sansDoors := by
  unfold lapsePair
  split <;> simp

@[simp] theorem alertsAtChange_sansDoors (v : Vault) (old new : SsqState) (s : State) :
    (alertsAtChange v old new s).sansDoors = s.sansDoors := by
  simp [alertsAtChange, apply_ite State.sansDoors]

@[simp] theorem neighboursAtChange_sansDoors (v : Vault) (old new : SsqState) (s : State) :
    (neighboursAtChange v old new s).sansDoors = s.sansDoors := by
  unfold neighboursAtChange
  split <;> simp

@[simp] theorem inhibitedAtChange_sansDoors (v : Vault) (old new : SsqState) (s : State) :
    (inhibitedAtChange v old new s).1.sansDoors = s.sansDoors := by
  unfold inhibitedAtChange
  dsimp only
  (repeat' split) <;> simp

@[simp] theorem latchVault_sansDoors (v : Vault) (s : State) : (latchVault v s).sansDoors = s.sansDoors := by
  simp [latchVault, apply_ite State.sansDoors]

@[simp] theorem evacuationCompleted_sansDoors (s : State) : (evacuationCompleted s).sansDoors = s.sansDoors := by
  unfold evacuationCompleted
  split
  · simp
  · rw [eachVault_part State.sansDoors _ latchVault_sansDoors]
    simp [apply_ite State.sansDoors]

@[simp] theorem lockdownVault_sansDoors (v : Vault) (s : State) : (lockdownVault v s).sansDoors = s.sansDoors := by
  simp [lockdownVault]

@[simp] theorem lineFault_sansDoors (id : LineIdentity) (new : Reading) (s : State) :
    (lineFault id new s).sansDoors = s.sansDoors := by
  unfold lineFault
  split <;> simp

@[simp] theorem roleFault_sansDoors (i : SiteLine) (old new : Role) (s : State) :
    (roleFault i old new s).sansDoors = s.sansDoors := by
  unfold roleFault
  (repeat' split) <;> simp

@[simp] theorem escalate_sansDoors (id : Nat) (s : State) : (escalate id s).sansDoors = s.sansDoors := by
  rfl

/-! ### The SSQ -/

@[simp] theorem changeState_sansSsq (v : Vault) (q : SsqRecord) (s : State) :
    (changeState v q s).1.sansDoors.sansSsq = s.sansDoors.sansSsq := by
  simp [changeState]

@[simp] theorem enter_sansSsq (v : Vault) (q : SsqRecord) (s : State) :
    (enter v q s).sansDoors.sansSsq = s.sansDoors.sansSsq := by
  simp [enter]

@[simp] theorem enterReleasing_sansSsq (v : Vault) (s : State) :
    (enterReleasing v s).sansDoors.sansSsq = s.sansDoors.sansSsq := by
  simp [enterReleasing]

@[simp] theorem expireCountdown_sansSsq (v : Vault) (s : State) :
    (expireCountdown v s).sansDoors.sansSsq = s.sansDoors.sansSsq := by
  unfold expireCountdown
  split <;> simp

@[simp] theorem resumeCountdown_sansSsq (v : Vault) (s : State) :
    (resumeCountdown v s).sansDoors.sansSsq = s.sansDoors.sansSsq := by
  unfold resumeCountdown
  dsimp only
  split <;> simp

@[simp] theorem recheckHolds_sansSsq (v : Vault) (s : State) :
    (recheckHolds v s).sansDoors.sansSsq = s.sansDoors.sansSsq := by
  unfold recheckHolds
  dsimp only
  (repeat' split) <;> simp

@[simp] theorem setEgress_sansSsq (v : Vault) (e : EgressCondition) (s : State) :
    (setEgress v e s).sansDoors.sansSsq = s.sansDoors.sansSsq := by
  simp [setEgress]

@[simp] theorem egressPressed_sansSsq (v : Vault) (s : State) :
    (egressPressed v s).sansDoors.sansSsq = s.sansDoors.sansSsq := by
  unfold egressPressed
  split <;> simp

@[simp] theorem egressConsumed_sansSsq (v : Vault) (s : State) :
    (egressConsumed v s).sansDoors.sansSsq = s.sansDoors.sansSsq := by
  unfold egressConsumed
  split <;> simp

@[simp] theorem egressUnopened_sansSsq (v : Vault) (s : State) :
    (egressUnopened v s).sansDoors.sansSsq = s.sansDoors.sansSsq := by
  unfold egressUnopened
  split <;> simp

@[simp] theorem contactLeft_sansSsq (v : Vault) (s : State) :
    (contactLeft v s).sansDoors.sansSsq = s.sansDoors.sansSsq := by
  simp [contactLeft, apply_ite State.sansDoors, apply_ite State.sansSsq]

@[simp] theorem moveTo_sansSsq (v : Vault) (q : SsqRecord) (s : State) :
    (moveTo v q s).sansDoors.sansSsq = s.sansDoors.sansSsq := by
  unfold moveTo
  dsimp only
  split <;> simp

@[simp] theorem commit_sansSsq (v : Vault) (s : State) : (commit v s).sansDoors.sansSsq = s.sansDoors.sansSsq := by
  rfl

@[simp] theorem beginCountdown_sansSsq (v : Vault) (path : Path) (s : State) :
    (beginCountdown v path s).sansDoors.sansSsq = s.sansDoors.sansSsq := by
  simp [beginCountdown]

@[simp] theorem inhibit_sansSsq (v : Vault) (s : State) : (inhibit v s).sansDoors.sansSsq = s.sansDoors.sansSsq := by
  simp [inhibit]

@[simp] theorem confirmFire_sansSsq (v : Vault) (s : State) :
    (confirmFire v s).sansDoors.sansSsq = s.sansDoors.sansSsq := by
  simp [confirmFire, apply_ite State.sansDoors, apply_ite State.sansSsq]

@[simp] theorem enterAlert_sansSsq (v : Vault) (s : State) : (enterAlert v s).sansDoors.sansSsq = s.sansDoors.sansSsq := by
  simp [enterAlert]

@[simp] theorem judgeDetectors_sansSsq (v : Vault) (s : State) :
    (judgeDetectors v s).sansDoors.sansSsq = s.sansDoors.sansSsq := by
  simp [judgeDetectors, apply_ite State.sansDoors, apply_ite State.sansSsq]

@[simp] theorem detectorTaken_sansSsq (v : Vault) (active : Bool) (s : State) :
    (detectorTaken v active s).sansDoors.sansSsq = s.sansDoors.sansSsq := by
  unfold detectorTaken
  (repeat' split) <;> simp

@[simp] theorem occupancyReported_sansSsq (v : Vault) (s : State) :
    (occupancyReported v s).sansDoors.sansSsq = s.sansDoors.sansSsq := by
  unfold occupancyReported
  dsimp only
  (repeat' split) <;> simp

@[simp] theorem manualRelease_sansSsq (v : Vault) (s : State) :
    (manualRelease v s).sansDoors.sansSsq = s.sansDoors.sansSsq := by
  unfold manualRelease
  dsimp only
  (repeat' split) <;> simp

@[simp] theorem abortTaken_sansSsq (v : Vault) (state : Reading) (s : State) :
    (abortTaken v state s).sansDoors.sansSsq = s.sansDoors.sansSsq := by
  unfold abortTaken
  dsimp only
  (repeat' split) <;> simp

@[simp] theorem abortLapsed_sansSsq (v : Vault) (s : State) :
    (abortLapsed v s).sansDoors.sansSsq = s.sansDoors.sansSsq := by
  simp [abortLapsed]

@[simp] theorem enterDischarged_sansSsq (v : Vault) (d : DischargeDetail) (s : State) :
    (enterDischarged v d s).sansDoors.sansSsq = s.sansDoors.sansSsq := by
  simp [enterDischarged]

@[simp] theorem pulseEnded_sansSsq (v : Vault) (s : State) : (pulseEnded v s).sansDoors.sansSsq = s.sansDoors.sansSsq := by
  unfold pulseEnded
  dsimp only
  split <;> simp

@[simp] theorem dischargeActive_sansSsq (v : Vault) (s : State) :
    (dischargeActive v s).sansDoors.sansSsq = s.sansDoors.sansSsq := by
  unfold dischargeActive
  split <;> simp

@[simp] theorem isolate_sansSsq (v : Vault) (s : State) : (isolate v s).sansDoors.sansSsq = s.sansDoors.sansSsq := by
  unfold isolate
  split <;> simp

@[simp] theorem returnToQuiet_sansSsq (v : Vault) (s : State) :
    (returnToQuiet v s).sansDoors.sansSsq = s.sansDoors.sansSsq := by
  simp [returnToQuiet]

@[simp] theorem deisolate_sansSsq (v : Vault) (s : State) : (deisolate v s).sansDoors.sansSsq = s.sansDoors.sansSsq := by
  unfold deisolate
  split <;> simp

@[simp] theorem disableSequencer_sansSsq (v : Vault) (s : State) :
    (disableSequencer v s).sansDoors.sansSsq = s.sansDoors.sansSsq := by
  unfold disableSequencer
  dsimp only
  (repeat' split) <;> simp

@[simp] theorem enableSequencer_sansSsq (v : Vault) (s : State) :
    (enableSequencer v s).sansDoors.sansSsq = s.sansDoors.sansSsq := by
  rfl

@[simp] theorem egressLapsed_sansSsq (v : Vault) (s : State) :
    (egressLapsed v s).sansDoors.sansSsq = s.sansDoors.sansSsq := by
  simp [egressLapsed]

@[simp] theorem recheckAllHolds_sansSsq (s : State) :
    (recheckAllHolds s).sansDoors.sansSsq = s.sansDoors.sansSsq :=
  eachVault_part (fun u => u.sansDoors.sansSsq) _ recheckHolds_sansSsq s

/-! ### The register, the vault lines, the reader line and the settings -/

@[simp] theorem addOccupants_sansSite (v : Vault) (adds : List EnteringEntry) (time : Instant) (s : State) :
    (addOccupants v adds time s).sansDoors.sansSsq.sansSite = s.sansDoors.sansSsq.sansSite := by
  rfl

@[simp] theorem endOccupant_sansSite (v : Vault) (e : Occupant) (s : State) :
    (endOccupant v e s).sansDoors.sansSsq.sansSite = s.sansDoors.sansSsq.sansSite := by
  simp [endOccupant, apply_ite State.sansDoors]

@[simp] theorem setCertain_sansSite (v : Vault) (b : Bool) (s : State) :
    (setCertain v b s).sansDoors.sansSsq.sansSite = s.sansDoors.sansSsq.sansSite := by
  rfl

@[simp] theorem settleLink_sansSite (v : Vault) (fresh : List Nat) (s : State) (e : Occupant) :
    (settleLink v fresh s e).sansDoors.sansSsq.sansSite = s.sansDoors.sansSsq.sansSite := by
  unfold settleLink
  dsimp only
  (repeat' split) <;> simp

@[simp] theorem settleLinks_sansSite (v : Vault) (fresh : List Nat) (s : State) :
    (settleLinks v fresh s).sansDoors.sansSsq.sansSite = s.sansDoors.sansSsq.sansSite :=
  foldl_part (fun u => u.sansDoors.sansSsq.sansSite) _ (settleLink_sansSite v fresh) _ s

/-- The lone workers whose conditions end leave all but the doors' part of the state. -/
theorem endLone_sansDoors (v : Vault) (l : List Occupant) (s : State) :
    (l.foldl (fun s e => if e.overdue then endCondition (loneWorkerKey v e.number) s else s) s).sansDoors = s.sansDoors :=
  foldl_part State.sansDoors _ (fun s e => by simp [apply_ite State.sansDoors]) l s

theorem settleLone_sansOcc (v : Vault) (s : State) : (settleLone v s).sansDoors.sansOcc = s.sansDoors.sansOcc := by
  unfold settleLone
  dsimp only
  split
  · simp
  · simp [endLone_sansDoors]

@[simp] theorem settleLone_sansSite (v : Vault) (s : State) :
    (settleLone v s).sansDoors.sansSsq.sansSite = s.sansDoors.sansSsq.sansSite :=
  congrArg (fun u => u.sansSsq.sansSite) (settleLone_sansOcc v s)

@[simp] theorem checkIn_sansSite (v : Vault) (number : Option Nat) (s : State) :
    (checkIn v number s).sansDoors.sansSsq.sansSite = s.sansDoors.sansSsq.sansSite := by
  unfold checkIn
  dsimp only
  (repeat' split) <;> simp

@[simp] theorem loneExpired_sansSite (v : Vault) (s : State) :
    (loneExpired v s).sansDoors.sansSsq.sansSite = s.sansDoors.sansSsq.sansSite := by
  unfold loneExpired
  dsimp only
  split <;> simp

@[simp] theorem clearOccupants_sansSite (v : Vault) (s : State) :
    (clearOccupants v s).sansDoors.sansSsq.sansSite = s.sansDoors.sansSsq.sansSite := by
  unfold clearOccupants
  rw [claimChirp_sansDoors, foldl_part (fun u => u.sansDoors.sansSsq.sansSite) _ fun s e => endOccupant_sansSite v e s]
  rfl

@[simp] theorem reporting_sansSite (v : Vault) (f : State → State) (s : State)
    (h : ∀ s, (f s).sansDoors.sansSsq.sansSite = s.sansDoors.sansSsq.sansSite) :
    (reporting v f s).sansDoors.sansSsq.sansSite = s.sansDoors.sansSsq.sansSite := by
  unfold reporting
  simp [apply_ite State.sansDoors, apply_ite State.sansSsq, h]

@[simp] theorem settleRegister_sansSite (v : Vault) (fresh : List Nat) (s : State) :
    (settleRegister v fresh s).sansDoors.sansSsq.sansSite = s.sansDoors.sansSsq.sansSite := by
  simp [settleRegister]

@[simp] theorem removeOccupant_sansSite (v : Vault) (s : State) (number : Nat) :
    (removeOccupant v s number).sansDoors.sansSsq.sansSite = s.sansDoors.sansSsq.sansSite := by
  unfold removeOccupant
  split <;> simp

@[simp] theorem applyGrant_sansSite (v : Vault) (g : VaultGrant) (time : Instant) (s : State) :
    (applyGrant v g time s).sansDoors.sansSsq.sansSite = s.sansDoors.sansSsq.sansSite :=
  (foldl_part (fun u => u.sansDoors.sansSsq.sansSite) _ (removeOccupant_sansSite v) _ _).trans
    (addOccupants_sansSite v g.entering time s)

@[simp] theorem consumeGrant_sansSite (v : Vault) (g : VaultGrant) (egress : Bool) (time : Instant) (s : State) :
    (consumeGrant v g egress time s).sansDoors.sansSsq.sansSite = s.sansDoors.sansSsq.sansSite := by
  simp [consumeGrant, apply_ite State.sansDoors, apply_ite State.sansSsq, apply_ite State.sansSite]

@[simp] theorem consumeEgress_sansSite (v : Vault) (s : State) :
    (consumeEgress v s).sansDoors.sansSsq.sansSite = s.sansDoors.sansSsq.sansSite := by
  unfold consumeEgress
  split <;> simp

@[simp] theorem openConsuming_sansSite (v : Vault) (time : Instant) (s : State) :
    (openConsuming v time s).sansDoors.sansSsq.sansSite = s.sansDoors.sansSsq.sansSite := by
  unfold openConsuming
  apply reporting_sansSite
  intro s
  dsimp only
  (repeat' split) <;> simp

@[simp] theorem openForced_sansSite (v : Vault) (first : Bool) (s : State) :
    (openForced v first s).sansDoors.sansSsq.sansSite = s.sansDoors.sansSsq.sansSite := by
  unfold openForced
  apply reporting_sansSite
  intro s
  dsimp only
  split <;> simp

@[simp] theorem openEmergency_sansSite (v : Vault) (time : Instant) (s : State) :
    (openEmergency v time s).sansDoors.sansSsq.sansSite = s.sansDoors.sansSsq.sansSite := by
  unfold openEmergency
  apply reporting_sansSite
  intro s
  dsimp only
  split <;> simp

@[simp] theorem vaultOpened_sansSite (v : Vault) (first : Bool) (time : Instant) (s : State) :
    (vaultOpened v first time s).sansDoors.sansSsq.sansSite = s.sansDoors.sansSsq.sansSite := by
  unfold vaultOpened
  (repeat' split) <;> simp

/-- A mode set changes the mode record, the register and the doors' part of the state alone. -/
theorem setMode_sansOcc (mode : Mode) (auto : Bool) (s : State) :
    (setMode mode auto s).sansDoors.sansOcc = ({ s with mode := mode, auto := auto } : State).sansDoors.sansOcc := by
  have lone (u : State) : (eachVault settleLone u).sansDoors.sansOcc = u.sansDoors.sansOcc :=
    eachVault_part (fun u => u.sansDoors.sansOcc) _ settleLone_sansOcc u
  unfold setMode
  dsimp only
  (repeat' split)
  · next h => rw [← h.1, ← h.2]
  · rfl
  · rw [lone, eachVault_part State.sansDoors _ lockdownVault_sansDoors]
    rfl
  · rw [lone, eachVault_part State.sansDoors _ lapsePair_sansDoors]
    rfl
  · rw [lone]
    rfl

@[simp] theorem setMode_sansSite (mode : Mode) (auto : Bool) (s : State) :
    (setMode mode auto s).sansDoors.sansSsq.sansSite = s.sansDoors.sansSsq.sansSite :=
  congrArg (fun u => u.sansSsq.sansSite) (setMode_sansOcc mode auto s)

@[simp] theorem evaluateMode_sansSite (s : State) :
    (evaluateMode s).sansDoors.sansSsq.sansSite = s.sansDoors.sansSsq.sansSite := by
  unfold evaluateMode
  split <;> simp

@[simp] theorem deliverLine_sansSite (v : Vault) (l : Line) (old : Option Reading) (new : Reading) (time : Instant)
    (s : State) :
    (deliverLine v l old new time s).sansDoors.sansSsq.sansSite = s.sansDoors.sansSsq.sansSite := by
  unfold deliverLine
  dsimp only
  (repeat' split) <;> simp

@[simp] theorem takeLine_sansSite (v : Vault) (l : Line) (s : State) :
    (takeLine v l s).sansDoors.sansSsq.sansSite = s.sansDoors.sansSsq.sansSite := by
  unfold takeLine
  dsimp only
  (repeat' split) <;> simp

@[simp] theorem takeRelease_sansSite (v : Vault) (s : State) :
    (takeRelease v s).sansDoors.sansSsq.sansSite = s.sansDoors.sansSsq.sansSite := by
  unfold takeRelease
  dsimp only
  (repeat' split) <;> simp

@[simp] theorem disableLines_sansSite (v : Vault) (s : State) :
    (disableLines v s).sansDoors.sansSsq.sansSite = s.sansDoors.sansSsq.sansSite := by
  unfold disableLines
  rw [State.withLines_sansSite, endCondition_sansDoors,
    foldl_part State.sansDoors _ fun s l => endCondition_sansDoors _ s]

@[simp] theorem beginTransaction_sansSite (s : State) :
    (beginTransaction s).sansDoors.sansSsq.sansSite = s.sansDoors.sansSsq.sansSite := by
  unfold beginTransaction
  split <;> simp

@[simp] theorem disableOnLine_sansSite (v : Vault) (s : State) :
    (disableOnLine v s).sansDoors.sansSsq.sansSite = s.sansDoors.sansSsq.sansSite := by
  rfl

@[simp] theorem enableOnLine_sansSite (s : State) :
    (enableOnLine s).sansDoors.sansSsq.sansSite = s.sansDoors.sansSsq.sansSite := by
  unfold enableOnLine
  split <;> simp

@[simp] theorem disableVault_sansSite (v : Vault) (s : State) :
    (disableVault v s).sansDoors.sansSsq.sansSite = s.sansDoors.sansSsq.sansSite := by
  unfold disableVault
  dsimp only
  split <;> simp

@[simp] theorem enableVault_sansSite (v : Vault) (s : State) :
    (enableVault v s).sansDoors.sansSsq.sansSite = s.sansDoors.sansSsq.sansSite := by
  simp [enableVault, apply_ite State.sansDoors]

@[simp] theorem setEnabled_sansSite (v : Vault) (b : Bool) (s : State) :
    (setEnabled v b s).sansDoors.sansSsq.sansSite = s.sansDoors.sansSsq.sansSite := by
  simp [setEnabled, apply_ite State.sansDoors, apply_ite State.sansSsq, apply_ite State.sansSite]

@[simp] theorem applyVault_sansSite (v : Vault) (g : VaultGroup) (s : State) :
    (applyVault v g s).sansDoors.sansSsq.sansSite = s.sansDoors.sansSsq.sansSite := by
  simp [applyVault, apply_ite State.sansDoors, apply_ite State.sansSsq, apply_ite State.sansSite]

@[simp] theorem chirp_sansSite (v : Vault) (s : State) :
    (chirp v s).sansDoors.sansSsq.sansSite = s.sansDoors.sansSsq.sansSite := by
  simp [chirp]

/-! ### The operations that the site functions of the LQU take part in -/

@[simp] theorem State.withLqu_sansLqu (s : State) (l : Lqu) :
    (s.withLqu l).sansDoors.sansSsq.sansLqu = s.sansDoors.sansSsq.sansLqu := rfl

@[simp] theorem judgeHoldAll_sansLqu (s : State) :
    (judgeHoldAll s).sansDoors.sansSsq.sansLqu = s.sansDoors.sansSsq.sansLqu := by
  unfold judgeHoldAll
  dsimp only
  split <;> simp

@[simp] theorem judgeCombination_sansLqu (s : State) :
    (judgeCombination s).sansDoors.sansSsq.sansLqu = s.sansDoors.sansSsq.sansLqu := by
  unfold judgeCombination
  dsimp only
  split <;> simp

/-- New roles change the roles in force, the LQU, the sequencers and the doors' part of the state alone. -/
theorem setRoles_sansLqu (roles : PerSite Role) (s : State) :
    (setRoles roles s).sansDoors.sansSsq.sansLqu =
      (s.withSite { s.cfg.site with roles := roles }).sansDoors.sansSsq.sansLqu := by
  have faults (old : PerSite Role) (u : State) :
      (SiteLine.all.foldl (fun s i => roleFault i (old.get i) (roles.get i) s) u).sansDoors = u.sansDoors :=
    foldl_part State.sansDoors _ (fun s i => roleFault_sansDoors i _ _ s) _ u
  unfold setRoles
  dsimp only
  split <;> simp [faults]

theorem applySite_sansLqu (g : SiteGroup) (s : State) :
    (applySite g s).sansDoors.sansSsq.sansSite.sansLqu = s.sansDoors.sansSsq.sansSite.sansLqu :=
  congrArg State.sansSite (setRoles_sansLqu g.roles s)

theorem takeSiteLine_sansLqu (i : SiteLine) (s : State) :
    (takeSiteLine i s).sansDoors.sansSsq.sansLqu = s.sansDoors.sansSsq.sansLqu := by
  unfold takeSiteLine
  dsimp only
  (repeat' split) <;> simp

theorem completeCombination_sansLqu (s : State) :
    (completeCombination s).sansDoors.sansSsq.sansLqu = s.sansDoors.sansSsq.sansLqu := by
  simp [completeCombination]

theorem applyConfig_sansLqu (b : ConfigBlock) (s : State) :
    (applyConfig b s).sansDoors.sansSsq.sansSite.sansLqu = s.sansDoors.sansSsq.sansSite.sansLqu :=
  (congrArg State.sansLqu (eachVault_part (fun u => u.sansDoors.sansSsq.sansSite) _
    (fun v s => applyVault_sansSite v (b.vaults.get v) s) _)).trans (applySite_sansLqu b.site _)

/-- An event of a tick but the minute and the start-up timeout leaves alone all that no block of a vault, no line and no
site function holds: the array, the volatile store, the failure table, the calendar, the time base and the link. -/
theorem perform_sansLqu {d : Due} (hm : d ≠ .minute) (ht : d ≠ .startUpTimeout) (s : State) :
    (perform d s).sansDoors.sansSsq.sansSite.sansLqu = s.sansDoors.sansSsq.sansSite.sansLqu := by
  cases d with
  | startUpTimeout => exact absurd rfl ht
  | minute => exact absurd rfl hm
  | evacuation => exact congrArg State.sansSite (completeCombination_sansLqu s)
  | siteLine i => exact congrArg State.sansSite (takeSiteLine_sansLqu i s)
  | _ => simp [perform]

end Sys2Proof.Machine

namespace Sys2Proof.Machine

/-! ## Programming goes on, and time stays in its ranges (O13) -/

/-! ### An attempt in flight wherever one can be -/

theorem programming_iff (s : State) : s.programming = true ↔
    (s.phase = .running → s.supply = .good → s.nva.erase.isSome = true ∨ s.nva.queue ≠ [] →
      s.nva.inFlight.isSome = true) := by
  simp only [State.programming, Bool.or_eq_true, Bool.not_eq_true', Bool.and_eq_false_iff, Bool.or_eq_false_iff,
    decide_eq_false_iff_not, Bool.not_eq_false', List.isEmpty_iff]
  cases s.nva.erase <;> by_cases hq : s.nva.queue = [] <;> simp [hq] <;> tauto

/-- What keeps the phase, the supply level and the NVA keeps programming going. -/
theorem programming_kept {s t : State} (hf : t.fixed = s.fixed) (hs : t.store = s.store) :
    t.programming = s.programming := by
  simp only [State.programming, State.phase_of_fixed hf, State.supply_of_fixed hf, State.nva_of_store hs]

/-- A part that does not run programs nothing. -/
theorem programming_idle {s : State} (h : s.phase ≠ .running) : s.programming = true :=
  (programming_iff s).2 fun hp => absurd hp h

/-- After the start of an attempt one is in flight wherever one can be (R31, R42). -/
theorem startAttempt_programming (s : State) : (startAttempt s).programming = true := by
  rw [programming_iff]
  unfold startAttempt
  split
  · split
    · exact fun _ _ _ => rfl
    · next he =>
      split
      · next hq => intro _ _ h; simp [he, hq] at h
      · exact fun _ _ _ => rfl
  · next h =>
    intro hp hg _
    exact Option.isSome_iff_ne_none.2 fun hi => h ⟨hp, hi, hg⟩

@[simp] theorem place_programming (i : Image) (s : State) : (place i s).programming = true :=
  startAttempt_programming _

@[simp] theorem placeConfig_programming (s : State) : (placeConfig s).programming = true := place_programming _ s

theorem deviceChange_programming {s : State} (h : s.programming = true) (slot : Nat) (f : CredRecord → CredRecord) :
    (deviceChange slot f s).1.programming = true := by
  unfold deviceChange
  (repeat' split)
  · exact place_programming _ s
  · exact h
  · exact h

theorem attemptCompleted_programming {s : State} (h : s.programming = true) (o : AttemptOutcome) :
    (attemptCompleted o s).programming = true := by
  unfold attemptCompleted
  split
  · exact h
  · exact startAttempt_programming _

/-! ### What the frames and the device-made changes keep -/

section
variable {P : State → Prop} (hframe : ∀ s t, t.fixed = s.fixed → t.store = s.store → P s → P t)
  (hchange : ∀ slot f s, P s → P (deviceChange slot f s).1)
include hchange

theorem decrementUses_keeps {s : State} (h : P s) (number : Nat) : P (decrementUses number s) := by
  unfold decrementUses
  (repeat' split)
  · exact h
  · exact h
  · exact hchange _ _ s h

include hframe

theorem suspendLockedOut_keeps {s : State} (h : P s) (number : Nat) : P (suspendLockedOut number s) := by
  have forgets {u : State} (hu : P u) : P (forget number u) := hframe u _ rfl rfl hu
  unfold suspendLockedOut
  dsimp only
  (repeat' split)
  · exact forgets h
  · exact forgets (hchange _ _ s h)
  · exact h
  · exact forgets h

theorem presentOuter_keeps {s : State} (h : P s) (v : Vault) (number : Nat) (digits : List Nat) :
    P (presentOuter v number digits s).1 := by
  have hc : P (checkEntry v number digits none s).1 := hframe s _ (by simp) (by simp) h
  unfold presentOuter
  split
  · next he => rwa [he] at hc
  · next he =>
    rw [he] at hc
    (repeat' split)
    · exact hc
    · exact hc
    · exact hframe _ _ (by simp) (by simp) (decrementUses_keeps hchange hc number)

theorem admitSet_keeps {s : State} (h : P s) (v : Vault) (set : List EnteringEntry) (pair : Bool) :
    P (admitSet v set pair s).1 := by
  have hp : P (if pair then s.withPair v none else s) := by
    split
    · exact hframe s _ rfl rfl h
    · exact h
  have hf := foldl_keeps (P := P) (fun s (e : EnteringEntry) => decrementUses e.number s)
    (fun s e hs => decrementUses_keeps hchange hs e.number) set hp
  have hg (u : State) (g : VaultGrant) (hu : P u) : P (recordGrant v g u) := hframe u _ (by simp) (by simp) hu
  unfold admitSet
  split
  · exact h
  · split
    · exact h
    · exact hg _ _ hf

theorem decideAlone_keeps {s : State} (h : P s) (v : Vault) (number : Nat) (duress : Bool) :
    P (decideAlone v number duress s).1 := by
  unfold decideAlone
  (repeat' split)
  · exact hframe s _ rfl rfl h
  · exact h
  · exact hframe s _ rfl rfl h
  · exact admitSet_keeps hframe hchange h v _ false

theorem meetPair_keeps {s : State} (h : P s) (v : Vault) (p : PendingPair) (number : Nat) (duress : Bool) :
    P (meetPair v p number duress s).1 := by
  unfold meetPair
  (repeat' split)
  · exact decideAlone_keeps hframe hchange (hframe s (s.withPair v none) rfl rfl h) v number duress
  · exact admitSet_keeps hframe hchange h v _ true
  · exact h
  · exact admitSet_keeps hframe hchange h v _ false

theorem firstAgain_keeps {s : State} (h : P s) (v : Vault) (p : PendingPair) (duress : Bool) :
    P (firstAgain v p duress s).1 := by
  unfold firstAgain
  split
  · exact hframe s _ rfl rfl h
  · exact decideAlone_keeps hframe hchange (hframe s (s.withPair v none) rfl rfl h) v p.first duress

theorem presentInner_keeps {s : State} (h : P s) (v : Vault) (number : Nat) (digits : List Nat) :
    P (presentInner v number digits s).1 := by
  have hc : P (checkEntry v number digits (some v) s).1 := hframe s _ (by simp) (by simp) h
  unfold presentInner
  split
  · next he => rwa [he] at hc
  · next he =>
    rw [he] at hc
    dsimp only
    (repeat' split)
    · exact hc
    · exact hc
    · exact decideAlone_keeps hframe hchange hc v number _
    · exact firstAgain_keeps hframe hchange hc v _ _
    · exact meetPair_keeps hframe hchange hc v _ number _

theorem decidePresentation_keeps {s : State} (h : P s) (a : ReaderAddress) (number : Nat) (purpose : Purpose)
    (digits : List Nat) : P (decidePresentation a number purpose digits s).1 := by
  unfold decidePresentation
  (repeat' split)
  · exact h
  · exact presentOuter_keeps hframe hchange h a.vault number digits
  · exact presentInner_keeps hframe hchange h a.vault number digits
  · exact hframe s _ (by simp) (by simp) h
  · exact hframe s _ (by simp) (by simp) h

theorem present_keeps {s : State} (h : P s) (a : ReaderAddress) (number : Nat) (purpose : Purpose) (digits : List Nat) :
    P (present a number purpose digits s) := by
  have hd := decidePresentation_keeps hframe hchange h a number purpose digits
  have hv := hframe _ (handVerdict a (decidePresentation a number purpose digits s).2 (some number)
    (decidePresentation a number purpose digits s).1) (by simp) (by simp) hd
  unfold present
  dsimp only
  split
  · exact suspendLockedOut_keeps hframe hchange hv number
  · exact hv

theorem presentReply_keeps {s : State} (h : P s) (a : ReaderAddress) (number : Nat) (purpose : Purpose)
    (digits : List Nat) : P (presentReply a number purpose digits s) := by
  have hp : P (s.withReader a ((s.reader a).presented number)) := hframe s _ rfl rfl h
  unfold presentReply
  dsimp only
  split
  · exact hp
  · exact present_keeps hframe hchange hp a number _ digits

theorem takeReply_keeps {s : State} (h : P s) (a : ReaderAddress) (bytes : List Byte) : P (takeReply a bytes s) := by
  have hg (tamper : Bool) : P (goodReply a tamper s) := hframe s _ (by simp) (by simp) h
  unfold takeReply
  split
  · exact hframe s _ (by simp) (by simp) h
  · exact hg false
  · exact hg true
  · exact presentReply_keeps hframe hchange (hg false) a _ _ _

/-- What the frames and the device-made changes keep, the end of a reader transaction keeps. -/
theorem transactionReplied_keeps {s : State} (h : P s) (bytes : List Byte) : P (transactionReplied bytes s) := by
  have hend (u : State) (hu : P u) : P (endTransaction u) := hframe u _ rfl rfl hu
  unfold transactionReplied
  split
  · exact hend s h
  · exact hend _ (takeReply_keeps hframe hchange h _ bytes)

theorem minuteEvent_keeps {s : State} (h : P s) : P (minuteEvent s) := by
  have ha : P (ageFailures s) := hframe s _ rfl rfl h
  have he : P (evaluateMode (ageFailures s)) := hframe _ _ (by simp) (by simp) ha
  unfold minuteEvent
  dsimp only
  split
  · exact foldl_keeps (P := P) (fun s k => suspendLockedOut k s)
      (fun s k hs => suspendLockedOut_keeps hframe hchange hs k) _ he
  · exact ha

/-- What the frames and the device-made changes keep, every event of a tick keeps. -/
theorem perform_keeps {s : State} (h : P s) (d : Due) : P (perform d s) := by
  by_cases hm : d = .minute
  · subst hm
    exact minuteEvent_keeps hframe hchange h
  · by_cases ht : d = .startUpTimeout
    · subst ht
      exact hframe s _ (perform_fixed _ s) (referenceLost_store s) h
    · exact hframe s _ (perform_fixed d s) (perform_frames hm ht s).1 h

theorem performDue_keeps {s : State} (h : P s) (d : Due) : P (performDue d s) := by
  unfold performDue
  split
  · exact perform_keeps hframe hchange h d
  · exact h

theorem settle_keeps {s : State} (h : P s) : P (settle s) :=
  hframe (s.due.foldl (fun s d => performDue d s) s) _ rfl rfl
    (foldl_keeps (P := P) (fun s d => performDue d s) (fun _ d hs => performDue_keeps hframe hchange hs d) s.due h)

theorem takeDue_keeps {s : State} (h : P s) (d : Due) : P (takeDue d s) := by
  unfold takeDue
  split
  · exact performDue_keeps hframe hchange (hframe s { s with due := s.due.erase d } rfl rfl h) d
  · exact h

end

/-! ### Programming at a request -/

theorem programming_frame (s t : State) (hf : t.fixed = s.fixed) (hs : t.store = s.store) (h : s.programming = true) :
    t.programming = true :=
  (programming_kept hf hs).trans h

theorem onNumber_programming {number : Nat} {f : Nat → CredRecord → Service} {s : State} (h : s.programming = true)
    (hf : ∀ slot r, (f slot r s).1.programming = true) : (onNumber number f s).1.programming = true := by
  unfold onNumber
  (repeat' split)
  · exact h
  · exact h
  · exact hf _ _

theorem onRecord_programming {number : Nat} {f : Nat → CredRecord → Service} {s : State} (h : s.programming = true)
    (hf : ∀ slot r, (f slot r s).1.programming = true) : (onRecord number f s).1.programming = true := by
  refine onNumber_programming h fun slot r => ?_
  split
  · exact h
  · exact hf slot r

theorem onSlot_programming {slot : Nat} {f : SlotContent → Service} {s : State} (h : s.programming = true)
    (hf : ∀ c, (f c s).1.programming = true) : (onSlot slot f s).1.programming = true := by
  unfold onSlot
  (repeat' split)
  · exact h
  · exact h
  · exact hf _

/-- The write that a service makes where the host's writes have a place. -/
theorem busy_or_programming {s t : State} (h : s.programming = true) (ht : t.programming = true) (a b : Answer) :
    (if s.storeBusy then (s, a) else (t, b)).1.programming = true := by
  split
  · exact h
  · exact ht

theorem writeCredential_programming {s : State} (h : s.programming = true) (w : CredentialWrite) :
    (writeCredential w s).1.programming = true := by
  refine onSlot_programming h fun c => ?_
  (repeat' split)
  case' isFalse.isFalse.isFalse.isFalse.isFalse.isFalse => exact place_programming _ _
  all_goals exact h

theorem changeVaults_programming {s : State} (h : s.programming = true) (number : Nat) (next : VaultSet → VaultSet) :
    (changeVaults number next s).1.programming = true := by
  refine onRecord_programming h fun slot r => ?_
  split
  · exact h
  · exact busy_or_programming h (place_programming _ _) _ _

theorem suspend_programming {s : State} (h : s.programming = true) (number : Nat) :
    (suspend number s).1.programming = true := by
  refine onRecord_programming h fun slot r => ?_
  split
  · exact h
  · exact busy_or_programming h (place_programming _ _) _ _

theorem reinstate_programming {s : State} (h : s.programming = true) (number : Nat) :
    (reinstate number s).1.programming = true := by
  refine onRecord_programming h fun slot r => ?_
  split
  · exact h
  · exact h
  · exact busy_or_programming h (place_programming _ _) _ _

theorem retire_programming {s : State} (h : s.programming = true) (number : Nat) :
    (retire number s).1.programming = true := by
  refine onRecord_programming h fun slot r => ?_
  split
  · exact h
  · exact busy_or_programming h (place_programming _ _) _ _

theorem purge_programming {s : State} (h : s.programming = true) (slot : Nat) : (purge slot s).1.programming = true := by
  refine onSlot_programming h fun c => ?_
  (repeat' split)
  · exact h
  · exact h
  · exact h
  · exact place_programming _ _

theorem setCommissioningLock_programming {s : State} (h : s.programming = true) :
    (setCommissioningLock s).1.programming = true := by
  unfold setCommissioningLock
  split
  · exact h
  · exact busy_or_programming h (placeConfig_programming _) _ _

theorem eraseAll_programming {s : State} (h : s.programming = true) : (eraseAll s).1.programming = true := by
  unfold eraseAll
  (repeat' split)
  · exact h
  · exact h
  · exact h
  · exact h
  · exact startAttempt_programming _

theorem writeHolidays_programming {s : State} (h : s.programming = true) (days : List Nat) :
    (writeHolidays days s).1.programming = true := by
  unfold writeHolidays
  (repeat' split)
  · exact h
  · exact h
  · exact h
  · exact place_programming _ _

theorem writeSchedule_programming {s : State} (h : s.programming = true) (n : Nat) (w : List Window) :
    (writeSchedule n w s).1.programming = true := by
  unfold writeSchedule
  (repeat' split)
  · exact h
  · exact h
  · exact h
  · exact h
  · exact place_programming _ _

theorem placeOrOweConfig_programming {s : State} (h : s.programming = true) :
    (placeOrOweConfig s).programming = true := by
  unfold placeOrOweConfig
  split
  · exact placeConfig_programming s
  · exact h

theorem setSiteMode_programming {s : State} (h : s.programming = true) (value : Option ModeValue) :
    (setSiteMode value s).1.programming = true := by
  unfold setSiteMode
  split
  · exact h
  · exact placeOrOweConfig_programming (programming_frame s _ (by simp) (by simp) h)

theorem setSuppressionParams_programming {s : State} (h : s.programming = true) (vault : Nat) (p : SuppressionWrite) :
    (setSuppressionParams vault p s).1.programming = true := by
  unfold setSuppressionParams onVault
  split
  · exact h
  · dsimp only
    (repeat' split)
    · exact h
    · exact h
    · exact h
    · exact h
    · exact placeConfig_programming _

theorem writeSite_programming {s : State} (h : s.programming = true) (w : SiteWrite) :
    (writeSite w s).1.programming = true := by
  unfold writeSite
  (repeat' split)
  · exact h
  · exact h
  · exact h
  · exact placeConfig_programming _

theorem writeVault_programming {s : State} (h : s.programming = true) (v : Vault) (w : VaultWrite) :
    (writeVault v w s).1.programming = true := by
  unfold writeVault
  (repeat' split)
  · exact h
  · exact h
  · exact h
  · exact h
  · exact placeConfig_programming _

theorem writeParams_programming {s : State} (h : s.programming = true) (group : GroupWrite) :
    (writeParams group s).1.programming = true := by
  cases group with
  | site w => exact writeSite_programming h w
  | vault n w =>
    unfold writeParams onVault
    dsimp only
    split
    · exact h
    · exact writeVault_programming h _ w
  | other => exact h

/-- Every owner of a request keeps programming going: what it places starts an attempt where one can start. -/
theorem owner_programming {c : Instr} {f : Service} (hc : ownerOf c = some f) {s : State} (h : s.programming = true) :
    (f s).1.programming = true := by
  cases c <;> cases hc
  case writeCredential w => exact writeCredential_programming h w
  case grantVaults number vaults => exact changeVaults_programming h number _
  case revokeVaults number vaults => exact changeVaults_programming h number _
  case suspend number => exact suspend_programming h number
  case reinstate number => exact reinstate_programming h number
  case retire number => exact retire_programming h number
  case purge slot => exact purge_programming h slot
  case setCommissioningLock => exact setCommissioningLock_programming h
  case eraseAll => exact eraseAll_programming h
  case writeHolidays days => exact writeHolidays_programming h days
  case writeSchedule n w => exact writeSchedule_programming h n w
  case setSiteMode value => exact setSiteMode_programming h value
  case setSuppressionParams vault p => exact setSuppressionParams_programming h vault p
  case writeParams group => exact writeParams_programming h group
  all_goals exact programming_frame s _ (by simp) (by simp) h

theorem settle_programming {s : State} (h : s.programming = true) : (settle s).programming = true :=
  settle_keeps (P := fun s => s.programming = true) programming_frame
    (fun slot f _ h => deviceChange_programming h slot f) h

theorem acceptRequest_programming {c : Instr} {f : Service} (hc : ownerOf c = some f) (code : Nat) {s : State}
    (h : s.programming = true) : (acceptRequest code f s).programming = true :=
  acceptRequest_keeps (P := fun s => s.programming = true) (fun _ => settle_programming) (fun _ _ h => h)
    (fun _ => owner_programming hc) code h

/-! ### Programming at the other events -/

/-- A reset leaves a part that does not run. -/
theorem beginReset_phase (kind : ResetKind) (s : State) : (beginReset kind s).phase = .reset := by
  unfold beginReset
  split
  · next h => exact h
  · rfl

theorem beginReset_programming (kind : ResetKind) (s : State) : (beginReset kind s).programming = true :=
  programming_idle (by rw [beginReset_phase]; exact Phase.noConfusion)

theorem endReset_programming {s : State} (h : s.programming = true) (good : Bool) :
    (endReset good s).programming = true := by
  unfold endReset
  split
  · exact programming_idle Phase.noConfusion
  · exact h

theorem readNext_programming {s : State} (h : s.programming = true) : (readNext s).programming = true := by
  unfold readNext
  dsimp only
  (repeat' split)
  · exact startAttempt_programming _
  · next hp _ =>
    refine programming_idle ?_
    have hphase : (readTarget s.scanPos s).phase = s.phase := State.phase_of_fixed (readTarget_fixed s.scanPos s)
    rw [show ({ readTarget s.scanPos s with scanPos := s.scanPos + 1 } : State).phase = s.phase from hphase, hp.1]
    exact Phase.noConfusion
  · exact h

theorem completeProcessing_programming {s : State} (h : s.programming = true) :
    (completeProcessing s).programming = true := by
  unfold completeProcessing
  (repeat' split)
  · exact h
  · exact h
  · next hi => exact acceptRequest_programming hi _ h
  · exact h

theorem readConfiguration_programming {s : State} (h : s.programming = true) :
    (readConfiguration s).programming = true := by
  by_cases hp : s.phase = .scanning
  · exact programming_idle (by rw [readConfiguration_phase, hp]; exact Phase.noConfusion)
  · unfold readConfiguration
    rw [if_neg fun hc => hp hc.1]
    exact h

/-- Every event that is no event of a tick keeps programming going. -/
theorem plainEffect_programming {c : Instr} {f : State → State} (hc : plainEffect c = some f) {s : State}
    (h : s.programming = true) : (f s).programming = true := by
  cases c <;> cases hc
  case requestTransaction rest =>
    unfold requestTransaction
    split
    · exact beginReset_programming .restart s
    · exact h
  case responseTransaction clocked =>
    unfold responseTransaction
    dsimp only
    split
    · exact beginReset_programming .restart _
    · exact h
  case ignoredTransaction first clocked =>
    unfold ignoredTransaction
    split <;> exact h
  case completionOfProcessing => exact completeProcessing_programming h
  case configurationRead => exact readConfiguration_programming h
  case scanTargetRead => exact readNext_programming h
  case writeLow =>
    unfold writeLow
    split
    · exact (programming_iff _).2 fun _ hg => SupplyLevel.noConfusion hg
    · exact h
  case supplyGood =>
    unfold supplyReturned
    split
    · exact startAttempt_programming _
    · exact h
  case attemptCompletion outcome => exact attemptCompleted_programming h outcome
  case readerReplyComplete bytes =>
    unfold inLinePhase
    split
    · exact transactionReplied_keeps (P := fun s => s.programming = true) programming_frame
        (fun slot f _ h => deviceChange_programming h slot f) h bytes
    · exact h
  case tickEvent readings => exact programming_frame s _ (tickOnce_fixed readings s) (tickOnce_store readings s) h
  case referenceLost => unfold referenceGap; split <;> exact programming_frame s _ (by simp) (by simp) h
  case referenceReturned => unfold referenceGood; split <;> exact programming_frame s _ (by simp) (by simp) h
  all_goals
    unfold inLinePhase
    split
    · exact programming_frame s _ (by simp [linePhase]) (by simp [linePhase]) h
    · exact h

/-- Every command keeps programming going. -/
theorem exec_programming {c : Instr} {s t : State} (hs : s.programming = true) (h : exec c s = .next t) :
    t.programming = true :=
  exec_keeps (P := fun s => s.programming = true) (fun _ => settle_programming)
    (fun d _ h => takeDue_keeps (P := fun s => s.programming = true) programming_frame
      (fun slot f _ h => deviceChange_programming h slot f) h d)
    (fun _ code _ _ ho h => acceptRequest_programming ho code h) (fun _ _ _ hp _ h => plainEffect_programming hp h)
    (fun kind s _ => beginReset_programming kind s) (fun good _ h => endReset_programming h good) hs h

end Sys2Proof.Machine

namespace Sys2Proof.Machine

/-! ### Time in its ranges -/

theorem timeSound_iff (s : State) : s.timeSound = true ↔
    (s.cal.instant.day ≤ 65535 ∧ s.cal.instant.minute < 1440 ∧ s.cal.instant.second < 60 ∧ s.cal.instant.tick < 100)
      ∧ s.tmb.accumulator < 100 ∧ s.tmb.seconds < 64 ∧ s.tmb.subTick < 100 := by
  simp only [State.timeSound, Bool.and_eq_true, decide_eq_true_eq, and_assoc, Config.lastDay]

/-- What keeps the instant and the time base keeps time in its ranges. -/
theorem timeSound_congr {s t : State} (hc : t.cal.instant = s.cal.instant) (ht : t.tmb = s.tmb) :
    t.timeSound = s.timeSound := by
  simp only [State.timeSound, hc, ht]

theorem State.tmb_of_settings {s t : State} (h : s.settings = t.settings) : s.tmb = t.tmb := congrArg (·.2.2.2.2) h

theorem timeSound_kept {s t : State} (h : t.settings = s.settings) : t.timeSound = s.timeSound :=
  timeSound_congr (congrArg Cal.instant (State.cal_of_settings h)) (State.tmb_of_settings h)

/-- What changes the blocks of the vaults, the lines and the settings of the site alone keeps time in its ranges. -/
theorem timeSound_outside {s t : State}
    (h : t.sansDoors.sansSsq.sansSite.sansLqu = s.sansDoors.sansSsq.sansSite.sansLqu) : t.timeSound = s.timeSound :=
  have hc : _ = _ := congrArg (fun u : State => u.cal.instant) h
  have ht : _ = _ := congrArg (fun u : State => u.tmb) h
  timeSound_congr hc ht

theorem setMode_timeSound (mode : Mode) (auto : Bool) (s : State) : (setMode mode auto s).timeSound = s.timeSound :=
  timeSound_outside (congrArg State.sansLqu (setMode_sansSite mode auto s))

theorem evaluateMode_timeSound (s : State) : (evaluateMode s).timeSound = s.timeSound :=
  timeSound_outside (congrArg State.sansLqu (evaluateMode_sansSite s))

theorem suspendLockedOut_timeSound {s : State} (h : s.timeSound = true) (k : Nat) :
    (suspendLockedOut k s).timeSound = true :=
  (timeSound_kept (suspendLockedOut_settings k s)).trans h

theorem minuteEvent_timeSound {s : State} (h : s.timeSound = true) : (minuteEvent s).timeSound = true := by
  unfold minuteEvent
  dsimp only
  split
  · exact foldl_keeps (P := fun s => s.timeSound = true) (fun s k => suspendLockedOut k s)
      (fun s k hs => suspendLockedOut_timeSound hs k) _ ((evaluateMode_timeSound (ageFailures s)).trans h)
  · exact h

theorem referenceLost_timeSound (s : State) : (referenceLost s).timeSound = s.timeSound := by
  unfold referenceLost
  rw [timeSound_kept (causeClock_settings _), timeSound_kept (raised_settings clockFaultKey _)]
  rfl

theorem perform_timeSound {s : State} (h : s.timeSound = true) (d : Due) : (perform d s).timeSound = true := by
  by_cases hm : d = .minute
  · subst hm
    exact minuteEvent_timeSound h
  · by_cases ht : d = .startUpTimeout
    · subst ht
      exact (referenceLost_timeSound s).trans h
    · exact (timeSound_outside (perform_sansLqu hm ht s)).trans h

theorem performDue_timeSound {s : State} (h : s.timeSound = true) (d : Due) : (performDue d s).timeSound = true := by
  unfold performDue
  split
  · exact perform_timeSound h d
  · exact h

theorem settle_timeSound {s : State} (h : s.timeSound = true) : (settle s).timeSound = true :=
  foldl_keeps (P := fun s => s.timeSound = true) (fun s d => performDue d s) (fun _ d hs => performDue_timeSound hs d)
    s.due h

theorem takeDue_timeSound {s : State} (h : s.timeSound = true) (d : Due) : (takeDue d s).timeSound = true := by
  unfold takeDue
  split
  · exact @performDue_timeSound { s with due := s.due.erase d } h d
  · exact h

/-! ### Time at a request -/

/-- SET-TIME takes no instant out of its range (R51). -/
theorem setTime_timeSound {s : State} (h : s.timeSound = true) (day minute second : Nat) :
    (setTime day minute second s).1.timeSound = true := by
  unfold setTime
  split
  · exact h
  · next hr =>
    obtain ⟨-, ht⟩ := (timeSound_iff s).1 h
    refine (evaluateMode_timeSound _).trans ((timeSound_iff _).2 ⟨?_, ht⟩)
    simp only [Config.lastDay, not_or, Nat.not_lt] at hr
    exact ⟨hr.1, Nat.lt_succ_of_le hr.2.1, Nat.lt_succ_of_le hr.2.2, Nat.zero_lt_succ _⟩

theorem placeConfig_timeSound (s : State) : (placeConfig s).timeSound = s.timeSound :=
  timeSound_kept (placeConfig_settings s)

theorem writeHolidays_timeSound {s : State} (h : s.timeSound = true) (days : List Nat) :
    (writeHolidays days s).1.timeSound = true := by
  unfold writeHolidays
  (repeat' split)
  · exact h
  · exact h
  · exact h
  · exact (timeSound_kept (place_settings _ _)).trans h

theorem writeSchedule_timeSound {s : State} (h : s.timeSound = true) (n : Nat) (w : List Window) :
    (writeSchedule n w s).1.timeSound = true := by
  unfold writeSchedule
  (repeat' split)
  · exact h
  · exact h
  · exact h
  · exact h
  · exact (timeSound_kept (place_settings _ _)).trans h

theorem setCommissioningLock_timeSound {s : State} (h : s.timeSound = true) :
    (setCommissioningLock s).1.timeSound = true := by
  unfold setCommissioningLock
  (repeat' split)
  · exact h
  · exact h
  · exact (placeConfig_timeSound _).trans h

theorem eraseAll_timeSound {s : State} (h : s.timeSound = true) : (eraseAll s).1.timeSound = true := by
  have happly := (timeSound_outside (applyConfig_sansLqu erasedConfig s)).trans h
  unfold eraseAll
  (repeat' split)
  · exact h
  · exact h
  · exact h
  · exact h
  · exact (timeSound_kept (startAttempt_settings _)).trans happly

theorem setSiteMode_timeSound {s : State} (h : s.timeSound = true) (value : Option ModeValue) :
    (setSiteMode value s).1.timeSound = true := by
  unfold setSiteMode
  split
  · exact h
  · exact (timeSound_kept (placeOrOweConfig_settings _)).trans ((setMode_timeSound _ _ s).trans h)

theorem setSuppressionParams_timeSound {s : State} (h : s.timeSound = true) (vault : Nat) (p : SuppressionWrite) :
    (setSuppressionParams vault p s).1.timeSound = true := by
  unfold setSuppressionParams onVault
  split
  · exact h
  · dsimp only
    (repeat' split)
    · exact h
    · exact h
    · exact h
    · exact h
    · exact (placeConfig_timeSound _).trans h

theorem writeSite_timeSound {s : State} (h : s.timeSound = true) (w : SiteWrite) :
    (writeSite w s).1.timeSound = true := by
  unfold writeSite
  (repeat' split)
  · exact h
  · exact h
  · exact h
  · next g _ _ _ => exact (placeConfig_timeSound _).trans ((timeSound_outside (applySite_sansLqu g s)).trans h)

theorem writeVault_timeSound {s : State} (h : s.timeSound = true) (v : Vault) (w : VaultWrite) :
    (writeVault v w s).1.timeSound = true := by
  unfold writeVault
  (repeat' split)
  · exact h
  · exact h
  · exact h
  · exact h
  · next g _ _ _ _ =>
    exact (placeConfig_timeSound _).trans
      ((timeSound_outside (congrArg State.sansLqu (applyVault_sansSite v g s))).trans h)

theorem writeParams_timeSound {s : State} (h : s.timeSound = true) (group : GroupWrite) :
    (writeParams group s).1.timeSound = true := by
  cases group with
  | site w => exact writeSite_timeSound h w
  | vault n w =>
    unfold writeParams onVault
    dsimp only
    split
    · exact h
    · exact writeVault_timeSound h _ w
  | other => exact h

/-- Every owner of a request keeps time in its ranges. -/
theorem owner_timeSound {c : Instr} {f : Service} (hc : ownerOf c = some f) {s : State} (h : s.timeSound = true) :
    (f s).1.timeSound = true := by
  cases c <;> cases hc
  case setCommissioningLock => exact setCommissioningLock_timeSound h
  case eraseAll => exact eraseAll_timeSound h
  case setTime day minute second => exact setTime_timeSound h day minute second
  case writeHolidays days => exact writeHolidays_timeSound h days
  case writeSchedule n w => exact writeSchedule_timeSound h n w
  case setSiteMode value => exact setSiteMode_timeSound h value
  case setSuppressionParams vault p => exact setSuppressionParams_timeSound h vault p
  case writeParams group => exact writeParams_timeSound h group
  all_goals exact (timeSound_kept (by simp)).trans h

theorem acceptRequest_timeSound {c : Instr} {f : Service} (hc : ownerOf c = some f) (code : Nat) {s : State}
    (h : s.timeSound = true) : (acceptRequest code f s).timeSound = true :=
  acceptRequest_keeps (P := fun s => s.timeSound = true) (fun _ => settle_timeSound) (fun _ _ h => h)
    (fun _ => owner_timeSound hc) code h

/-! ### Time at the other events -/

theorem tearAttempt_timeSound (s : State) : (tearAttempt s).timeSound = s.timeSound := by
  unfold tearAttempt
  split <;> rfl

theorem resetTmb_range : resetTmb.accumulator < 100 ∧ resetTmb.seconds < 64 ∧ resetTmb.subTick < 100 := by decide

theorem zeroInstant_range :
    zeroInstant.day ≤ 65535 ∧ zeroInstant.minute < 1440 ∧ zeroInstant.second < 60 ∧ zeroInstant.tick < 100 := by
  decide

/-- A reset leaves the instant and gives the time base its reset values (R47, R50). -/
theorem beginReset_timeSound {s : State} (h : s.timeSound = true) (kind : ResetKind) :
    (beginReset kind s).timeSound = true := by
  unfold beginReset
  split
  · exact h
  · obtain ⟨hi, -⟩ := (timeSound_iff _).1 ((tearAttempt_timeSound s).trans h)
    exact (timeSound_iff _).2 ⟨hi, resetTmb_range⟩

theorem endReset_timeSound {s : State} (h : s.timeSound = true) (good : Bool) : (endReset good s).timeSound = true := by
  unfold endReset
  split
  · obtain ⟨hi, ht⟩ := (timeSound_iff s).1 h
    refine (timeSound_iff _).2 ⟨?_, ht⟩
    cases hk : s.resetKind
    · exact zeroInstant_range
    · exact zeroInstant_range
    · exact hi
    · exact hi
  · exact h

theorem damage_withCal_timeSound (t : Target) {c : Cal} {s : State} (hc : c.instant = s.cal.instant) :
    (damage t none (s.withCal c)).timeSound = s.timeSound :=
  (timeSound_kept (damage_settings t none _)).trans (timeSound_congr hc rfl)

theorem readHolidayTarget_timeSound (s : State) : (readHolidayTarget s).timeSound = s.timeSound := by
  unfold readHolidayTarget
  split
  · split
    · rfl
    · exact damage_withCal_timeSound _ rfl
  · exact damage_withCal_timeSound _ rfl

theorem readScheduleTarget_timeSound (n : Nat) (s : State) : (readScheduleTarget n s).timeSound = s.timeSound := by
  unfold readScheduleTarget
  split
  · rfl
  · exact damage_withCal_timeSound _ rfl

theorem readSlotTarget_timeSound (n : Nat) (s : State) : (readSlotTarget n s).timeSound = s.timeSound := by
  unfold readSlotTarget
  split
  · exact timeSound_kept (damage_settings _ _ _)
  · rfl
  · split
    · exact timeSound_kept (damage_settings _ _ _)
    · rfl

theorem readTarget_timeSound (k : Nat) (s : State) : (readTarget k s).timeSound = s.timeSound := by
  unfold readTarget
  split
  · exact readHolidayTarget_timeSound s
  · split
    · exact readScheduleTarget_timeSound _ s
    · exact readSlotTarget_timeSound _ s

theorem readNext_timeSound {s : State} (h : s.timeSound = true) : (readNext s).timeSound = true := by
  have hr : ({ readTarget s.scanPos s with scanPos := s.scanPos + 1 } : State).timeSound = true :=
    (readTarget_timeSound s.scanPos s).trans h
  unfold readNext endScan
  dsimp only
  (repeat' split)
  · exact (timeSound_kept (startAttempt_settings _)).trans ((evaluateMode_timeSound _).trans hr)
  · exact hr
  · exact h

theorem resumeMode_timeSound (s : State) : (resumeMode s).timeSound = s.timeSound := by
  unfold resumeMode
  dsimp only
  split <;> rfl

theorem giveConfig_timeSound (b : ConfigBlock) (s : State) : (giveConfig b s).timeSound = s.timeSound := by
  unfold giveConfig
  rw [timeSound_kept (beginTransaction_settings _),
    eachVault_part State.timeSound _ fun v s => timeSound_kept (beginVault_frames v s).2.2]
  exact resumeMode_timeSound _

theorem readConfiguration_timeSound {s : State} (h : s.timeSound = true) : (readConfiguration s).timeSound = true := by
  unfold readConfiguration
  dsimp only
  (repeat' split)
  · exact (giveConfig_timeSound _ _).trans h
  · exact (giveConfig_timeSound _ _).trans ((timeSound_kept (damage_settings _ _ _)).trans h)
  · exact h

theorem completeProcessing_timeSound {s : State} (h : s.timeSound = true) :
    (completeProcessing s).timeSound = true := by
  unfold completeProcessing
  (repeat' split)
  · exact h
  · exact h
  · next hi => exact acceptRequest_timeSound hi _ h
  · exact h

/-- The calendar one tick later lies in its ranges (R48). -/
theorem Cal.tick_range {c : Cal}
    (h : c.instant.day ≤ 65535 ∧ c.instant.minute < 1440 ∧ c.instant.second < 60 ∧ c.instant.tick < 100) :
    c.tick.1.instant.day ≤ 65535 ∧ c.tick.1.instant.minute < 1440 ∧ c.tick.1.instant.second < 60
      ∧ c.tick.1.instant.tick < 100 := by
  obtain ⟨hd, hm, hs, ht⟩ := h
  unfold Cal.tick
  dsimp only
  (repeat' split)
  · next hlt => exact ⟨hd, hm, hs, hlt⟩
  · next hlt => exact ⟨hd, hm, hlt, Nat.zero_lt_succ _⟩
  · next hlt => exact ⟨hd, hlt, Nat.zero_lt_succ _, Nat.zero_lt_succ _⟩
  · next hlt => exact ⟨hlt, Nat.zero_lt_succ _, Nat.zero_lt_succ _, Nat.zero_lt_succ _⟩
  · exact zeroInstant_range

/-- The counts of the time base lie in their ranges a tick later (R43, R44). -/
theorem Tmb.tick_range {t : Tmb} (h : t.accumulator < 100 ∧ t.seconds < 64 ∧ t.subTick < 100) (trim : Int) :
    (t.tick trim).accumulator < 100 ∧ (t.tick trim).seconds < 64 ∧ (t.tick trim).subTick < 100 := by
  obtain ⟨ha, hs, hu⟩ := h
  have hacc : nextAccumulator t.accumulator < 100 := by unfold nextAccumulator; split <;> omega
  have hsec : (if t.subTick + 1 = 100 then (t.seconds + 1) % 64 else t.seconds) < 64 := by split <;> omega
  have hsub : (if t.subTick + 1 = 100 then 0 else t.subTick + 1) < 100 := by split <;> omega
  obtain ⟨acc, sec, sub, source, length, up⟩ := t
  cases source
  case rc => exact ⟨ha, hsec, hsub⟩
  case reference => exact ⟨hacc, hsec, hsub⟩
  case rcReturnPending => exact ⟨hacc, hsec, hsub⟩

theorem ticked_timeSound {s : State} (h : s.timeSound = true) : (ticked s).timeSound = true := by
  obtain ⟨hi, ht⟩ := (timeSound_iff s).1 h
  have hu : (if s.cal.endsLastDay then causeClock s else s).tmb = s.tmb := by split <;> rfl
  refine (timeSound_iff _).2 ⟨Cal.tick_range hi, ?_⟩
  rw [← hu] at ht
  exact Tmb.tick_range ht _

theorem tickOnce_timeSound {s : State} (h : s.timeSound = true) (r : Readings) : (tickOnce r s).timeSound = true := by
  rw [tickOnce_eq]
  split
  · rw [timeSound_kept (sampleLines_settings r _), timeSound_kept (tickCombination_settings _)]
    exact ticked_timeSound h
  · exact ticked_timeSound h

theorem referenceReturned_timeSound (s : State) : (referenceReturned s).timeSound = s.timeSound := by
  unfold referenceReturned
  dsimp only
  split
  · rfl
  · rw [timeSound_kept (causeClock_settings _), timeSound_kept (endCondition_settings clockFaultKey _)]
    rfl

theorem attemptCompleted_timeSound (outcome : AttemptOutcome) (s : State) :
    (attemptCompleted outcome s).timeSound = s.timeSound := by
  unfold attemptCompleted
  split
  · rfl
  · dsimp only
    rw [timeSound_kept (startAttempt_settings _)]
    split
    · rfl
    · split
      · exact (timeSound_kept (eraseCompleted_settings _ _ _)).trans rfl
      · exact (timeSound_kept (queueCompleted_settings _ _)).trans rfl

/-- Every event that is no event of a tick keeps time in its ranges. -/
theorem plainEffect_timeSound {c : Instr} {f : State → State} (hc : plainEffect c = some f) {s : State}
    (h : s.timeSound = true) : (f s).timeSound = true := by
  cases c <;> cases hc
  case requestTransaction rest =>
    unfold requestTransaction
    split
    · exact beginReset_timeSound h .restart
    · exact h
  case responseTransaction clocked =>
    unfold responseTransaction
    dsimp only
    split
    · refine beginReset_timeSound ?_ .restart
      exact h
    · exact h
  case ignoredTransaction first clocked =>
    unfold ignoredTransaction
    split <;> exact h
  case completionOfProcessing => exact completeProcessing_timeSound h
  case configurationRead => exact readConfiguration_timeSound h
  case scanTargetRead => exact readNext_timeSound h
  case writeLow =>
    unfold writeLow
    split <;> exact h
  case supplyGood =>
    unfold supplyReturned
    split
    · exact (timeSound_kept (startAttempt_settings _)).trans h
    · exact h
  case attemptCompletion outcome => exact (attemptCompleted_timeSound outcome s).trans h
  case tickEvent readings => exact tickOnce_timeSound h readings
  case referenceLost =>
    unfold referenceGap
    split
    · exact (referenceLost_timeSound s).trans h
    · exact (referenceLost_timeSound s).trans h
    · exact h
  case referenceReturned =>
    unfold referenceGood
    split
    · exact (referenceReturned_timeSound s).trans h
    · exact h
    · exact h
  all_goals
    unfold inLinePhase
    split
    · exact (timeSound_kept (by simp [linePhase])).trans h
    · exact h

/-- Every command keeps time in its ranges. -/
theorem exec_timeSound {c : Instr} {s t : State} (hs : s.timeSound = true) (h : exec c s = .next t) :
    t.timeSound = true :=
  exec_keeps (P := fun s => s.timeSound = true) (fun _ => settle_timeSound) (fun d _ h => takeDue_timeSound h d)
    (fun _ code _ _ ho h => acceptRequest_timeSound ho code h) (fun _ _ _ hp _ h => plainEffect_timeSound hp h)
    (fun kind _ h => beginReset_timeSound h kind) (fun good _ h => endReset_timeSound h good) hs h

/-- Settles O13: wherever an entry is left or placed an attempt starts where one can, and each count of time wraps
within its range. -/
theorem everyStepKeepsProgrammingAndTime : Obligations.EveryStepKeepsProgrammingAndTime := by
  unfold Obligations.EveryStepKeepsProgrammingAndTime
  exact ⟨fun s t hs h => step_keeps (P := fun s => s.programming = true) (fun _ _ h => h)
      (fun _ _ _ hs h => exec_programming hs h) hs h,
    fun s t hs h => step_keeps (P := fun s => s.timeSound = true) (fun _ _ h => h)
      (fun _ _ _ hs h => exec_timeSound hs h) hs h⟩

end Sys2Proof.Machine

namespace Sys2Proof.Machine

/-! ## The write queue takes an image (O17) -/

/-- The position of every other target stands: its entry is not replaced, and a new entry comes after it (R28, R29). -/
theorem Nva.position_place_other (n : Nva) (i : Image) {t : Target} (ht : t ≠ i.target) :
    (n.place i).position t = n.position t := by
  have same : (fun e : QueueEntry => decide (e.image.target = t)) ∘ QueueEntry.replacedBy i =
      fun e => decide (e.image.target = t) :=
    funext fun e => by simp [QueueEntry.replacedBy_target]
  unfold Nva.position
  rw [Nva.place_queue]
  by_cases h : (n.queued i.target).isSome = true
  · rw [if_pos h, List.findIdx?_map, same]
  · rw [if_neg h]
    simp [List.findIdx?_append, Ne.symm ht]

/-- Settles O17: the four parts are what a look into the queue and a position give once an image is placed. -/
theorem placingCoalescesOrAppends : Obligations.PlacingCoalescesOrAppends := by
  unfold Obligations.PlacingCoalescesOrAppends
  intro n i _
  refine ⟨by rw [Nva.queued_place, if_pos rfl], fun t ht => ⟨by rw [Nva.queued_place, if_neg ht],
    n.position_place_other i ht⟩, fun hq => ⟨?_, ?_⟩, fun hq => ⟨?_, ?_⟩⟩
  · rw [Nva.place_queue, if_pos hq, List.length_map]
  · rw [Nva.position_place, if_pos hq]
  · rw [Nva.place_queue, hq]
    rfl
  · rw [Nva.position_place, hq]
    rfl

end Sys2Proof.Machine

namespace Sys2Proof.Machine

/-! ## The requests that report a record (O23) -/

theorem onVault_num (v : Vault) (f : Vault → Service) : onVault v.num f = f v := by
  unfold onVault
  simp

theorem onVault_bad {n : Nat} (h : 8 ≤ n) (f : Vault → Service) (s : State) : onVault n f s = refuse .badField s := by
  simp [onVault, Vault.ofNum_eq_none h]

/-- The mark of an entry in STORE-STATUS: its attempt is the one in flight, and no erase pass runs (R36). -/
theorem State.entryReport_eq (s : State) : s.entryReport = fun e => (e.image.target, e.attempts,
    decide (s.nva.erase = none ∧ s.nva.inFlight.map (fun a => a.image.target) = some e.image.target)) := by
  funext e
  unfold State.entryReport
  cases s.nva.erase <;> cases s.nva.inFlight <;> simp

/-- The report of an entry of an occupancy list (R156). -/
theorem Occupant.report_eq : Occupant.report = fun e : Occupant =>
    { entry := e, checkIn := e.checkIn.map fun n => { ticks := n, seconds := (n + 99) / 100 }
      escortLeft := e.wanted && decide (e.link = none), loneWorker := e.overdue } := by
  funext e
  unfold Occupant.report
  cases e.link <;> rfl

/-- Settles O23: each of the five answers with the fields of its records and hands the state back. -/
theorem statusRequestsReportTheRecords : Obligations.StatusRequestsReportTheRecords := by
  unfold Obligations.StatusRequestsReportTheRecords
  refine ⟨fun s hs => ?_, fun s hs => ⟨hostRequest_ok hs rfl, fun n hn => ?_, fun n hn => ?_⟩,
    fun s hs => ⟨fun n hn => hostRequest_refuse hs (onVault_bad hn _ s), fun v => ?_⟩,
    fun s hs => ⟨fun n hn => hostRequest_refuse hs (onVault_bad hn _ s), fun v => ?_⟩⟩
  · rw [← s.entryReport_eq]
    exact hostRequest_ok hs rfl
  · exact hostRequest_ok hs (if_neg (Nat.not_le.2 hn))
  · exact hostRequest_refuse hs (if_pos hn)
  · rw [← Occupant.report_eq]
    exact hostRequest_ok hs (congrFun (onVault_num v _) s)
  · exact hostRequest_ok hs (congrFun (onVault_num v _) s)

end Sys2Proof.Machine

namespace Sys2Proof.Machine

/-! ## Where the array changes (O5) -/

/-! ### What a settling programs -/

/-- The state with every field blanked that the minute event's lockouts neither read nor write: what is left is the array,
the phase, the supply, the write queue, the index, the failure table and the values in force. -/
def State.storePart (s : State) : State :=
  { State.reset with
    array := s.array
    phase := s.phase
    supply := s.supply
    nva := s.nva
    index := s.index
    failures := s.failures
    cfg := s.cfg }

theorem State.storePart_eq {s t : State} (hf : s.fixed = t.fixed) (hs : s.store = t.store) (hl : s.failures = t.failures)
    (hc : s.cfg = t.cfg) : s.storePart = t.storePart := by
  simp only [State.storePart, State.array_of_fixed hf, State.phase_of_fixed hf, State.supply_of_fixed hf,
    State.nva_of_store hs, State.index_of_store hs, hl, hc]

theorem State.of_storePart {s t : State} (h : s.storePart = t.storePart) :
    s.nva = t.nva ∧ s.failures = t.failures ∧ s.cfg = t.cfg := by
  have e := congrArg (fun u : State => (u.nva, u.failures, u.cfg)) h
  simp only [Prod.mk.injEq] at e
  exact e

/-- A fold of changes whose store part is that of the change of the store part. -/
theorem foldl_storePart {α : Type} {f : State → α → State}
    (h : ∀ s a, (f s a).storePart = (f s.storePart a).storePart) (l : List α) {s t : State}
    (e : s.storePart = t.storePart) : (l.foldl f s).storePart = (l.foldl f t).storePart := by
  induction l generalizing s t with
  | nil => exact e
  | cons a l ih => exact ih (by rw [h, e, ← h])

theorem startAttempt_storePart (s : State) : (startAttempt s).storePart = (startAttempt s.storePart).storePart := by
  have hp : s.storePart.phase = s.phase := rfl
  have hn : s.storePart.nva = s.nva := rfl
  have hs : s.storePart.supply = s.supply := rfl
  unfold startAttempt
  rw [hp, hn, hs]
  split
  · split
    · rfl
    · split <;> rfl
  · rfl

theorem place_storePart (i : Image) (s : State) : (place i s).storePart = (place i s.storePart).storePart := by
  have start {t u : State} (h : t.storePart = u.storePart) : (startAttempt t).storePart = (startAttempt u).storePart := by
    rw [startAttempt_storePart t, startAttempt_storePart u, h]
  cases i <;> exact start rfl

theorem deviceChange_storePart (slot : Nat) (f : CredRecord → CredRecord) (s : State) :
    (deviceChange slot f s).1.storePart = (deviceChange slot f s.storePart).1.storePart
      ∧ (deviceChange slot f s).2 = (deviceChange slot f s.storePart).2 := by
  have hc : s.storePart.slotContent slot = s.slotContent slot := rfl
  have hd : s.storePart.devicePlace (.slot slot) = s.devicePlace (.slot slot) := rfl
  unfold deviceChange
  rw [hc, hd]
  split
  · split
    · exact ⟨place_storePart _ s, rfl⟩
    · exact ⟨rfl, rfl⟩
  · exact ⟨rfl, rfl⟩

theorem forget_storePart {s t : State} (k : Nat) (h : s.storePart = t.storePart) :
    (forget k s).storePart = (forget k t).storePart := by
  have := congrArg (fun u : State => (forget k u).storePart) h
  exact this

theorem suspendLockedOut_storePart (s : State) (k : Nat) :
    (suspendLockedOut k s).storePart = (suspendLockedOut k s.storePart).storePart := by
  have hk : s.storePart.credential k = s.credential k := rfl
  unfold suspendLockedOut
  rw [hk]
  split
  · rfl
  · next slot r _ =>
    split
    · obtain ⟨hs, hm⟩ := deviceChange_storePart slot (fun r => { r with state := .suspended }) s
      dsimp only
      rw [← hm]
      split
      · exact forget_storePart k hs
      · rfl
    · rfl

theorem evaluateMode_storePart (s : State) : (evaluateMode s).storePart = s.storePart := by
  have hc : (evaluateMode s).cfg = s.cfg := by
    unfold evaluateMode
    split
    · exact (State.cfg_of_settings (setMode_settings _ _ s)).trans rfl
    · rfl
  have hf := congrArg (fun u : State => u.failures) (evaluateMode_sansSite s)
  exact State.storePart_eq (evaluateMode_fixed s) (evaluateMode_store s) hf hc

theorem minuteEvent_storePart (s : State) : (minuteEvent s).storePart = (minuteEvent s.storePart).storePart := by
  have hp : (ageFailures s.storePart).phase = (ageFailures s).phase := rfl
  have hm : (evaluateMode (ageFailures s)).storePart = (evaluateMode (ageFailures s.storePart)).storePart := by
    rw [evaluateMode_storePart, evaluateMode_storePart]
    rfl
  obtain ⟨-, hl, hc⟩ := State.of_storePart hm
  unfold minuteEvent
  dsimp only
  rw [hp]
  split
  · unfold repeatLockouts
    rw [← hl, ← hc]
    exact foldl_storePart suspendLockedOut_storePart _ hm
  · rfl

theorem referenceLost_storePart (s : State) : (referenceLost s).storePart = s.storePart := by
  have hf (t : State) : (raised clockFaultKey t).failures = t.failures := by
    have e := congrArg (fun u : State => u.failures) (raised_sansDoors clockFaultKey t)
    exact e
  have hc (t : State) : (raised clockFaultKey t).cfg = t.cfg := State.cfg_of_settings (raised_settings clockFaultKey t)
  exact State.storePart_eq (referenceLost_fixed s) (referenceLost_store s) (hf _) (hc _)

/-- Of the events of a tick the minute alone changes the store part. -/
theorem performDue_storePart (s : State) (d : Due) :
    (performDue d s).storePart = if d = .minute then (minuteEvent s.storePart).storePart else s.storePart := by
  split
  · next hm =>
    subst hm
    exact minuteEvent_storePart s
  · next hm =>
    unfold performDue
    split
    · by_cases ht : d = .startUpTimeout
      · subst ht
        exact referenceLost_storePart s
      · obtain ⟨hs, hc⟩ := perform_frames hm ht s
        have hf := congrArg (fun u : State => u.failures) (perform_sansLqu hm ht s)
        exact State.storePart_eq (perform_fixed d s) hs hf (State.cfg_of_settings hc)
    · rfl

/-- What is programmed once the events of a tick are settled does not depend on the commands that wait. -/
theorem settle_withPending_nva (s : State) (q : List Instr) : (settle (s.withPending q)).nva = (settle s).nva := by
  have step (s : State) (d : Due) : (performDue d s).storePart = (performDue d s.storePart).storePart := by
    rw [performDue_storePart, performDue_storePart]
    rfl
  have h := foldl_storePart (f := fun s d => performDue d s) step s.due
    (show (s.withPending q).storePart = s.storePart from rfl)
  exact (State.of_storePart h).1

/-! ### The events that program -/

/-- A reset leaves the target of the attempt that it cuts off as one of the three that R37 names. -/
theorem beginReset_array (kind : ResetKind) (s : State) : (beginReset kind s).array = s.array
    ∨ ∃ a left, s.nva.inFlight = some a ∧ (beginReset kind s).array = s.array.leave a.image left := by
  unfold beginReset
  split
  · exact .inl rfl
  · unfold tearAttempt
    cases s.nva.inFlight with
    | none => exact .inl rfl
    | some a => exact .inr ⟨a, _, rfl, rfl⟩

theorem attemptCompleted_array (o : AttemptOutcome) (s : State) : (attemptCompleted o s).array = s.array
    ∨ ∃ a left, s.nva.inFlight = some a ∧ (attemptCompleted o s).array = s.array.leave a.image left := by
  have h := attemptCompleted_fixed o s
  cases hi : s.nva.inFlight with
  | none =>
    rw [hi] at h
    exact .inl (State.array_of_fixed h)
  | some a =>
    rw [hi] at h
    obtain ⟨left, hl⟩ := attemptArray_leaves a o s.array
    exact .inr ⟨a, left, rfl, (State.array_of_fixed h).trans hl⟩

theorem readConfiguration_array (s : State) : (readConfiguration s).array = s.array := by
  have hg (b : ConfigBlock) (t : State) : (giveConfig b t).array = t.array := by
    unfold giveConfig
    rw [State.array_of_fixed (beginTransaction_fixed _),
      State.array_of_fixed (eachVault_fixed _ (fun v s => (beginVault_frames v s).1) _)]
    unfold resumeMode
    dsimp only
    split <;> rfl
  unfold readConfiguration
  dsimp only
  (repeat' split)
  · exact hg _ _
  · exact (hg _ _).trans ((State.array_of_fixed (damage_fixed _ _ _)).trans rfl)
  · rfl

theorem endScan_array (s : State) : (endScan s).array = s.array := by
  unfold endScan
  rw [State.array_of_fixed (startAttempt_fixed _), State.array_of_fixed (evaluateMode_fixed _)]

theorem readNext_array (s : State) : (readNext s).array = s.array := by
  have hr := State.array_of_fixed (readTarget_fixed s.scanPos s)
  unfold readNext
  dsimp only
  (repeat' split)
  · rw [endScan_array]
    exact hr
  · exact hr
  · rfl

theorem completeProcessing_array (s : State) : (completeProcessing s).array = s.array := by
  unfold completeProcessing
  (repeat' split)
  · rfl
  · rfl
  · next hi => exact State.array_of_fixed (acceptRequest_fixed _ _ s fun _ => owner_fixed hi _)
  · rfl

/-- The change that an attempt in flight makes to the array: its target is left as one of the three that R32 and R37 name,
by the completion of the attempt or by a reset. -/
def Programmed (c : Instr) (s t : State) : Prop :=
  ∃ a left, s.nva.inFlight = some a ∧ t.array = s.array.leave a.image left
    ∧ ((∃ o, c = .attemptCompletion o) ∨ t.phase = .reset)

theorem beginReset_programs (c : Instr) (kind : ResetKind) (s : State) : (beginReset kind s).array = s.array
    ∨ Programmed c s (beginReset kind s) := by
  rcases beginReset_array kind s with h | ⟨a, left, hi, h⟩
  · exact .inl h
  · exact .inr ⟨a, left, hi, h, .inr (beginReset_phase kind s)⟩

/-- Of the events out of reset an attempt's completion and a RESTART alone reach the array. -/
theorem plainEffect_programs {c : Instr} {f : State → State} (hc : plainEffect c = some f) (s : State) :
    (f s).array = s.array ∨ Programmed c s (f s) := by
  have frame {u : State} (hu : u.fixed = s.fixed) : u.array = s.array ∨ Programmed c s u :=
    .inl (State.array_of_fixed hu)
  cases c <;> cases hc
  case requestTransaction rest =>
    unfold requestTransaction
    split
    · exact beginReset_programs _ _ s
    · exact frame rfl
  case responseTransaction clocked =>
    unfold responseTransaction
    dsimp only
    split
    · exact beginReset_programs _ _ (s.withLink _)
    · exact frame rfl
  case ignoredTransaction first clocked => unfold ignoredTransaction; split <;> exact frame rfl
  case completionOfProcessing => exact .inl (completeProcessing_array s)
  case configurationRead => exact .inl (readConfiguration_array s)
  case scanTargetRead => exact .inl (readNext_array s)
  case writeLow => unfold writeLow; split <;> exact .inl rfl
  case supplyGood =>
    unfold supplyReturned
    split
    · exact .inl ((State.array_of_fixed (startAttempt_fixed _)).trans rfl)
    · exact .inl rfl
  case attemptCompletion outcome =>
    rcases attemptCompleted_array outcome s with h | ⟨a, left, hi, h⟩
    · exact .inl h
    · exact .inr ⟨a, left, hi, h, .inl ⟨outcome, rfl⟩⟩
  case tickEvent readings => exact frame (tickOnce_fixed readings s)
  case referenceLost => unfold referenceGap; split <;> exact frame (by simp)
  case referenceReturned => unfold referenceGood; split <;> exact frame (by simp)
  all_goals
    unfold inLinePhase
    split
    · exact frame (by simp [linePhase])
    · exact frame rfl

/-- A command changes the array only by what the attempt in flight leaves, once the events of the tick are settled. -/
theorem exec_programs {c : Instr} {s t : State} (h : exec c s = .next t) :
    t.array = s.array ∨ Programmed c (settle s) t := by
  have hs : (settle s).array = s.array := State.array_of_fixed (settle_fixed s)
  rcases form c with ⟨code, f, ho, he⟩ | ⟨d, f, -, he, ht⟩ | ⟨f, hp, he⟩ | ⟨kind, -, he⟩ | ⟨good, he⟩
  · rw [he] at h
    cases h
    exact .inl (State.array_of_fixed (acceptRequest_fixed code f s (owner_fixed ho)))
  · rw [he] at h
    cases h
    split
    · exact .inl rfl
    · rcases ht s with e | e <;> rw [e]
      · exact .inl (State.array_of_fixed (takeDue_fixed d s))
      · exact .inl rfl
  · rw [he] at h
    cases h
    rw [← hs]
    split
    · exact .inl rfl
    · exact plainEffect_programs hp (settle s)
  · rw [he] at h
    cases h
    rw [← hs]
    exact beginReset_programs c kind (settle s)
  · rw [he] at h
    cases h
    rw [← hs]
    unfold endReset
    split <;> exact .inl rfl

/-- Settles O5: an attempt's completion and a reset reach the array alone, and what is in flight then does not depend on the
commands that wait. -/
theorem theArrayChangesOnlyByProgramming : Obligations.TheArrayChangesOnlyByProgramming := by
  unfold Obligations.TheArrayChangesOnlyByProgramming
  intro s t h hne
  unfold step at h
  split at h
  · cases h
    exact absurd rfl hne
  · next c rest hq =>
    rcases exec_programs h with he | ⟨a, left, hi, ha, hw⟩
    · exact absurd he hne
    · have hs : (settle (s.withPending rest)).array = s.array :=
        (State.array_of_fixed (settle_fixed _)).trans rfl
      rw [hs] at ha
      refine ⟨a, left, settle_withPending_nva s rest ▸ hi, ha, fun hc n hn => ?_, ?_⟩
      · rw [ha]
        exact NvArray.slotCell_leave hc left hn
      · rcases hw with ⟨o, rfl⟩ | hr
        · exact .inl ⟨o, rest, hq⟩
        · exact .inr hr

end Sys2Proof.Machine

namespace Sys2Proof.Machine

/-! ## The settings once a group of values is given to its owners -/

theorem State.withGroup_settings_congr {s t : State} (h : s.settings = t.settings) (v : Vault) (g : VaultGroup) :
    (s.withGroup v g).settings = (t.withGroup v g).settings := by
  obtain ⟨hc, hr⟩ := Prod.mk.inj h
  simp only [State.settings, State.withGroup, hc]
  exact congrArg (Prod.mk _) hr

theorem State.group_of_settings {s t : State} (h : s.settings = t.settings) (v : Vault) : s.group v = t.group v :=
  congrArg (fun b : ConfigBlock => b.vaults.get v) (State.cfg_of_settings h)

theorem State.withGroup_withGroup (s : State) (v : Vault) (g g' : VaultGroup) :
    (s.withGroup v g).withGroup v g' = s.withGroup v g' := by
  simp [State.withGroup]

theorem State.withGroup_group_self (s : State) (v : Vault) : s.withGroup v (s.group v) = s := by
  simp [State.withGroup, State.group]

/-- A vault that ceases to be enabled changes nothing of the settings but its flag. -/
theorem disableVault_settings (v : Vault) (s : State) :
    (disableVault v s).settings = (s.withGroup v { s.group v with enabled := false }).settings := by
  unfold disableVault
  dsimp only
  rw [disableOnLine_settings]
  split
  all_goals
    rw [State.withGroup_settings_congr (t := s) (by simp), State.group_of_settings (t := s) (by simp)]

/-- A vault that becomes enabled changes nothing of the settings but its flag. -/
theorem enableVault_settings (v : Vault) (s : State) :
    (enableVault v s).settings = (s.withGroup v { s.group v with enabled := true }).settings := by
  unfold enableVault
  dsimp only
  (repeat' split) <;> simp

theorem setEnabled_settings (v : Vault) (b : Bool) (s : State) :
    (setEnabled v b s).settings = (s.withGroup v { s.group v with enabled := b }).settings := by
  unfold setEnabled
  split
  · next h =>
    subst h
    exact congrArg State.settings (s.withGroup_group_self v).symm
  · cases b
    · exact disableVault_settings v s
    · exact enableVault_settings v s

/-- A vault group given to its owners stands in the settings, and nothing else of them changes (R208). -/
theorem applyVault_settings (v : Vault) (g : VaultGroup) (s : State) :
    (applyVault v g s).settings = (s.withGroup v g).settings := by
  have h : ((setEnabled v g.enabled s).withGroup v g).settings = (s.withGroup v g).settings := by
    rw [State.withGroup_settings_congr (setEnabled_settings v g.enabled s), State.withGroup_withGroup]
  unfold applyVault
  dsimp only
  (repeat' split) <;> simp [h]

theorem State.withSite_settings_congr {s t : State} (h : s.settings = t.settings) (g : SiteGroup) :
    (s.withSite g).settings = (t.withSite g).settings := by
  obtain ⟨hc, hr⟩ := Prod.mk.inj h
  simp only [State.settings, State.withSite, hc]
  exact congrArg (Prod.mk _) hr

theorem setRoles_settings (roles : PerSite Role) (s : State) :
    (setRoles roles s).settings = (s.withSite { s.cfg.site with roles := roles }).settings := by
  unfold setRoles
  dsimp only
  split <;> simp [foldl_settings]

/-- A site group given to its owners stands in the settings, and nothing else of them changes (R208). -/
theorem applySite_settings (g : SiteGroup) (s : State) : (applySite g s).settings = (s.withSite g).settings := by
  unfold applySite
  rw [State.withSite_settings_congr (setRoles_settings g.roles s)]
  rfl

/-- A configuration given to the owners leaves the site mode record, the calendar and the time base alone. -/
theorem applyConfig_settings (b : ConfigBlock) (s : State) :
    (applyConfig b s).settings = State.settings { s with cfg := b } := by
  have hv : (eachVault (fun v s => applyVault v (b.vaults.get v) s)
      (applySite b.site { s with cfg := { s.cfg with suppression := b.suppression } })).settings.2 = s.settings.2 := by
    rw [eachVault_part (fun u => u.settings.2) _ fun v u => congrArg (·.2) (applyVault_settings v (b.vaults.get v) u)]
    exact congrArg (·.2) (applySite_settings b.site _)
  exact congrArg (Prod.mk b) hv

end Sys2Proof.Machine

namespace Sys2Proof.Machine

/-! ## The configuration block in the write queue -/

/-- All that placing the configuration block does: the queue and the attempt in flight change. -/
theorem placeConfig_eq (s : State) :
    ∃ x, placeConfig s = { s with nva := { s.nva.place (.config s.cfg) with inFlight := x } } :=
  ⟨_, by unfold placeConfig place; rw [startAttempt_eq, startAttempt_nva]; rfl⟩

theorem placeConfig_queued (s : State) : (placeConfig s).configQueued := by
  obtain ⟨x, hx⟩ := placeConfig_eq s
  rw [hx]
  exact (s.nva.queued_place (.config s.cfg) .config).trans (if_pos rfl)

/-- The position that the answer to a configuration write reports (R15, R29). -/
theorem placeConfig_position (s : State) : (placeConfig s).nva.position .config = s.placing .config := by
  obtain ⟨x, hx⟩ := placeConfig_eq s
  rw [hx]
  exact s.nva.position_place (.config s.cfg)

/-! ## The commissioning requests (O25) -/

/-- The lock is set, and the configuration block is queued with it (R40). -/
theorem setCommissioningLock_free {s : State} (hl : s.cfg.lock = false) (hb : s.storeBusy = false) :
    setCommissioningLock s =
      ok (.position (s.placing .config)) (placeConfig { s with cfg := { s.cfg with lock := true } }) := by
  unfold setCommissioningLock
  rw [hl, hb]
  exact congrArg (fun n => ok (.position n) (placeConfig { s with cfg := { s.cfg with lock := true } }))
    (placeConfig_position _)

/-- No number is IN-USE where every list is empty (R41). -/
theorem State.anyInUse_eq_false {s : State} (h : ∀ v, (s.occupancy v).entries = [] ∧ s.pair v = none
    ∧ ∀ g, (s.door v).vaultGrant = some g → g.entering = [] ∧ g.exiting = []) : s.anyInUse = false := by
  simp only [State.anyInUse, List.any_eq_false]
  intro v _
  obtain ⟨ho, hp, hg⟩ := h v
  cases hd : (s.door v).vaultGrant with
  | none => simp [ho, hp]
  | some g =>
    obtain ⟨he, hx⟩ := hg g hd
    simp [ho, hp, he, hx]

/-- ERASE-ALL with its checks passed (R41). -/
theorem eraseAll_passed {s : State} (hm : s.mode = .maintenance) (he : s.nva.erase = none)
    (hi : ∀ v, s.enabled v = true → (s.sequencer v).state = .isolated) (hu : s.anyInUse = false) :
    eraseAll s = ok .empty (eraseSite s) := by
  have hn : s.notIsolated = false := by
    simp only [State.notIsolated, List.any_eq_false]
    intro v _
    simpa using hi v
  simp [eraseAll, hm, he, hn, hu]

/-- The store that ERASE-ALL leaves: nothing is queued, and the erase pass is at its first target. -/
theorem eraseSite_eq (s : State) : ∃ x, eraseSite s =
    { applyConfig erasedConfig s with
      index := []
      failures := []
      cal := { s.cal with schedules := [], holidays := [] }
      nva :=
        { queue := []
          inFlight := x
          owed := false
          damaged := []
          damagedSlots := []
          unsettled := s.nva.unsettled
          erase := some { next := 0, attempts := 0 } } } := by
  have hn : (applyConfig erasedConfig s).nva = s.nva := State.nva_of_store (applyConfig_store _ s)
  have hc : (applyConfig erasedConfig s).cal = s.cal := applyConfig_cal _ s
  unfold eraseSite
  dsimp only
  generalize applyConfig erasedConfig s = u at *
  rw [hn, hc, startAttempt_eq, startAttempt_nva]
  exact ⟨_, rfl⟩

/-- The first attempt of the pass is on slot 0, where none was in flight and the supply is good (R42). -/
theorem eraseSite_inFlight {s : State} (hp : s.phase = .running) (hi : s.nva.inFlight = none) (hs : s.supply = .good) :
    (eraseSite s).nva.inFlight = some { image := .slot 0 none, discard := false, spoiled := false } := by
  have hn : (applyConfig erasedConfig s).nva = s.nva := State.nva_of_store (applyConfig_store _ s)
  have hf := applyConfig_fixed erasedConfig s
  have hp' : (applyConfig erasedConfig s).phase = .running := (State.phase_of_fixed hf).trans hp
  have hs' : (applyConfig erasedConfig s).supply = .good := (State.supply_of_fixed hf).trans hs
  unfold eraseSite startAttempt
  dsimp only
  generalize applyConfig erasedConfig s = u at *
  rw [hn, hi, hp', hs']
  rfl

/-- A slot reads FREE where nothing is queued and the erase pass runs (R41). -/
theorem State.slotContent_erasing {s : State} (hq : s.nva.queue = []) (hd : s.nva.damagedSlots = []) {e : ErasePass}
    (he : s.nva.erase = some e) (n : Nat) : s.slotContent n = .free := by
  simp [State.slotContent, State.storedContent, Nva.queued, hq, hd, he]

theorem applyConfig_link (b : ConfigBlock) (s : State) :
    (applyConfig b s).link.tag = s.link.tag ∧ (applyConfig b s).link.overrun = s.link.overrun := by
  have h := congrArg (fun u : State => (u.link.tag, u.link.overrun)) (applyConfig_sansLqu b s)
  generalize applyConfig b s = u at *
  exact Prod.mk.inj h

/-- The response that a request leaves names the tag and the overrun flag of the link record alone (R203). -/
theorem Link.answered_response {l m : Link} (ht : l.tag = m.tag) (ho : l.overrun = m.overrun) {code : Nat} {st : Status}
    {b : Body} : (l.answered code st b).response = (m.answered code st b).response := by
  simp only [Link.answered, ht, ho]

/-- Settles O25: the lock is a write of the configuration block, and ERASE-ALL is a configuration given to the owners with
the volatile store emptied. -/
theorem commissioningRequests : Obligations.CommissioningRequests := by
  unfold Obligations.CommissioningRequests
  refine ⟨fun s hs _ => ⟨fun hl => ?_, fun hl hb => ?_, fun hl hb => ?_⟩, fun s hs hm he hi hu => ?_⟩
  · exact hostRequest_ok hs (by simp [setCommissioningLock, hl])
  · exact hostRequest_refuse hs (by simp [setCommissioningLock, hl, hb])
  · have hf := setCommissioningLock_free hl hb
    have hq := placeConfig_queued { s with cfg := { s.cfg with lock := true } }
    obtain ⟨x, hx⟩ := placeConfig_eq { s with cfg := { s.cfg with lock := true } }
    rw [hx] at hf hq
    refine ⟨_, hostRequest_answered 12 _ hs (by rw [hf]; rfl), ?_⟩
    rw [hf]
    exact ⟨rfl, hq, rfl, rfl⟩
  · have hf := eraseAll_passed hm he hi (State.anyInUse_eq_false hu)
    obtain ⟨ht, ho⟩ := applyConfig_link erasedConfig s
    have hset := applyConfig_settings erasedConfig s
    have harr := State.array_of_fixed (applyConfig_fixed erasedConfig s)
    have hfl := eraseSite_inFlight (s := s) hs.1
    obtain ⟨x, hx⟩ := eraseSite_eq s
    rw [hx] at hf hfl
    have hcfg : (applyConfig erasedConfig s).cfg = erasedConfig := State.cfg_of_settings hset
    have hmode : (applyConfig erasedConfig s).mode = s.mode := (State.mode_of_settings hset).trans rfl
    have hauto : (applyConfig erasedConfig s).auto = s.auto := (State.auto_of_settings hset).trans rfl
    generalize applyConfig erasedConfig s = u at *
    refine ⟨_, hostRequest_answered 13 _ hs (by rw [hf]; exact ht), ?_⟩
    rw [hf]
    refine ⟨fun n => State.slotContent_erasing rfl rfl rfl n, rfl, rfl, rfl, rfl, rfl, rfl, hcfg, rfl, harr,
      hmode, hauto, hfl, Link.answered_response ht ho⟩

end Sys2Proof.Machine

namespace Sys2Proof.Machine

/-! ## The operations of a vault's blocks, told without their reports -/

/-- The state with the alarm table, the claim sets and the attention causes but MODE and VERDICT blanked: what the ends of
conditions and the claims of the blocks write. -/
def State.sansReports (s : State) : State :=
  { s with
    link := { s.link with waiting := { mode := s.link.waiting.mode, verdict := s.link.waiting.verdict } }
    claims := PerVault.replicate noClaims
    atu := resetAtu }

theorem State.withDoor_sansReports (s : State) (v : Vault) (d : DoorRecord) :
    (s.withDoor v d).sansReports = s.sansReports.withDoor v d := rfl

theorem State.withDoor_twice (s : State) (v : Vault) (d e : DoorRecord) :
    (s.withDoor v d).withDoor v e = s.withDoor v e :=
  congrArg (fun x => { s with doors := x }) (PerVault.set_set s.doors v d e)

theorem State.withDoor_self (s : State) (v : Vault) : s.withDoor v (s.door v) = s := by
  simp [State.withDoor, State.door]

@[simp] theorem claim_sansReports (v : Vault) (f : ClaimSet → ClaimSet) (s : State) :
    (claim v f s).sansReports = s.sansReports := by
  unfold claim
  split <;> rfl

@[simp] theorem endCondition_sansReports (key : AlarmKey) (s : State) :
    (endCondition key s).sansReports = s.sansReports := by
  unfold endCondition retireRecord
  (repeat' split) <;> rfl

@[simp] theorem putDoor_sansReports (v : Vault) (d : DoorRecord) (s : State) :
    (putDoor v d s).sansReports = (s.withDoor v d).sansReports := by
  unfold putDoor
  dsimp only
  split <;> rfl

/-! ### The ends of the door conditions -/

theorem DoorRecord.setForced_of_not {d : DoorRecord} {which : Door} (h : d.forced which = false) :
    d.setForced which false = d := by
  cases which <;> exact h ▸ rfl

theorem DoorRecord.setHeld_of_not {d : DoorRecord} {which : Door} (h : d.held which = false) :
    d.setHeld which false = d := by
  cases which <;> exact h ▸ rfl

@[simp] theorem endForced_sansReports (v : Vault) (which : Door) (s : State) :
    (endForced v which s).sansReports = (s.withDoor v ((s.door v).setForced which false)).sansReports := by
  unfold endForced
  split
  · simp [claimForced]
  · next h => rw [DoorRecord.setForced_of_not (Bool.eq_false_iff.2 h), State.withDoor_self]

@[simp] theorem endHeld_sansReports (v : Vault) (which : Door) (s : State) :
    (endHeld v which s).sansReports = (s.withDoor v ((s.door v).setHeld which false)).sansReports := by
  unfold endHeld
  split
  · simp [claimHeld]
  · next h => rw [DoorRecord.setHeld_of_not (Bool.eq_false_iff.2 h), State.withDoor_self]

/-! ### Doors whose record is replaced -/

/-- One state is the other with the door record of a vault replaced, but for the reports that go with it. -/
def Redoored (v : Vault) (d : DoorRecord) (s t : State) : Prop := t.sansReports = (s.withDoor v d).sansReports

theorem Redoored.refl {v : Vault} {s : State} : Redoored v (s.door v) s s := by
  rw [Redoored, State.withDoor_self]

theorem Redoored.door {v : Vault} {d : DoorRecord} {s t : State} (h : Redoored v d s t) : t.door v = d := by
  have e := congrArg (fun u : State => u.door v) h
  exact e.trans (State.withDoor_door s v d)

theorem Redoored.trans {v : Vault} {d e : DoorRecord} {s t u : State} (h : Redoored v d s t) (h' : Redoored v e t u) :
    Redoored v e s u := by
  have hd := congrArg (fun x : State => x.withDoor v e) h
  rw [State.withDoor_sansReports, State.withDoor_twice] at hd
  exact Eq.trans h' hd

/-- Two states that differ in a door record and its reports alone. -/
theorem Redoored.others {v : Vault} {d : DoorRecord} {s t : State} (h : Redoored v d s t) :
    t.pairs = s.pairs ∧ t.link.waiting.mode = s.link.waiting.mode ∧ t.lines = s.lines ∧ t.occ = s.occ ∧ t.ssq = s.ssq
      ∧ ∀ w, w ≠ v → t.door w = s.door w := by
  have e := congrArg (fun u : State => (u.pairs, u.link.waiting.mode, u.lines, u.occ, u.ssq, u.doors)) h
  obtain ⟨hp, hm, hl, ho, hq, hd⟩ : t.pairs = s.pairs ∧ t.link.waiting.mode = s.link.waiting.mode ∧ t.lines = s.lines
      ∧ t.occ = s.occ ∧ t.ssq = s.ssq ∧ t.doors = s.doors.set v d := by
    simp only [Prod.mk.injEq] at e
    exact e
  refine ⟨hp, hm, hl, ho, hq, fun w hw => ?_⟩
  unfold State.door
  rw [hd, PerVault.get_set_of_ne _ _ (Ne.symm hw)]

theorem Redoored.putDoor (v : Vault) (d : DoorRecord) (s : State) : Redoored v d s (putDoor v d s) :=
  putDoor_sansReports v d s

/-- What the door's operations keep of its record where they begin and end no grant of the vault door. -/
def KeepsGrant (v : Vault) (s t : State) : Prop := ∃ d, Redoored v d s t ∧ d.vaultGrant = (s.door v).vaultGrant

theorem KeepsGrant.refl (v : Vault) (s : State) : KeepsGrant v s s := ⟨_, Redoored.refl, rfl⟩

theorem KeepsGrant.trans {v : Vault} {s t u : State} (h : KeepsGrant v s t) (h' : KeepsGrant v t u) : KeepsGrant v s u := by
  obtain ⟨d, hd, hg⟩ := h
  obtain ⟨e, he, hg'⟩ := h'
  exact ⟨e, hd.trans he, by rw [hg', hd.door, hg]⟩

theorem KeepsGrant.withDoor {v : Vault} {d : DoorRecord} {s : State} (h : d.vaultGrant = (s.door v).vaultGrant) :
    KeepsGrant v s (s.withDoor v d) := ⟨d, rfl, h⟩

theorem KeepsGrant.putDoor {v : Vault} {d : DoorRecord} {s : State} (h : d.vaultGrant = (s.door v).vaultGrant) :
    KeepsGrant v s (putDoor v d s) := ⟨d, putDoor_sansReports v d s, h⟩

theorem endForced_keepsGrant (v : Vault) (which : Door) (s : State) : KeepsGrant v s (endForced v which s) :=
  ⟨_, endForced_sansReports v which s, by cases which <;> rfl⟩

theorem endFaults_keepsGrant (v : Vault) (s : State) : KeepsGrant v s (endFaults v s) := by
  have ends (key : AlarmKey) {d : DoorRecord} {u : State} (h : d.vaultGrant = (u.door v).vaultGrant) :
      KeepsGrant v u (endCondition key (u.withDoor v d)) := ⟨d, endCondition_sansReports key _, h⟩
  have retract : KeepsGrant v s (if (s.door v).retractFaultStands then
      endCondition (doorKey .doorFault v (.drive .retract)) (s.withDoor v { s.door v with retractFaultStands := false })
      else s) := by
    split
    · exact ends _ rfl
    · exact KeepsGrant.refl v s
  have extend (u : State) : KeepsGrant v u (if (u.door v).extendFaultStands then
      endCondition (doorKey .doorFault v (.drive .extend)) (u.withDoor v { u.door v with extendFaultStands := false })
      else u) := by
    split
    · exact ends _ rfl
    · exact KeepsGrant.refl v u
  exact retract.trans (extend _)

theorem setOuter_keepsGrant (v : Vault) (o : OuterState) (s : State) : KeepsGrant v s (setOuter v o s) := by
  have hput : KeepsGrant v s (putDoor v { s.door v with outer := o } s) := KeepsGrant.putDoor rfl
  unfold setOuter
  dsimp only
  split
  · exact hput.trans (endForced_keepsGrant v .outer _)
  · exact hput

theorem withdrawOuter_keepsGrant (v : Vault) (s : State) : KeepsGrant v s (withdrawOuter v s) := by
  have hput : KeepsGrant v s (putDoor v { s.door v with outerGrant := none } s) := KeepsGrant.putDoor rfl
  unfold withdrawOuter
  dsimp only
  (repeat' split)
  · exact KeepsGrant.refl v s
  · exact KeepsGrant.refl v s
  · exact hput.trans (setOuter_keepsGrant v .locked _)
  · exact hput

theorem setVaultState_keepsGrant (v : Vault) (st : VaultState) (s : State) : KeepsGrant v s (setVaultState v st s) := by
  have hput : KeepsGrant v s (putDoor v { s.door v with vault := st } s) := KeepsGrant.putDoor rfl
  have hend (t : State) (h : KeepsGrant v s t) : KeepsGrant v s
      (if st = .secured then endFaults v (endForced v .vault t) else if st = .released then endFaults v t else t) := by
    (repeat' split)
    · exact h.trans ((endForced_keepsGrant v .vault t).trans (endFaults_keepsGrant v _))
    · exact h.trans (endFaults_keepsGrant v t)
    · exact h
  unfold setVaultState
  dsimp only
  split
  · exact (hend _ hput).trans (withdrawOuter_keepsGrant v _)
  · exact hend _ hput

theorem startExtend_keepsGrant (v : Vault) (s : State) : KeepsGrant v s (startExtend v s) := by
  have hset : KeepsGrant v s (setVaultState v .extending
      (s.withDoor v { s.door v with travel := some (s.travelTicks v), relock := none })) :=
    KeepsGrant.trans (KeepsGrant.withDoor (by rfl)) (setVaultState_keepsGrant v _ _)
  unfold startExtend
  dsimp only
  split
  · exact hset.trans (KeepsGrant.trans (KeepsGrant.withDoor (by rfl)) (setVaultState_keepsGrant v _ _))
  · exact hset

theorem secureWhereFree_keepsGrant (v : Vault) (s : State) : KeepsGrant v s (secureWhereFree v s) := by
  unfold secureWhereFree
  dsimp only
  split
  · exact KeepsGrant.refl v s
  · split
    · exact startExtend_keepsGrant v s
    · exact startExtend_keepsGrant v s
    all_goals exact KeepsGrant.refl v s

/-! ### Grants and pairs that a mode drops -/

/-- A grant of the vault door discarded is gone from its record (R126). -/
theorem discardGrant_redoors (v : Vault) (s : State) : ∃ d, Redoored v d s (discardGrant v s) ∧ d.vaultGrant = none := by
  obtain ⟨d, hd, hg⟩ := secureWhereFree_keepsGrant v (putDoor v { s.door v with vaultGrant := none } s)
  exact ⟨d, (Redoored.putDoor v _ s).trans hd, hg.trans (congrArg DoorRecord.vaultGrant (putDoor_door v _ s))⟩

/-- The entering list of the vault door keeps those numbers alone that it is trimmed to (R99). -/
theorem trimEntering_redoors (v : Vault) (keep : EnteringEntry → Bool) (s : State) :
    ∃ d, Redoored v d s (trimEntering v keep s) ∧
      ∀ g, d.vaultGrant = some g → ∃ g', (s.door v).vaultGrant = some g' ∧ g.entering = g'.entering.filter keep := by
  unfold trimEntering
  dsimp only
  split
  · next hn => exact ⟨_, Redoored.refl, fun g hg => absurd hg (by simp [hn])⟩
  · next g' hg' =>
    split
    · obtain ⟨d, hd, hn⟩ := discardGrant_redoors v s
      exact ⟨d, hd, fun g hg => absurd hg (by simp [hn])⟩
    · refine ⟨_, rfl, fun g hg => ⟨g', hg', ?_⟩⟩
      cases hg
      rfl

theorem handVerdict_kept (a : ReaderAddress) (verdict : Verdict) (number : Option Nat) (s : State) :
    (handVerdict a verdict number s).pairs = s.pairs ∧ (handVerdict a verdict number s).doors = s.doors
      ∧ (handVerdict a verdict number s).link.waiting.mode = s.link.waiting.mode := by
  unfold handVerdict
  split <;> exact ⟨rfl, rfl, rfl⟩

/-- A pair that lapses leaves every door, every other pair and the MODE cause (R100). -/
theorem lapsePair_kept (v : Vault) (s : State) : (lapsePair v s).pair v = none
    ∧ (∀ w, s.pair w = none → (lapsePair v s).pair w = none) ∧ (lapsePair v s).doors = s.doors
    ∧ (lapsePair v s).link.waiting.mode = s.link.waiting.mode := by
  unfold lapsePair
  split
  · next hn => exact ⟨hn, fun _ h => h, rfl, rfl⟩
  · next p _ =>
    obtain ⟨hp, hd, hm⟩ := handVerdict_kept ⟨v, .inner⟩ .pairLapsed (some p.first) (s.withPair v none)
    refine ⟨?_, fun w hw => ?_, hd, hm⟩
    · unfold State.pair
      rw [hp]
      exact State.withPair_pair s v none
    · unfold State.pair
      rw [hp, State.withPair_pairs, PerVault.get_set]
      split
      · rfl
      · exact hw

/-! ### The lone-worker entries settled -/

@[simp] theorem State.withOccupancy_sansReports (s : State) (v : Vault) (o : VaultOccupancy) :
    (s.withOccupancy v o).sansReports = s.sansReports.withOccupancy v o := rfl

/-- The list of a vault, entry by entry, is all that settling its lone worker replaces, reports aside (R150). -/
theorem settleLone_sansReports (v : Vault) (s : State) : ∃ f : Occupant → Occupant,
    (settleLone v s).sansReports =
      s.sansReports.withOccupancy v { s.occupancy v with entries := (s.occupancy v).entries.map f } := by
  have hends (o : List Occupant) : (o.foldl (fun s e =>
      if e.overdue then endCondition (loneWorkerKey v e.number) s else s) s).sansReports = s.sansReports := by
    refine foldl_part State.sansReports _ (fun u e => ?_) o s
    split
    · exact endCondition_sansReports _ u
    · rfl
  unfold settleLone
  dsimp only
  split
  · exact ⟨_, rfl⟩
  · refine ⟨fun e => { e with checkIn := none, overdue := false }, ?_⟩
    unfold claimChirp
    rw [claim_sansReports, State.withOccupancy_sansReports, hends]

/-- Settling the lone worker leaves the doors, the pairs, the readers and the causes MODE and VERDICT alone. -/
theorem settleLone_kept (v : Vault) (s : State) : (settleLone v s).doors = s.doors ∧ (settleLone v s).pairs = s.pairs
    ∧ (settleLone v s).readers = s.readers ∧ (settleLone v s).link.waiting.mode = s.link.waiting.mode
    ∧ (settleLone v s).link.waiting.verdict = s.link.waiting.verdict := by
  obtain ⟨f, h⟩ := settleLone_sansReports v s
  have e := congrArg (fun u : State => (u.doors, u.pairs, u.readers, u.link.waiting.mode, u.link.waiting.verdict)) h
  simp only [Prod.mk.injEq] at e
  exact e

end Sys2Proof.Machine

namespace Sys2Proof.Machine

/-! ## SET-SITE-MODE (O30) -/

/-- What a change at one vault brings about there, and a change at no vault undoes, holds at every vault once the change is
made at all. -/
theorem eachVault_brings {P : Vault → State → Prop} {Q : State → Prop} (f : Vault → State → State)
    (hQ : ∀ v s, Q s → Q (f v s)) (hbrings : ∀ v s, Q s → P v (f v s))
    (hkeeps : ∀ v w s, P w s → P w (f v s)) {s : State} (h : Q s) (w : Vault) : P w (eachVault f s) := by
  have brings (l : List Vault) : ∀ u, Q u → w ∈ l → P w (l.foldl (fun s v => f v s) u) := by
    induction l with
    | nil => exact fun _ _ hw => absurd hw List.not_mem_nil
    | cons v l ih =>
      intro u hu hw
      rcases List.mem_cons.1 hw with rfl | hl
      · exact foldl_keeps _ (fun t v ht => hkeeps v w t ht) l (hbrings w u hu)
      · exact ih _ (hQ v u hu) hl
  exact brings Vault.all s h (Vault.mem_all w)

/-! ### What LOCKDOWN and OPEN-HOURS drop -/

/-- A mode at which no pair waits and every entering number is one of `band`. -/
def Stripped (band : Nat → Bool) (v : Vault) (s : State) : Prop :=
  s.pair v = none ∧ ∀ k ∈ s.entering v, band k = true

theorem State.bandCredential_congr {s t : State} (hs : t.store = s.store) (hc : t.settings = s.settings) (k : Nat) :
    t.bandCredential k = s.bandCredential k := by
  simp only [State.bandCredential, State.slotOf, State.inBand, State.index_of_store hs, State.cfg_of_settings hc]

theorem State.entering_doors {s t : State} (h : t.doors = s.doors) (v : Vault) : t.entering v = s.entering v := by
  simp only [State.entering, State.door, h]

theorem State.entering_door {s t : State} {v : Vault} (h : t.door v = s.door v) : t.entering v = s.entering v := by
  simp only [State.entering, h]

/-- The numbers that a trimmed entering list holds are those of the list before that are kept. -/
theorem trimEntering_entering (v : Vault) (band : Nat → Bool) (s : State) {k : Nat}
    (hk : k ∈ (trimEntering v (fun e => band e.number) s).entering v) : k ∈ s.entering v ∧ band k = true := by
  obtain ⟨d, hd, hg⟩ := trimEntering_redoors v (fun e => band e.number) s
  unfold State.entering at hk
  rw [hd.door] at hk
  cases hv : d.vaultGrant with
  | none => simp [hv] at hk
  | some g =>
    obtain ⟨g', hg', he⟩ := hg g hv
    simp only [hv, he, List.mem_map, List.mem_filter] at hk
    obtain ⟨e, ⟨hm, hb⟩, rfl⟩ := hk
    refine ⟨?_, hb⟩
    unfold State.entering
    rw [hg']
    exact List.mem_map_of_mem hm

theorem lapsePair_entering (v w : Vault) (s : State) : (lapsePair v s).entering w = s.entering w :=
  State.entering_doors (lapsePair_kept v s).2.2.1 w

theorem lockdownVault_entering (v w : Vault) (s : State) {k : Nat} (hk : k ∈ (lockdownVault v s).entering w) :
    k ∈ s.entering w ∧ (w = v → s.bandCredential k = true) := by
  unfold lockdownVault at hk
  rw [lapsePair_entering] at hk
  by_cases hw : w = v
  · subst hw
    obtain ⟨hm, hb⟩ := trimEntering_entering w s.bandCredential s hk
    exact ⟨hm, fun _ => hb⟩
  · obtain ⟨d, hd, -⟩ := trimEntering_redoors v (fun e => s.bandCredential e.number) s
    obtain ⟨-, -, -, -, -, ho⟩ := hd.others
    rw [State.entering_door (ho w hw)] at hk
    exact ⟨hk, fun h => absurd h hw⟩

theorem lockdownVault_pair (v : Vault) (s : State) : (lockdownVault v s).pair v = none
    ∧ ∀ w, s.pair w = none → (lockdownVault v s).pair w = none := by
  obtain ⟨d, hd, -⟩ := trimEntering_redoors v (fun e => s.bandCredential e.number) s
  obtain ⟨hp, -⟩ := hd.others
  obtain ⟨hn, hw, -⟩ := lapsePair_kept v (trimEntering v (fun e => s.bandCredential e.number) s)
  exact ⟨hn, fun w h => hw w ((congrArg (fun p : PerVault (Option PendingPair) => p.get w) hp).trans h)⟩

theorem lockdownVault_mode (v : Vault) (s : State) :
    (lockdownVault v s).link.waiting.mode = s.link.waiting.mode := by
  obtain ⟨d, hd, -⟩ := trimEntering_redoors v (fun e => s.bandCredential e.number) s
  obtain ⟨-, hm, -⟩ := hd.others
  obtain ⟨-, -, -, hl⟩ := lapsePair_kept v (trimEntering v (fun e => s.bandCredential e.number) s)
  exact hl.trans hm

/-- LOCKDOWN at every vault drops the pairs and leaves band credentials alone in the entering lists (R99). -/
theorem eachVault_lockdown (s : State) (w : Vault) : Stripped s.bandCredential w (eachVault lockdownVault s) := by
  refine eachVault_brings (P := Stripped s.bandCredential) (Q := fun u => u.bandCredential = s.bandCredential)
    lockdownVault (fun v u hu => ?_) (fun v u hu => ?_) (fun v w u hu => ?_) rfl w
  · exact (funext (State.bandCredential_congr (lockdownVault_store v u) (lockdownVault_settings v u))).trans hu
  · exact ⟨(lockdownVault_pair v u).1, fun k hk => hu ▸ (lockdownVault_entering v v u hk).2 rfl⟩
  · obtain ⟨hp, he⟩ := hu
    exact ⟨(lockdownVault_pair v u).2 w hp, fun k hk => he k (lockdownVault_entering v w u hk).1⟩

theorem eachVault_lapse (s : State) (w : Vault) : (eachVault lapsePair s).pair w = none :=
  eachVault_brings (P := fun w u => u.pair w = none) (Q := fun _ => True) lapsePair (fun _ _ _ => trivial)
    (fun v u _ => (lapsePair_kept v u).1) (fun v w u hu => (lapsePair_kept v u).2.1 w hu) trivial w

/-- Settling the lone workers of every vault leaves the pairs, the doors and the MODE cause alone. -/
theorem eachVault_settleLone_kept (s : State) : (eachVault settleLone s).pairs = s.pairs
    ∧ (eachVault settleLone s).doors = s.doors ∧ (eachVault settleLone s).link.waiting.mode = s.link.waiting.mode := by
  have h := eachVault_part (fun u => (u.pairs, u.doors, u.link.waiting.mode)) settleLone (fun v u => by
    obtain ⟨hd, hp, -, hm, -⟩ := settleLone_kept v u
    rw [hd, hp, hm]) s
  simp only [Prod.mk.injEq] at h
  exact h

/-- The pairs, the entering lists and the MODE cause once a mode is set (R97, R98, R99). -/
theorem setMode_drops (mode : Mode) (auto : Bool) (s : State) :
    ((s.mode ≠ mode ∨ s.auto ≠ auto) → (setMode mode auto s).link.waiting.mode = true)
      ∧ (s.mode ≠ mode → mode = .lockdown ∨ mode = .openHours → ∀ v, (setMode mode auto s).pair v = none)
      ∧ (s.mode ≠ mode → mode = .lockdown → ∀ v, ∀ k ∈ (setMode mode auto s).entering v, s.bandCredential k = true) := by
  unfold setMode
  dsimp only
  by_cases hsame : s.mode = mode ∧ s.auto = auto
  · rw [if_pos hsame]
    obtain ⟨hm, ha⟩ := hsame
    exact ⟨fun h => absurd hm (h.resolve_right (not_not.2 ha)), fun h => absurd hm h, fun h => absurd hm h⟩
  · rw [if_neg hsame]
    obtain ⟨u, hu⟩ : ∃ u, u = causeMode { s with mode := mode, auto := auto } := ⟨_, rfl⟩
    have hcause : u.link.waiting.mode = true := by rw [hu]; rfl
    have hband : u.bandCredential = s.bandCredential := by rw [hu]; rfl
    rw [← hu]
    by_cases hm : s.mode = mode
    · rw [if_pos hm]
      exact ⟨fun _ => hcause, fun h => absurd hm h, fun h => absurd hm h⟩
    · rw [if_neg hm]
      obtain ⟨t, ht⟩ : ∃ t, t = (if mode = .lockdown then eachVault lockdownVault u
        else if mode = .openHours then eachVault lapsePair u else u) := ⟨_, rfl⟩
      rw [← ht]
      obtain ⟨hp, hd, hw⟩ := eachVault_settleLone_kept t
      have hpair (v : Vault) : (eachVault settleLone t).pair v = t.pair v :=
        congrArg (fun p : PerVault (Option PendingPair) => p.get v) hp
      rw [hw]
      by_cases hl : mode = .lockdown
      · rw [if_pos hl] at ht
        have hmode := eachVault_part (fun u => u.link.waiting.mode) lockdownVault lockdownVault_mode u
        refine ⟨fun _ => by rw [ht]; exact hmode.trans hcause, fun _ _ v => ?_, fun _ _ v k hk => ?_⟩
        · rw [hpair, ht]
          exact (eachVault_lockdown u v).1
        · rw [State.entering_doors hd, ht] at hk
          exact hband ▸ (eachVault_lockdown u v).2 k hk
      · rw [if_neg hl] at ht
        by_cases ho : mode = .openHours
        · rw [if_pos ho] at ht
          have hmode := eachVault_part (fun u => u.link.waiting.mode) lapsePair (fun v s => (lapsePair_kept v s).2.2.2) u
          refine ⟨fun _ => by rw [ht]; exact hmode.trans hcause, fun _ _ v => ?_, fun _ h => absurd h hl⟩
          rw [hpair, ht]
          exact eachVault_lapse u v
        · rw [if_neg ho] at ht
          exact ⟨fun _ => ht ▸ hcause, fun _ h => absurd h (not_or.2 ⟨hl, ho⟩), fun _ h => absurd h hl⟩

/-! ### The configuration block with the mode stored -/

/-- A device-made configuration write has a place where no erase pass runs and the block is queued or the queue has room. -/
theorem State.devicePlace_config (s : State) : s.devicePlace .config = true ↔
    s.nva.erase = none ∧ ((s.nva.queued .config).isSome = true ∨ s.nva.queue.length < 8) := by
  simp [State.devicePlace, Config.queueSize]

/-- What a mode set leaves of the records that it does not drop (R97, R98). -/
structure State.ModeSet (s t : State) (mode : Mode) (auto : Bool) : Prop where
  mode_eq : t.mode = mode
  auto_eq : t.auto = auto
  cfg : t.cfg = s.cfg
  nva : t.nva = s.nva
  others : t.array = s.array ∧ t.index = s.index ∧ t.failures = s.failures ∧ t.cal = s.cal ∧ t.tmb = s.tmb
    ∧ t.ssq = s.ssq ∧ t.lqu = s.lqu ∧ t.lines = s.lines ∧ t.rline = s.rline
  tag : t.link.tag = s.link.tag
  overrun : t.link.overrun = s.link.overrun

theorem setMode_modeSet (mode : Mode) (auto : Bool) (s : State) : s.ModeSet (setMode mode auto s) mode auto := by
  have hset := setMode_settings mode auto s
  have harr : (setMode mode auto s).array = s.array := State.array_of_fixed (setMode_fixed mode auto s)
  have hstore := setMode_store mode auto s
  have h := congrArg (fun u : State => (u.failures, u.ssq, u.lqu, u.lines, u.rline, u.link.tag, u.link.overrun))
    (setMode_sansOcc mode auto s)
  simp only [Prod.mk.injEq] at h
  obtain ⟨hfail, hssq, hlqu, hlines, hrline, htag, hover⟩ := h
  exact ⟨State.mode_of_settings hset, State.auto_of_settings hset, (State.cfg_of_settings hset).trans rfl,
    State.nva_of_store hstore, ⟨harr, State.index_of_store hstore, hfail, (State.cal_of_settings hset).trans rfl,
      (State.tmb_of_settings hset).trans rfl, hssq, hlqu, hlines, hrline⟩, htag, hover⟩

/-- The mode that SET-SITE-MODE sets and the record that it stores, by the R97 table. -/
theorem modeOf_eq (s : State) (m : ModeValue) : s.modeOf m = (match m with
    | .openHours => .openHours
    | .afterHours => .afterHours
    | .lockdown => .lockdown
    | .maintenance => .maintenance
    | .auto => if s.cal.containment s.cfg.site.siteSchedule = .contained then .openHours else .afterHours) := by
  cases m
  case auto => exact scheduledMode_eq s
  all_goals rfl

theorem storedMode_eq (s : State) (m : ModeValue) : storedMode m =
    { mode := if m = .auto then .afterHours else s.modeOf m, auto := decide (m = .auto) } := by
  cases m <;> rfl

/-- The state that SET-SITE-MODE leaves, before it is answered (R97). -/
def State.modeSet (s : State) (m : ModeValue) : State :=
  let u := setMode (s.modeOf m) (storedMode m).auto s
  u.withSite { u.cfg.site with stored := storedMode m }

theorem setSiteMode_some (m : ModeValue) (s : State) : setSiteMode (some m) s =
    ok (.siteMode (s.modeOf m) (storedMode m).auto ((placeOrOweConfig (s.modeSet m)).nva.position .config))
      (placeOrOweConfig (s.modeSet m)) := rfl

/-- The write queue is all that the placed or owed configuration write changes (R30). -/
theorem placeOrOweConfig_kept (s : State) : placeOrOweConfig s = s.withNva (placeOrOweConfig s).nva := by
  unfold placeOrOweConfig
  split
  · obtain ⟨x, hx⟩ := placeConfig_eq s
    rw [hx]
    rfl
  · rfl

theorem placeOrOweConfig_placed {s : State} (h : s.devicePlace .config = true) :
    (placeOrOweConfig s).configQueued := by
  unfold placeOrOweConfig
  rw [if_pos h]
  exact placeConfig_queued s

theorem placeOrOweConfig_owed {s : State} (h : ¬ s.devicePlace .config = true) :
    (placeOrOweConfig s).nva = { s.nva with owed := true } := by
  unfold placeOrOweConfig
  rw [if_neg h]
  rfl

/-- Settles O30: the mode is set, what it forbids is dropped, and the configuration block is placed or owed. -/
theorem setSiteModeSetsTheRecord : Obligations.SetSiteModeSetsTheRecord := by
  unfold Obligations.SetSiteModeSetsTheRecord
  refine fun s hs _ => ⟨hostRequest_refuse hs rfl, fun m => ?_⟩
  obtain ⟨hmode, hauto, hcfg, hnva, hothers, htag, hover⟩ := setMode_modeSet (s.modeOf m) (storedMode m).auto s
  obtain ⟨hcause, hpairs, hband⟩ := setMode_drops (s.modeOf m) (storedMode m).auto s
  have hf := setSiteMode_some m s
  have hform : s.modeSet m = (setMode (s.modeOf m) (storedMode m).auto s).withSite
      { (setMode (s.modeOf m) (storedMode m).auto s).cfg.site with stored := storedMode m } := rfl
  have hplace : (s.modeSet m).devicePlace .config = true ↔ s.nva.erase = none ∧
      ((s.nva.queued .config).isSome = true ∨ s.nva.queue.length < 8) := by
    rw [← hnva]
    exact (s.modeSet m).devicePlace_config
  have hplaced := @placeOrOweConfig_placed (s.modeSet m)
  have howed := @placeOrOweConfig_owed (s.modeSet m)
  have hkept := placeOrOweConfig_kept (s.modeSet m)
  generalize placeOrOweConfig (s.modeSet m) = w at *
  rw [hplace] at hplaced howed
  rw [hform] at hkept howed
  generalize setMode (s.modeOf m) (storedMode m).auto s = u at *
  have hwmode : w.mode = s.modeOf m := by rw [hkept]; exact hmode
  have hwauto : w.auto = (storedMode m).auto := by rw [hkept]; exact hauto
  have hflag : (storedMode m).auto = decide (m = .auto) := by cases m <;> rfl
  have hstored : w.cfg = { s.cfg with site := { s.cfg.site with stored :=
      { mode := if m = .auto then .afterHours else w.mode, auto := decide (m = .auto) } } } := by
    rw [hwmode, ← storedMode_eq s m, ← hcfg, hkept]
    rfl
  refine ⟨_, hostRequest_answered 23 _ hs (by rw [hf, hkept]; exact htag), ?_⟩
  rw [hf]
  refine ⟨hwmode.trans (modeOf_eq s m), hwauto.trans hflag, hstored, hplaced, fun h => ?_, ?_, ?_, ?_, ?_, ?_⟩
  · exact (howed h).trans (congrArg (fun n : Nva => { n with owed := true }) hnva)
  · change (w.link.answered 23 .ok (.siteMode (s.modeOf m) (storedMode m).auto (w.nva.position .config))).response
      = (s.link.answered 23 .ok (.siteMode w.mode w.auto (w.nva.position .config))).response
    rw [hwmode, hwauto]
    exact Link.answered_response (by rw [hkept]; exact htag) (by rw [hkept]; exact hover)
  · intro h
    change s.mode ≠ w.mode ∨ s.auto ≠ w.auto at h
    rw [hwmode, hwauto] at h
    rw [hkept]
    exact hcause h
  · intro h hm v
    change s.mode ≠ w.mode at h
    change w.mode = .lockdown ∨ w.mode = .openHours at hm
    rw [hwmode] at h hm
    rw [hkept]
    exact hpairs h hm v
  · intro h hm v k hk
    change s.mode ≠ w.mode at h
    change w.mode = .lockdown at hm
    rw [hwmode] at h hm
    rw [hkept] at hk
    exact hband h hm v k hk
  · rw [hkept]
    exact hothers

end Sys2Proof.Machine

namespace Sys2Proof.Machine

/-! ## The blocks of a vault whose enabled flag changes (O43) -/

/-! ### The site EVACUATE claim -/

theorem ClaimSet.changed_siteEvacuate (old new : ClaimSet) : (old.changed new).siteEvacuate = new.siteEvacuate := by
  unfold ClaimSet.changed
  split <;> rfl

/-- The vaults at which the site EVACUATE claim is held (R199). -/
def State.siteClaims (s : State) : Vault → Bool := fun v => (s.claimSet v).siteEvacuate

/-- A claim of another kind leaves the site EVACUATE claims. -/
theorem claim_siteClaims {f : ClaimSet → ClaimSet} (h : ∀ c, (f c).siteEvacuate = c.siteEvacuate) (v : Vault) (s : State) :
    (claim v f s).siteClaims = s.siteClaims := by
  unfold claim
  split
  · funext w
    unfold State.siteClaims State.claimSet State.withClaimSet
    rw [PerVault.get_set]
    split
    · next hw => rw [ClaimSet.changed_siteEvacuate, h, hw]
    · rfl
  · rfl

@[simp] theorem State.withDoor_siteClaims (s : State) (v : Vault) (d : DoorRecord) :
    (s.withDoor v d).siteClaims = s.siteClaims := rfl

@[simp] theorem endCondition_siteClaims (key : AlarmKey) (s : State) :
    (endCondition key s).siteClaims = s.siteClaims := by
  unfold endCondition retireRecord
  (repeat' split) <;> rfl

@[simp] theorem putDoor_siteClaims (v : Vault) (d : DoorRecord) (s : State) :
    (putDoor v d s).siteClaims = s.siteClaims := by
  unfold putDoor
  dsimp only
  split <;> rfl

@[simp] theorem claimHeld_siteClaims (v : Vault) (d : Door) (b : Bool) (s : State) :
    (claimHeld v d b s).siteClaims = s.siteClaims :=
  claim_siteClaims (fun c => by cases d <;> rfl) v s

@[simp] theorem claimChirp_siteClaims (v : Vault) (b : Bool) (s : State) : (claimChirp v b s).siteClaims = s.siteClaims :=
  claim_siteClaims (f := fun c => { c with chirp := b }) (fun _ => rfl) v s

@[simp] theorem endHeld_siteClaims (v : Vault) (which : Door) (s : State) :
    (endHeld v which s).siteClaims = s.siteClaims := by
  unfold endHeld
  split <;> simp

theorem settleLone_siteClaims (v : Vault) (s : State) : (settleLone v s).siteClaims = s.siteClaims := by
  have hends (o : List Occupant) : (o.foldl (fun s e =>
      if e.overdue then endCondition (loneWorkerKey v e.number) s else s) s).siteClaims = s.siteClaims := by
    refine foldl_part State.siteClaims _ (fun u e => ?_) o s
    split
    · exact endCondition_siteClaims _ u
    · rfl
  unfold settleLone
  dsimp only
  split
  · rfl
  · rw [claimChirp_siteClaims]
    exact hends _

theorem claimSiteEvacuate_siteClaims {s : State} {v : Vault} (h : s.enabled v = true) :
    (claimSiteEvacuate v true s).siteClaims v = true := by
  unfold claimSiteEvacuate claim State.siteClaims
  rw [if_pos h, State.withClaimSet_claimSet, ClaimSet.changed_siteEvacuate]

/-! ### The emergency release of a vault that becomes enabled -/

/-- The door record of an emergency release (R136, R137). -/
structure DoorRecord.Released (d : DoorRecord) (travel : Option Nat) : Prop where
  emergency : d.emergency = true
  outer : d.outer = .emergencyUnlocked
  vault : d.vault = .emergencyReleased
  travel_eq : d.travel = travel
  grant : ∃ g, d.vaultGrant = some g ∧ g.origin = .emergency

theorem emergencyGrant_origin (g : Option VaultGrant) : (emergencyGrant g).origin = .emergency := by
  cases g <;> rfl

/-- The door record of a vault becomes another, and the reports that go with it change no site EVACUATE claim. -/
structure Becomes (v : Vault) (f : DoorRecord → DoorRecord) (s t : State) : Prop where
  redoored : Redoored v (f (s.door v)) s t
  claims : t.siteClaims = s.siteClaims

theorem Becomes.trans {v : Vault} {f g : DoorRecord → DoorRecord} {s t u : State} (h : Becomes v f s t)
    (h' : Becomes v g t u) : Becomes v (fun d => g (f d)) s u :=
  ⟨h.redoored.trans (h.redoored.door ▸ h'.redoored), h'.claims.trans h.claims⟩

theorem Becomes.withDoor (v : Vault) (f : DoorRecord → DoorRecord) (s : State) :
    Becomes v f s (s.withDoor v (f (s.door v))) := ⟨rfl, rfl⟩

theorem Becomes.putDoor (v : Vault) (f : DoorRecord → DoorRecord) (s : State) :
    Becomes v f s (putDoor v (f (s.door v)) s) := ⟨Redoored.putDoor v _ s, putDoor_siteClaims v _ s⟩

theorem endHeld_becomes (v : Vault) (which : Door) (s : State) :
    Becomes v (fun d => d.setHeld which false) s (endHeld v which s) :=
  ⟨endHeld_sansReports v which s, endHeld_siteClaims v which s⟩

/-- The outer door takes a state other than LOCKED. -/
theorem setOuter_becomes (v : Vault) {o : OuterState} (h : o ≠ .locked) (s : State) :
    Becomes v (fun d => { d with outer := o }) s (setOuter v o s) := by
  unfold setOuter
  dsimp only
  rw [if_neg h]
  exact Becomes.putDoor v (fun d => { d with outer := o }) s

/-- A door whose outer grant is gone takes a state that ends no condition by its record alone. -/
theorem setVaultState_released {s : State} {v : Vault} (h : (s.door v).outerGrant = none) :
    setVaultState v .emergencyReleased s = putDoor v { s.door v with vault := .emergencyReleased } s := by
  have hg : ((putDoor v { s.door v with vault := .emergencyReleased } s).door v).outerGrant = none :=
    (congrArg DoorRecord.outerGrant (putDoor_door v _ s)).trans h
  unfold setVaultState
  dsimp only
  rw [if_neg (show VaultState.emergencyReleased ≠ .secured from VaultState.noConfusion),
    if_neg (show VaultState.emergencyReleased ≠ .released from VaultState.noConfusion), withdrawOuter_none hg, ite_self]

theorem Redoored.countsActive {v : Vault} {d : DoorRecord} {s t : State} (h : Redoored v d s t) (w : Vault) (l : Line) :
    t.countsActive w l = s.countsActive w l := by
  obtain ⟨-, -, hl, -⟩ := h.others
  unfold State.countsActive State.lineRecord
  rw [hl]

theorem setVaultState_becomes (v : Vault) {s : State} (h : (s.door v).outerGrant = none) :
    Becomes v (fun d => { d with vault := .emergencyReleased }) s (setVaultState v .emergencyReleased s) := by
  rw [setVaultState_released h]
  exact Becomes.putDoor v (fun d => { d with vault := .emergencyReleased }) s

/-- The travel timer of a retraction drive that an emergency release starts (R137). -/
def State.emergencyTravel (s : State) (v : Vault) : Option Nat :=
  if s.countsActive v .boltsWithdrawn then none else some (s.travelTicks v)

theorem startEmergencyDrive_becomes (v : Vault) (s : State) :
    Becomes v (fun d => { d with relock := none, travel := s.emergencyTravel v }) s (startEmergencyDrive v s) :=
  Becomes.withDoor v (fun d => { d with relock := none, travel := s.emergencyTravel v }) s

theorem Becomes.emergencyTravel {v : Vault} {f : DoorRecord → DoorRecord} {s t : State} (h : Becomes v f s t) :
    t.emergencyTravel v = s.emergencyTravel v := by
  have hc := congrArg (fun u : State => u.cfg) h.redoored
  have hg : t.group v = s.group v := congrArg (fun b : ConfigBlock => b.vaults.get v) hc
  unfold State.emergencyTravel State.travelTicks
  rw [h.redoored.countsActive, hg]

/-- The doors of a vault are released where the emergency condition comes to stand: unlocked, bolts on their way back, under
an EMERGENCY grant (R136, R137). -/
theorem emergencyStart_becomes (v : Vault) (s : State) : ∃ f, Becomes v f s (emergencyStart v s)
    ∧ (f (s.door v)).Released (s.emergencyTravel v) := by
  obtain ⟨a, ha⟩ : ∃ a, a = (setOuter v .emergencyUnlocked
      (putDoor v { s.door v with outerGrant := none, emergency := true } s)) := ⟨_, rfl⟩
  have hopen : Becomes v (fun d => { d with outerGrant := none, emergency := true, outer := .emergencyUnlocked }) s a := by
    rw [ha]
    exact (Becomes.putDoor v (fun d => { d with outerGrant := none, emergency := true }) s).trans
      (setOuter_becomes v OuterState.noConfusion _)
  obtain ⟨b, hb⟩ : ∃ b, b = setVaultState v .emergencyReleased (a.withDoor v (a.door v).still) := ⟨_, rfl⟩
  have hfree : ((a.withDoor v (a.door v).still).door v).outerGrant = none := by
    rw [State.withDoor_door, hopen.redoored.door]
    rfl
  have hrelease : Becomes v (fun d => { d.still with vault := .emergencyReleased }) a b := by
    rw [hb]
    exact (Becomes.withDoor v DoorRecord.still a).trans (setVaultState_becomes v hfree)
  have hdrive := (hopen.trans hrelease).trans (startEmergencyDrive_becomes v b)
  rw [(hopen.trans hrelease).emergencyTravel] at hdrive
  have hgrant := Becomes.putDoor v (fun d => { d with vaultGrant := some (emergencyGrant d.vaultGrant) })
    (startEmergencyDrive v b)
  have hheld := Becomes.withDoor v (fun d => { d with outerHeld := none, vaultHeld := none })
    (putDoor v { (startEmergencyDrive v b).door v with
      vaultGrant := some (emergencyGrant ((startEmergencyDrive v b).door v).vaultGrant) } (startEmergencyDrive v b))
  have hend := (((hdrive.trans hgrant).trans hheld).trans (endHeld_becomes v .outer _)).trans (endHeld_becomes v .vault _)
  rw [hb, ha] at hend
  exact ⟨_, hend, ⟨rfl, rfl, rfl, rfl, _, rfl, emergencyGrant_origin _⟩⟩

end Sys2Proof.Machine

namespace Sys2Proof.Machine

/-! ### A vault that ceases to be enabled -/

/-- The readers are all that ending a vault's readers changes, reports aside (R93). -/
theorem disableReaders_sansReports (v : Vault) (s : State) :
    ∃ r, (disableReaders v s).sansReports = { s.sansReports with readers := r } := by
  have one (p : Position) (u : State) : ∃ r, (endCondition (readerFaultKey ⟨v, p⟩ .tamper)
      (endCondition (readerFaultKey ⟨v, p⟩ .silent) (u.withReader ⟨v, p⟩ (u.reader ⟨v, p⟩).disabled))).sansReports =
        { u.sansReports with readers := r } := by
    rw [endCondition_sansReports, endCondition_sansReports]
    exact ⟨_, rfl⟩
  obtain ⟨r, hr⟩ := one .exit _
  obtain ⟨q, hq⟩ := one .inner _
  obtain ⟨p, hp⟩ := one .outer s
  unfold disableReaders
  rw [hr, hq, hp]
  exact ⟨r, rfl⟩

/-- A vault's doors end as a reset leaves them (R143). -/
theorem disableDoors_redoors (v : Vault) (s : State) : Redoored v resetDoor s (disableDoors v s) := by
  have hforced := (Redoored.trans (t := endForced v .outer s) (endForced_sansReports v .outer s)
    (endForced_sansReports v .vault _))
  have hheld := (hforced.trans (endHeld_sansReports v .outer _)).trans (endHeld_sansReports v .vault _)
  obtain ⟨d, hd, -⟩ := endFaults_keepsGrant v
    (endHeld v .vault (endHeld v .outer (endForced v .vault (endForced v .outer s))))
  exact (hheld.trans hd).trans (Redoored.putDoor v resetDoor _)

/-- A vault's lines end as a reset leaves them (R62). -/
theorem disableLines_sansReports (v : Vault) (s : State) :
    (disableLines v s).sansReports = s.sansReports.withLines v resetLines := by
  have h := foldl_part State.sansReports (fun s l => endCondition (lineFaultKey (.vaultLine v l)) s)
    (fun u l => endCondition_sansReports _ u) (Line.all.filter supervised) s
  unfold disableLines
  dsimp only
  generalize (Line.all.filter supervised).foldl (fun s l => endCondition (lineFaultKey (.vaultLine v l)) s) s = u at *
  rw [← h, ← endCondition_sansReports (lineFaultKey (.release v)) u]
  rfl

/-- A vault's sequencer ends as a reset leaves it, but for its committed set (R187). -/
theorem disableSequencer_sansReports (v : Vault) (s : State) : (disableSequencer v s).sansReports =
    s.sansReports.withSequencer v (resetSsq (s.sequencer v).committed) := by
  have h := foldl_part State.sansReports (fun s k => endCondition k s) (fun u k => endCondition_sansReports k u)
    [alertKey v .detection, alertKey v .manual, alertKey v .isolated, alertKey v .manualInIsolation,
      vaultEvacuationKey v] (s.withSequencer v (resetSsq (s.sequencer v).committed))
  unfold disableSequencer
  dsimp only
  generalize List.foldl (fun s k => endCondition k s) (s.withSequencer v (resetSsq (s.sequencer v).committed))
    [alertKey v .detection, alertKey v .manual, alertKey v .isolated, alertKey v .manualInIsolation,
      vaultEvacuationKey v] = u at *
  cases (s.sequencer v).detail with
  | none => split <;> exact h
  | some d => split <;> exact (endCondition_sansReports _ u).trans h

theorem endOccupant_sansReports (v : Vault) (e : Occupant) (s : State) :
    (endOccupant v e s).sansReports = s.sansReports := by
  unfold endOccupant
  dsimp only
  (repeat' split) <;> simp [claimChirp]

/-- A vault's list ends empty (R159). -/
theorem clearOccupants_sansReports (v : Vault) (s : State) : (clearOccupants v s).sansReports =
    s.sansReports.withOccupancy v { s.occupancy v with entries := [] } := by
  unfold clearOccupants claimChirp
  dsimp only
  rw [claim_sansReports]
  exact foldl_part State.sansReports _ (fun u e => endOccupant_sansReports v e u) _ _

/-- The blocks of a vault as a reset leaves them, told of its records but the readers and the claims. -/
structure State.Vacant (s : State) (v : Vault) : Prop where
  door : s.door v = resetDoor
  entries : (s.occupancy v).entries = []
  certain : (s.occupancy v).certain = true
  pair : s.pair v = none
  lines : s.lines.get v = resetLines
  quiet : (s.sequencer v).state = .quiet

theorem State.Vacant.congr {s t : State} {v : Vault} (h : s.Vacant v) (hd : t.door v = s.door v)
    (ho : t.occupancy v = s.occupancy v) (hp : t.pair v = s.pair v) (hl : t.lines.get v = s.lines.get v)
    (hq : (t.sequencer v).state = (s.sequencer v).state) : t.Vacant v :=
  ⟨hd.trans h.door, ho ▸ h.entries, ho ▸ h.certain, hp.trans h.pair, hl.trans h.lines, hq.trans h.quiet⟩

/-- The records of a vault that ceases to be enabled, before its claims are dropped (R62, R93, R100, R143, R159, R187). -/
theorem blocksDisabled_vacant (v : Vault) (s : State) : (setCertain v true (clearOccupants v (disableSequencer v
    (disableLines v (disableDoors v (disableReaders v (s.withPair v none))))))).Vacant v := by
  obtain ⟨r, hr⟩ := disableReaders_sansReports v (s.withPair v none)
  have hdoors := disableDoors_redoors v (disableReaders v (s.withPair v none))
  rw [Redoored, State.withDoor_sansReports, hr] at hdoors
  have hlines := disableLines_sansReports v (disableDoors v (disableReaders v (s.withPair v none)))
  rw [hdoors] at hlines
  generalize disableLines v (disableDoors v (disableReaders v (s.withPair v none))) = a at *
  have hseq := disableSequencer_sansReports v a
  rw [hlines] at hseq
  generalize disableSequencer v a = b at *
  have hocc := clearOccupants_sansReports v b
  have hempty : ((clearOccupants v b).occupancy v).entries = [] := by
    have := congrArg (fun u : State => (u.occupancy v).entries) hocc
    exact this.trans (congrArg VaultOccupancy.entries (State.withOccupancy_occupancy _ v _))
  rw [hseq] at hocc
  generalize clearOccupants v b = c at *
  have hf := congrArg (fun u : State => (u.door v, u.pair v, u.lines.get v, u.sequencer v)) hocc
  simp only [Prod.mk.injEq] at hf
  obtain ⟨hd, hp, hl, hq⟩ := hf
  refine ⟨?_, ?_, ?_, ?_, ?_, ?_⟩
  · exact hd.trans (State.withDoor_door _ v _)
  · exact (congrArg VaultOccupancy.entries (State.withOccupancy_occupancy c v _)).trans hempty
  · exact congrArg VaultOccupancy.certain (State.withOccupancy_occupancy c v _)
  · exact hp.trans (PerVault.get_set_self _ v _)
  · exact hl.trans (PerVault.get_set_self _ v _)
  · exact congrArg SsqRecord.state (hq.trans (State.withSequencer_sequencer _ v _))

/-- A vault that ceases to be enabled is as a reset leaves it, with no claim held for it (R62, R93, R100, R143, R159,
R187). -/
theorem disableVault_vacant (v : Vault) (s : State) :
    (disableVault v s).Vacant v ∧ (disableVault v s).claimSet v = noClaims := by
  have hvac := blocksDisabled_vacant v s
  unfold disableVault
  dsimp only
  generalize setCertain v true (clearOccupants v (disableSequencer v
    (disableLines v (disableDoors v (disableReaders v (s.withPair v none)))))) = a at *
  obtain ⟨b, hb⟩ : ∃ b, b = (if (s.occupancy v).watched = (a.occupancy v).watched then a else causeOccupancy a) :=
    ⟨_, rfl⟩
  have hvb : b.Vacant v := by
    rw [hb]
    split
    · exact hvac
    · exact hvac.congr rfl rfl rfl rfl rfl
  rw [← hb, occupancyReported_quiet hvb.quiet]
  have hreport : (b.withSequencer v { b.sequencer v with clear := b.clearVault v }).Vacant v :=
    hvb.congr rfl rfl rfl rfl (by rw [State.withSequencer_sequencer])
  generalize b.withSequencer v { b.sequencer v with clear := b.clearVault v } = c at *
  have hline (u : State) (hu : u.Vacant v) : (disableOnLine v u).Vacant v := hu.congr rfl rfl rfl rfl rfl
  exact ⟨hline _ (hreport.congr rfl rfl rfl rfl rfl), State.withClaimSet_claimSet c v noClaims⟩

end Sys2Proof.Machine

namespace Sys2Proof.Machine

/-! ### A vault that becomes enabled -/

/-- The records of a vault that becomes enabled, before its doors begin (R143, R159, R187): told from the state before, with
the sequencer as it is then. -/
structure State.Enabled (s t : State) (v : Vault) (q : SsqRecord) : Prop where
  sequencer : t.sequencer v = q
  occupancy : t.occupancy v = { s.occupancy v with certain := false }
  door : t.door v = s.door v
  lines : t.lines.get v = s.lines.get v
  pair : t.pair v = s.pair v
  latch : t.atu.latch = s.atu.latch
  group : t.group v = { s.group v with enabled := true }

/-- The operations that leave those records alone. -/
theorem State.Enabled.congr {s t u : State} {v : Vault} {q : SsqRecord} (h : s.Enabled t v q) (hq : u.ssq = t.ssq)
    (ho : u.occ = t.occ) (hd : u.doors = t.doors) (hl : u.lines = t.lines) (hp : u.pairs = t.pairs) (ha : u.atu = t.atu)
    (hg : u.cfg = t.cfg) : s.Enabled u v q := by
  refine ⟨?_, ?_, ?_, ?_, ?_, ?_, ?_⟩
  · exact (congrArg (fun p : PerVault SsqRecord => p.get v) hq).trans h.sequencer
  · exact (congrArg (fun p : PerVault VaultOccupancy => p.get v) ho).trans h.occupancy
  · exact (congrArg (fun p : PerVault DoorRecord => p.get v) hd).trans h.door
  · exact (congrArg (fun p : PerVault VaultLines => p.get v) hl).trans h.lines
  · exact (congrArg (fun p : PerVault (Option PendingPair) => p.get v) hp).trans h.pair
  · exact (congrArg Atu.latch ha).trans h.latch
  · exact (congrArg (fun b : ConfigBlock => b.vaults.get v) hg).trans h.group

theorem State.Enabled.claimed {s t : State} {v : Vault} {q : SsqRecord} (h : s.Enabled t v q) (f : ClaimSet → ClaimSet) :
    s.Enabled (claim v f t) v q := by
  unfold claim
  split
  · exact h.congr rfl rfl rfl rfl rfl rfl rfl
  · exact h

/-- The blocks of a vault that becomes enabled, up to the begin of its doors. -/
def enabledBlocks (v : Vault) (s : State) : State :=
  let before := s.occupancy v
  let s := s.withGroup v { s.group v with enabled := true }
  let s := setCertain v false (enableSequencer v s)
  let s := if before.watched = (s.occupancy v).watched then s else causeOccupancy s
  let s := if s.atu.latch then claimSiteEvacuate v true s else s
  occupancyReported v s

theorem enableVault_eq (v : Vault) (s : State) :
    enableVault v s = enableOnLine (settleLone v (beginDoors v (enabledBlocks v s))) := rfl

/-- An UNCERTAIN list is not clear (R148). -/
theorem State.clearVault_uncertain {s : State} {v : Vault} (h : (s.occupancy v).certain = false) :
    s.clearVault v = false := by
  simp [State.clearVault, h]

theorem enabledBlocks_enabled (v : Vault) (s : State) :
    s.Enabled (enabledBlocks v s) v { resetSsq (s.stagedSet v) with clear := false }
      ∧ (s.atu.latch = true → (enabledBlocks v s).siteClaims v = true) := by
  unfold enabledBlocks
  dsimp only
  have hfirst : s.Enabled (setCertain v false (enableSequencer v (s.withGroup v { s.group v with enabled := true }))) v
      (resetSsq (s.stagedSet v)) :=
    ⟨State.withSequencer_sequencer (s.withGroup v { s.group v with enabled := true }) v _,
      State.withOccupancy_occupancy _ v _, rfl, rfl, rfl, rfl, State.withGroup_group s v _⟩
  generalize setCertain v false (enableSequencer v (s.withGroup v { s.group v with enabled := true })) = a at *
  obtain ⟨b, hb⟩ : ∃ b, b = (if (s.occupancy v).watched = (a.occupancy v).watched then a else causeOccupancy a) :=
    ⟨_, rfl⟩
  have hsecond : s.Enabled b v (resetSsq (s.stagedSet v)) := by
    rw [hb]
    split
    · exact hfirst
    · exact hfirst.congr rfl rfl rfl rfl rfl rfl rfl
  rw [← hb]
  obtain ⟨c, hc⟩ : ∃ c, c = (if b.atu.latch then claimSiteEvacuate v true b else b) := ⟨_, rfl⟩
  have hthird : s.Enabled c v (resetSsq (s.stagedSet v)) := by
    rw [hc]
    split
    · exact hsecond.claimed _
    · exact hsecond
  have hclaim (h : s.atu.latch = true) : c.siteClaims v = true := by
    rw [hc, hsecond.latch, if_pos h]
    exact claimSiteEvacuate_siteClaims (congrArg VaultGroup.enabled hsecond.group)
  rw [← hc, occupancyReported_quiet (congrArg SsqRecord.state hthird.sequencer), hthird.sequencer,
    State.clearVault_uncertain (congrArg VaultOccupancy.certain hthird.occupancy)]
  obtain ⟨-, ho, hd, hl, hp, ha, hg⟩ := hthird
  exact ⟨⟨State.withSequencer_sequencer c v _, ho, hd, hl, hp, ha, hg⟩, hclaim⟩

/-- The doors of a vault that becomes enabled: released under the latch, and extending where they begin at rest (R143). -/
theorem beginDoors_enabled {s t : State} {v : Vault}
    (h : s.Enabled t v { resetSsq (s.stagedSet v) with clear := false }) : ∃ d, Redoored v d t (beginDoors v t)
      ∧ (s.atu.latch = true → d.Released (t.emergencyTravel v) ∧ (beginDoors v t).siteClaims = t.siteClaims)
      ∧ (s.atu.latch = false → s.door v = resetDoor → s.lines.get v = resetLines →
          d = extendingDoor ((s.group v).tBolt * 100)) := by
  have hcause : t.emergencyCause v = s.atu.latch := by
    unfold State.emergencyCause
    rw [h.sequencer, h.latch]
    exact Bool.or_false _
  unfold beginDoors
  rw [hcause]
  cases s.atu.latch with
  | true =>
    obtain ⟨f, hf, hreleased⟩ := emergencyStart_becomes v t
    exact ⟨_, hf.redoored, fun _ => ⟨hreleased, hf.claims⟩, fun hl => absurd hl Bool.noConfusion⟩
  | false =>
    obtain ⟨d, hd, -⟩ := startExtend_keepsGrant v t
    refine ⟨d, hd, fun hl => absurd hl Bool.noConfusion, fun _ hdoor hlines => ?_⟩
    have hrest := startExtend_rest (h.door.trans hdoor) (h.lines.trans hlines)
    have he : (startExtend v t).door v = extendingDoor ((t.group v).tBolt * 100) := by
      rw [hrest]
      exact State.withDoor_door t v _
    rw [← hd.door]
    exact he.trans (by rw [h.group])

/-- What follows the change of an enabled flag leaves of the records of the vault: a lone worker settled, a poll begun, a
group given, a pair lapsed. -/
structure Trails (v : Vault) (s t : State) : Prop where
  ssq : t.ssq = s.ssq
  doors : t.doors = s.doors
  lines : t.lines = s.lines
  certain : (t.occupancy v).certain = (s.occupancy v).certain
  entries : (s.occupancy v).entries = [] → (t.occupancy v).entries = []
  pair : s.pair v = none → t.pair v = none
  claims : t.siteClaims = s.siteClaims

theorem Trails.refl (v : Vault) (s : State) : Trails v s s := ⟨rfl, rfl, rfl, rfl, id, id, rfl⟩

theorem Trails.trans {v : Vault} {s t u : State} (h : Trails v s t) (h' : Trails v t u) : Trails v s u :=
  ⟨h'.ssq.trans h.ssq, h'.doors.trans h.doors, h'.lines.trans h.lines, h'.certain.trans h.certain,
    fun e => h'.entries (h.entries e), fun e => h'.pair (h.pair e), h'.claims.trans h.claims⟩

theorem settleLone_trails (v : Vault) (s : State) : Trails v s (settleLone v s) := by
  obtain ⟨f, hf⟩ := settleLone_sansReports v s
  have h := congrArg (fun u : State => (u.ssq, u.doors, u.lines, u.occupancy v, u.pair v)) hf
  simp only [Prod.mk.injEq] at h
  obtain ⟨hq, hd, hl, ho, hp⟩ := h
  have hocc : (settleLone v s).occupancy v =
      { s.occupancy v with entries := (s.occupancy v).entries.map f } :=
    ho.trans (State.withOccupancy_occupancy s.sansReports v _)
  exact ⟨hq, hd, hl, by rw [hocc], fun he => by rw [hocc, he]; rfl, fun hn => hp.trans hn, settleLone_siteClaims v s⟩

theorem enableOnLine_trails (v : Vault) (s : State) : Trails v s (enableOnLine s) := by
  unfold enableOnLine
  split
  · rw [beginTransaction_eq]
    exact ⟨rfl, rfl, rfl, rfl, id, id, rfl⟩
  · exact Trails.refl v s

theorem withGroup_trails (v : Vault) (g : VaultGroup) (s : State) : Trails v s (s.withGroup v g) :=
  ⟨rfl, rfl, rfl, rfl, id, id, rfl⟩

/-- A pair that lapses changes the pairs, the readers and the link alone (R100). -/
theorem lapsePair_eq (v : Vault) (s : State) : lapsePair v s =
    { s with pairs := (lapsePair v s).pairs, readers := (lapsePair v s).readers, link := (lapsePair v s).link } := by
  unfold lapsePair handVerdict
  (repeat' split) <;> rfl

theorem lapsePair_trails (v : Vault) (s : State) : Trails v s (lapsePair v s) := by
  have hp := (lapsePair_kept v s).2.1 v
  rw [lapsePair_eq] at hp ⊢
  exact ⟨rfl, rfl, rfl, rfl, id, hp, rfl⟩

/-- The records of a vault that has become enabled, told from the state before (R143, R159, R187). -/
structure State.Opened (s t : State) (v : Vault) : Prop where
  sequencer : t.sequencer v = { resetSsq (s.stagedSet v) with clear := false }
  certain : (t.occupancy v).certain = false
  entries : (s.occupancy v).entries = [] → (t.occupancy v).entries = []
  pair : s.pair v = none → t.pair v = none
  lines : t.lines.get v = s.lines.get v
  released : s.atu.latch = true → ∃ travel, (t.door v).Released travel
    ∧ (s.lines.get v = resetLines → travel = some ((s.group v).tBolt * 100))
  claim : s.atu.latch = true → t.siteClaims v = true
  extending : s.atu.latch = false → s.door v = resetDoor → s.lines.get v = resetLines →
    t.door v = extendingDoor ((s.group v).tBolt * 100)

theorem State.Opened.trails {s t u : State} {v : Vault} (h : s.Opened t v) (h' : Trails v t u) : s.Opened u v := by
  have hdoor : u.door v = t.door v := congrArg (fun p : PerVault DoorRecord => p.get v) h'.doors
  refine ⟨?_, h'.certain.trans h.certain, fun e => h'.entries (h.entries e), fun e => h'.pair (h.pair e), ?_, ?_, ?_, ?_⟩
  · exact (congrArg (fun p : PerVault SsqRecord => p.get v) h'.ssq).trans h.sequencer
  · exact (congrArg (fun p : PerVault VaultLines => p.get v) h'.lines).trans h.lines
  · exact hdoor ▸ h.released
  · exact h'.claims ▸ h.claim
  · exact hdoor ▸ h.extending

theorem beginDoors_opened (v : Vault) (s : State) : s.Opened (beginDoors v (enabledBlocks v s)) v := by
  obtain ⟨henabled, hclaim⟩ := enabledBlocks_enabled v s
  generalize enabledBlocks v s = t at *
  obtain ⟨d, hd, hlatch, hrest⟩ := beginDoors_enabled henabled
  obtain ⟨hp, -, hl, ho, hq, -⟩ := hd.others
  have hocc : (beginDoors v t).occupancy v = { s.occupancy v with certain := false } :=
    (congrArg (fun p : PerVault VaultOccupancy => p.get v) ho).trans henabled.occupancy
  refine ⟨?_, by rw [hocc], fun he => by rw [hocc]; exact he, fun hn => ?_, ?_, fun h => ?_, fun h => ?_, fun h => ?_⟩
  · exact (congrArg (fun p : PerVault SsqRecord => p.get v) hq).trans henabled.sequencer
  · exact (congrArg (fun p : PerVault (Option PendingPair) => p.get v) hp).trans (henabled.pair.trans hn)
  · exact (congrArg (fun p : PerVault VaultLines => p.get v) hl).trans henabled.lines
  · refine ⟨_, hd.door ▸ (hlatch h).1, fun hlines => ?_⟩
    unfold State.emergencyTravel State.travelTicks
    rw [countsActive_resetLines (henabled.lines.trans hlines), henabled.group]
    rfl
  · exact (congrFun (hlatch h).2 v).trans (hclaim h)
  · exact hd.door ▸ hrest h

/-- A vault that becomes enabled: UNCERTAIN, its committed set the staged set, its doors begun (R143, R159, R187). -/
theorem enableVault_opened (v : Vault) (s : State) : s.Opened (enableVault v s) v := by
  rw [enableVault_eq]
  exact (beginDoors_opened v s).trails ((settleLone_trails v _).trans (enableOnLine_trails v _))

end Sys2Proof.Machine

namespace Sys2Proof.Machine

/-! ### A vault group given to its owners -/

theorem applyVault_trails (v : Vault) (g : VaultGroup) (s : State) :
    Trails v (setEnabled v g.enabled s) (applyVault v g s) := by
  unfold applyVault
  dsimp only
  generalize setEnabled v g.enabled s = u
  have hpair : Trails v u (if (u.group v).pairFlag = true ∧ g.pairFlag = false then lapsePair v (u.withGroup v g)
      else u.withGroup v g) := by
    split
    · exact (withGroup_trails v g u).trans (lapsePair_trails v _)
    · exact withGroup_trails v g u
  split
  · exact hpair
  · exact hpair.trans (settleLone_trails v _)

theorem applyVault_opened {v : Vault} {g : VaultGroup} {s : State} (hg : g.enabled = true) (he : s.enabled v = false) :
    s.Opened (applyVault v g s) v := by
  have h := applyVault_trails v g s
  unfold setEnabled at h
  rw [hg, he, if_neg Bool.noConfusion, if_pos rfl] at h
  exact (enableVault_opened v s).trails h

theorem endCondition_claims (key : AlarmKey) (s : State) :
    (endCondition key s).claims = s.claims ∧ (endCondition key s).cfg = s.cfg := by
  unfold endCondition retireRecord
  (repeat' split) <;> exact ⟨rfl, rfl⟩

/-- No claim changes where the vault is not enabled (R75). -/
theorem claim_idle {v : Vault} {s : State} (h : s.enabled v = false) (f : ClaimSet → ClaimSet) : claim v f s = s :=
  if_neg (Bool.eq_false_iff.1 h)

theorem settleLone_idle {v : Vault} {s : State} (h : s.enabled v = false) : (settleLone v s).claims = s.claims := by
  have hends := foldl_part (fun u => (u.claims, u.cfg))
    (fun s e => if Occupant.overdue e then endCondition (loneWorkerKey v e.number) s else s) (fun u e => by
      split
      · obtain ⟨hc, hg⟩ := endCondition_claims (loneWorkerKey v e.number) u
        rw [hc, hg]
      · rfl) (s.occupancy v).entries s
  unfold settleLone
  dsimp only
  rw [if_neg (by simp [State.loneApplies, h])]
  generalize (s.occupancy v).entries.foldl
    (fun s e => if Occupant.overdue e then endCondition (loneWorkerKey v e.number) s else s) s = u at *
  obtain ⟨hc, hg⟩ := Prod.mk.inj hends
  have hidle : u.enabled v = false := by
    rw [← h]
    exact congrArg (fun b : ConfigBlock => (b.vaults.get v).enabled) hg
  unfold claimChirp
  rw [claim_idle (s := u.withOccupancy v _) hidle]
  exact hc

/-- A vault group given to its owners, once the enabled flag is dealt with (R208). -/
theorem applyVault_eq {v : Vault} {g : VaultGroup} {s u : State} (h : setEnabled v g.enabled s = u) :
    applyVault v g s =
      (let t := if (u.group v).pairFlag = true ∧ g.pairFlag = false then lapsePair v (u.withGroup v g) else u.withGroup v g
      if (u.group v).allHours = g.allHours then t else settleLone v t) := by
  subst h
  rfl

theorem lapsePair_none {v : Vault} {s : State} (h : s.pair v = none) : lapsePair v s = s := by
  unfold lapsePair
  rw [h]

theorem applyVault_vacant {v : Vault} {g : VaultGroup} {s : State} (hg : g.enabled = false) (he : s.enabled v = true) :
    (applyVault v g s).Vacant v ∧ (applyVault v g s).claimSet v = noClaims := by
  obtain ⟨hvac, hclaims⟩ := disableVault_vacant v s
  have hset : setEnabled v g.enabled s = disableVault v s := by
    unfold setEnabled
    rw [hg, he, if_neg Bool.noConfusion, if_neg Bool.noConfusion]
  have htrails := applyVault_trails v g s
  have hform := applyVault_eq hset
  rw [hset] at htrails
  generalize disableVault v s = u at *
  refine ⟨⟨?_, htrails.entries hvac.entries, htrails.certain.trans hvac.certain, htrails.pair hvac.pair, ?_, ?_⟩, ?_⟩
  · exact (congrArg (fun p : PerVault DoorRecord => p.get v) htrails.doors).trans hvac.door
  · exact (congrArg (fun p : PerVault VaultLines => p.get v) htrails.lines).trans hvac.lines
  · exact (congrArg (fun p : PerVault SsqRecord => (p.get v).state) htrails.ssq).trans hvac.quiet
  · have hidle : (u.withGroup v g).enabled v = false := (congrArg VaultGroup.enabled (State.withGroup_group u v g)).trans hg
    have hsame : (applyVault v g s).claims = u.claims := by
      rw [hform, lapsePair_none (s := u.withGroup v g) hvac.pair, ite_self]
      dsimp only
      split
      · rfl
      · exact settleLone_idle hidle
    exact (congrArg (fun p : PerVault ClaimSet => p.get v) hsame).trans hclaims

theorem State.reader_of_readers {s t : State} (h : t.readers = s.readers) (a : ReaderAddress) :
    t.reader a = s.reader a := by
  unfold State.reader
  rw [h]

theorem setEnabled_same {v : Vault} {b : Bool} {s : State} (h : b = s.enabled v) : setEnabled v b s = s := if_pos h

/-- The pair of a vault that stays enabled lapses where its flag is cleared, and its indication is handed (R100). -/
theorem applyVault_lapses {v : Vault} {g : VaultGroup} {s : State} (hg : g.enabled = true) (he : s.enabled v = true)
    (hold : (s.group v).pairFlag = true) (hnew : g.pairFlag = false) {pr : PendingPair} (hp : s.pair v = some pr) :
    (applyVault v g s).pair v = none ∧ (applyVault v g s).link.waiting.verdict = true
      ∧ (applyVault v g s).reader ⟨v, .inner⟩ = { s.reader ⟨v, .inner⟩ with
          lastVerdict := some { verdict := .pairLapsed, number := some pr.first, time := s.stamp }
          waiting := if (s.reader ⟨v, .inner⟩).status = .silent then (s.reader ⟨v, .inner⟩).waiting
            else some { verdict := .pairLapsed, number := some pr.first } } := by
  have hcond : (if (s.group v).pairFlag = true ∧ g.pairFlag = false then lapsePair v (s.withGroup v g)
      else s.withGroup v g) = lapsePair v (s.withGroup v g) := if_pos ⟨hold, hnew⟩
  rw [applyVault_eq (setEnabled_same (hg.trans he.symm)), hcond]
  dsimp only
  have hlapse : lapsePair v (s.withGroup v g) =
      handVerdict ⟨v, .inner⟩ .pairLapsed (some pr.first) ((s.withGroup v g).withPair v none) := by
    unfold lapsePair
    rw [show (s.withGroup v g).pair v = some pr from hp]
  have hon : ((s.withGroup v g).withPair v none).enabled v = true :=
    (congrArg VaultGroup.enabled (State.withGroup_group s v g)).trans hg
  have hgone := (lapsePair_kept v (s.withGroup v g)).1
  have hverdict : (lapsePair v (s.withGroup v g)).link.waiting.verdict = true := by
    rw [hlapse, handVerdict, if_pos hon]
    rfl
  have hreader : (lapsePair v (s.withGroup v g)).reader ⟨v, .inner⟩ = { s.reader ⟨v, .inner⟩ with
      lastVerdict := some { verdict := .pairLapsed, number := some pr.first, time := s.stamp }
      waiting := if (s.reader ⟨v, .inner⟩).status = .silent then (s.reader ⟨v, .inner⟩).waiting
        else some { verdict := .pairLapsed, number := some pr.first } } := by
    rw [hlapse, handVerdict, if_pos hon]
    exact State.withReader_reader _ ⟨v, .inner⟩ _
  generalize lapsePair v (s.withGroup v g) = t at *
  split
  · exact ⟨hgone, hverdict, hreader⟩
  · obtain ⟨-, hps, hrs, -, hvs⟩ := settleLone_kept v t
    refine ⟨?_, hvs.trans hverdict, ?_⟩
    · exact (congrArg (fun p : PerVault (Option PendingPair) => p.get v) hps).trans hgone
    · exact (State.reader_of_readers hrs _).trans hreader

/-- Without such a pair the pairs and the readers stand. -/
theorem applyVault_noPair {v : Vault} {g : VaultGroup} {s : State} (hg : g.enabled = true) (he : s.enabled v = true)
    (h : (s.group v).pairFlag = false ∨ g.pairFlag = true ∨ s.pair v = none) :
    (applyVault v g s).pair v = s.pair v ∧ (applyVault v g s).readers = s.readers := by
  rw [applyVault_eq (setEnabled_same (hg.trans he.symm))]
  have hpair : (if (s.group v).pairFlag = true ∧ g.pairFlag = false then lapsePair v (s.withGroup v g)
      else s.withGroup v g) = s.withGroup v g := by
    split
    · next hc =>
      obtain ⟨hold, hnew⟩ := hc
      refine lapsePair_none (s := s.withGroup v g) ?_
      rcases h with h | h | h
      · exact absurd hold (by simp [h])
      · exact absurd hnew (by simp [h])
      · exact h
    · rfl
  rw [hpair]
  dsimp only
  split
  · exact ⟨rfl, rfl⟩
  · obtain ⟨-, hps, hrs, -⟩ := settleLone_kept v (s.withGroup v g)
    exact ⟨congrArg (fun p : PerVault (Option PendingPair) => p.get v) hps, hrs⟩

/-- What a vault group given to its owners leaves of the rest of the state. -/
structure State.Kept (s t : State) : Prop where
  array : t.array = s.array
  nva : t.nva = s.nva
  cal : t.cal = s.cal
  mode : t.mode = s.mode
  tag : t.link.tag = s.link.tag
  overrun : t.link.overrun = s.link.overrun

theorem applyVault_keptRest (v : Vault) (g : VaultGroup) (s : State) :
    s.Kept (applyVault v g s) ∧ (applyVault v g s).lqu = s.lqu
      ∧ (applyVault v g s).cfg = { s.cfg with vaults := s.cfg.vaults.set v g } := by
  have hset := applyVault_settings v g s
  have harr : (applyVault v g s).array = s.array := State.array_of_fixed (applyVault_fixed v g s)
  have hnva : (applyVault v g s).nva = s.nva := State.nva_of_store (applyVault_store v g s)
  have h := congrArg (fun u : State => (u.lqu, u.link.tag, u.link.overrun)) (applyVault_sansSite v g s)
  simp only [Prod.mk.injEq] at h
  generalize applyVault v g s = u at *
  obtain ⟨hl, ht, ho⟩ := h
  exact ⟨⟨harr, hnva, (State.cal_of_settings hset).trans rfl, (State.mode_of_settings hset).trans rfl, ht, ho⟩,
    hl, State.cfg_of_settings hset⟩

/-! ### The LQU under new roles -/

theorem judgeHoldAll_lqu (s : State) : (judgeHoldAll s).lqu =
    { s.lqu with holdAll := s.lqu.holdAllInput s.cfg.site.roles } := by
  unfold judgeHoldAll
  dsimp only
  split
  · next h => rw [h]
  · have e := congrArg (fun u : State => u.lqu)
      (recheckAllHolds_sansSsq (s.withLqu { s.lqu with holdAll := s.lqu.holdAllInput s.cfg.site.roles }))
    exact e

theorem judgeCombination_lqu (s : State) : (judgeCombination s).lqu.stands = s.lqu.combination s.cfg.site.roles
    ∧ (judgeCombination s).lqu.site = s.lqu.site ∧ (judgeCombination s).lqu.holdAll = s.lqu.holdAll := by
  unfold judgeCombination
  dsimp only
  split
  · next h => exact ⟨h.symm, rfl, rfl⟩
  · exact ⟨rfl, rfl, rfl⟩

/-- The combination and the HOLD-ALL input are judged by the site lines alone (R71, R72). -/
theorem Lqu.judged_congr {l m : Lqu} (h : l.site = m.site) (roles : PerSite Role) :
    l.combination roles = m.combination roles ∧ l.holdAllInput roles = m.holdAllInput roles := by
  simp only [Lqu.combination, Lqu.holdAllInput, Lqu.active, h, and_self]

/-- New roles are judged at once: the combination stands, and HOLD-ALL is, as the lines say under them (R71, R72, R208). -/
theorem setRoles_judged (roles : PerSite Role) (s : State) :
    (setRoles roles s).lqu.stands = (setRoles roles s).lqu.combination roles
      ∧ (setRoles roles s).lqu.holdAll = (setRoles roles s).lqu.holdAllInput roles := by
  have hfaults (old : PerSite Role) (u : State) :
      (SiteLine.all.foldl (fun s i => roleFault i (old.get i) (roles.get i) s) u).settings = u.settings :=
    foldl_part State.settings _ (fun u i => roleFault_settings i _ _ u) SiteLine.all u
  have hroles := congrArg (fun b : ConfigBlock => b.site.roles)
    (State.cfg_of_settings (hfaults s.cfg.site.roles (s.withSite { s.cfg.site with roles := roles })))
  unfold setRoles
  dsimp only
  generalize SiteLine.all.foldl (fun t i => roleFault i (s.cfg.site.roles.get i) (roles.get i) t)
    (s.withSite { s.cfg.site with roles := roles }) = u at *
  have hu : u.cfg.site.roles = roles := hroles
  have hcfg : (judgeHoldAll u).cfg.site.roles = roles :=
    (congrArg (fun b : ConfigBlock => b.site.roles) (State.cfg_of_settings (judgeHoldAll_settings u))).trans hu
  have hall := judgeHoldAll_lqu u
  obtain ⟨hstands, hsite, hkept⟩ := judgeCombination_lqu (judgeHoldAll u)
  rw [hcfg] at hstands
  rw [hu] at hall
  have judged (l : Lqu) (hs : l.stands = (judgeCombination (judgeHoldAll u)).lqu.stands)
      (hl : l.site = (judgeCombination (judgeHoldAll u)).lqu.site)
      (hh : l.holdAll = (judgeCombination (judgeHoldAll u)).lqu.holdAll) :
      l.stands = l.combination roles ∧ l.holdAll = l.holdAllInput roles := by
    obtain ⟨hc, hi⟩ := Lqu.judged_congr (hl.trans hsite) roles
    rw [hs, hstands, hh, hkept, hc, hi, hall]
    exact ⟨rfl, rfl⟩
  split
  · exact judged _ rfl rfl rfl
  · exact judged _ rfl rfl rfl

/-- A site group given to its owners leaves the array, the register and the calendar alone (R208). -/
theorem applySite_keptRest (g : SiteGroup) (s : State) :
    s.Kept (applySite g s) ∧ (applySite g s).occ = s.occ ∧ (applySite g s).cfg = { s.cfg with site := g }
      ∧ (applySite g s).lqu.stands = (applySite g s).lqu.combination g.roles
      ∧ (applySite g s).lqu.holdAll = (applySite g s).lqu.holdAllInput g.roles := by
  have hset := applySite_settings g s
  have harr : (applySite g s).array = s.array := State.array_of_fixed (applySite_fixed g s)
  have hnva : (applySite g s).nva = s.nva := State.nva_of_store (applySite_store g s)
  obtain ⟨hstands, hall⟩ : (applySite g s).lqu.stands = (applySite g s).lqu.combination g.roles
      ∧ (applySite g s).lqu.holdAll = (applySite g s).lqu.holdAllInput g.roles := setRoles_judged g.roles s
  have hroles := congrArg (fun u : State => (u.occ, u.link.tag, u.link.overrun)) (setRoles_sansLqu g.roles s)
  have h : (applySite g s).occ = s.occ ∧ (applySite g s).link.tag = s.link.tag
      ∧ (applySite g s).link.overrun = s.link.overrun := by
    unfold applySite
    generalize setRoles g.roles s = u at *
    simp only [Prod.mk.injEq] at hroles
    exact hroles
  obtain ⟨ho, ht, hv⟩ := h
  generalize applySite g s = u at *
  exact ⟨⟨harr, hnva, (State.cal_of_settings hset).trans rfl, (State.mode_of_settings hset).trans rfl, ht, hv⟩, ho,
    State.cfg_of_settings hset, hstands, hall⟩

end Sys2Proof.Machine

namespace Sys2Proof.Machine

/-! ## WRITE-PARAMS (O43) -/

/-! ### The groups as they are stored, and the refusals of their values -/

theorem siteGroupOf_eq {w : SiteWrite} {roles : PerSite Role} (hb : w.bandSize % 64 = 0) (hm : w.bandSize ≤ 512)
    (hs : w.siteSchedule < 32) (hr : rolesOf w.roles = some roles) (stored : StoredMode) : siteGroupOf w stored = some
      { failureLimit := max 3 (min 9 w.failureLimit), forgiveness := max 1 (min 255 w.forgiveness)
        bandSize := w.bandSize, maxAttempts := max 1 (min 20 w.maxAttempts), trim := max (-127) (min 127 w.trim)
        siteSchedule := w.siteSchedule, stored := stored, pairWindow := max 5 (min 60 w.pairWindow)
        roles := roles, tComb := max 1 (min 10 w.tComb), e1 := max 10 (min 600 w.e1), e2 := max 10 (min 1800 w.e2) } := by
  unfold siteGroupOf
  rw [if_neg (by simp [goodBand, hb, hm, Config.scheduleCount, hs]), hr]
  rfl

theorem rolesOf_isSome {r : PerSite (Option Role)} (h : ∀ i, r.get i ≠ none) : ∃ roles, rolesOf r = some roles := by
  obtain ⟨a, ha⟩ := Option.ne_none_iff_exists'.1 (h .s0)
  obtain ⟨b, hb⟩ := Option.ne_none_iff_exists'.1 (h .s1)
  obtain ⟨c, hc⟩ := Option.ne_none_iff_exists'.1 (h .s2)
  obtain ⟨d, hd⟩ := Option.ne_none_iff_exists'.1 (h .s3)
  refine ⟨⟨a, b, c, d⟩, ?_⟩
  unfold rolesOf
  rw [show r.s0 = some a from ha, show r.s1 = some b from hb, show r.s2 = some c from hc, show r.s3 = some d from hd]

theorem rolesOf_none {r : PerSite (Option Role)} {i : SiteLine} (h : r.get i = none) : rolesOf r = none := by
  unfold rolesOf
  split
  · next a b c d ha hb hc hd =>
    cases i
    · exact absurd (ha.symm.trans h) (Option.some_ne_none a)
    · exact absurd (hb.symm.trans h) (Option.some_ne_none b)
    · exact absurd (hc.symm.trans h) (Option.some_ne_none c)
    · exact absurd (hd.symm.trans h) (Option.some_ne_none d)
  · rfl

theorem siteGroupOf_bad {w : SiteWrite} (h : w.bandSize % 64 ≠ 0 ∨ 512 < w.bandSize ∨ 32 ≤ w.siteSchedule
    ∨ ∃ i, w.roles.get i = none) (stored : StoredMode) : siteGroupOf w stored = none := by
  unfold siteGroupOf
  split
  · rfl
  · next hg =>
    simp only [goodBand, Bool.not_eq_true', Bool.and_eq_false_iff, decide_eq_false_iff_not, not_or, not_not,
      Config.scheduleCount, not_le] at hg
    obtain ⟨⟨hb, hm⟩, hs⟩ := hg
    obtain h | h | h | ⟨i, h⟩ := h
    · exact absurd hb h
    · exact absurd h hm
    · exact absurd hs (not_lt.2 h)
    · rw [rolesOf_none h]
      rfl

theorem Line.mem_all (l : Line) : l ∈ Line.all := by cases l <;> decide

theorem goodClass_iff (n : Nat) : goodClass n = true ↔ n ∈ [4, 8, 16, 32, 64] := by
  simp [goodClass, or_assoc]

theorem vaultGroupOf_eq {w : VaultWrite} {e p a : Bool} (he : w.enabled = some e) (hp : w.pairFlag = some p)
    (ha : w.allHours = some a) (hc : ∀ l, goodClass (w.classes.get l) = true) : vaultGroupOf w = some
      { enabled := e, pairFlag := p, allHours := a, limit := max 1 (min 16 w.limit)
        loneInterval := max 5 (min 120 w.loneInterval), tBolt := max 2 (min 20 w.tBolt)
        tGrant := max 3 (min 30 w.tGrant), relock := min 10 w.relock, tHeld := max 10 (min 600 w.tHeld)
        tOuter := max 3 (min 30 w.tOuter), classes := w.classes } := by
  unfold vaultGroupOf
  rw [he, hp, ha]
  dsimp only
  rw [if_pos (List.all_eq_true.2 fun l _ => hc l)]
  simp only [clampVault, clamp, Nat.zero_max]

theorem vaultGroupOf_noFlag {w : VaultWrite} (h : w.enabled = none ∨ w.pairFlag = none ∨ w.allHours = none) :
    vaultGroupOf w = none := by
  unfold vaultGroupOf
  split
  · next he hp ha =>
    rw [he, hp, ha] at h
    simp at h
  · rfl

theorem vaultGroupOf_badClass {w : VaultWrite} {l : Line} (h : w.classes.get l ∉ [4, 8, 16, 32, 64]) :
    vaultGroupOf w = none := by
  have hall : ¬ (Line.all.all fun l => goodClass (w.classes.get l)) = true := fun ha =>
    h ((goodClass_iff _).1 (List.all_eq_true.1 ha l (Line.mem_all l)))
  unfold vaultGroupOf
  split
  · exact if_neg hall
  · rfl

/-! ### The checks of a group -/

/-- A commissioned part out of MAINTENANCE is locked (R40). -/
theorem State.lockedOut_iff (s : State) : s.lockedOut = true ↔ s.cfg.lock = true ∧ s.mode ≠ .maintenance := by
  simp [State.lockedOut]

theorem writeSite_locked {w : SiteWrite} {g : SiteGroup} {s : State} (hg : siteGroupOf w s.cfg.site.stored = some g)
    (hl : s.lockedOut = true) (hb : g.bandSize ≠ s.cfg.site.bandSize) : writeSite w s = refuse .locked s := by
  simp [writeSite, hg, hl, hb]

/-- The lock forbids no change of a group that it does not cover. -/
def State.unlocked (s : State) (kept : Prop) : Prop := s.cfg.lock = true → s.mode ≠ .maintenance → kept

theorem writeSite_unlocked {w : SiteWrite} {g : SiteGroup} {s : State} (hg : siteGroupOf w s.cfg.site.stored = some g)
    (hl : s.unlocked (g.bandSize = s.cfg.site.bandSize)) : writeSite w s =
      if s.storeBusy then refuse .storeBusy s
      else ok (.siteWritten g ((placeConfig (applySite g s)).nva.position .config)) (placeConfig (applySite g s)) := by
  have hfree : ¬ (s.lockedOut && decide (g.bandSize ≠ s.cfg.site.bandSize)) = true := by
    simp only [Bool.and_eq_true, State.lockedOut_iff, decide_eq_true_eq]
    exact fun ⟨⟨hc, hm⟩, hb⟩ => hb (hl hc hm)
  unfold writeSite
  rw [hg]
  dsimp only
  rw [if_neg hfree]

theorem writeVault_locked {v : Vault} {w : VaultWrite} {g : VaultGroup} {s : State} (hg : vaultGroupOf w = some g)
    (hl : s.lockedOut = true) (hk : ¬ (g.enabled = s.enabled v ∧ g.classes = (s.group v).classes)) :
    writeVault v w s = refuse .locked s := by
  have hchange : (s.lockedOut && (decide (g.enabled ≠ s.enabled v)
      || decide (g.classes ≠ (s.group v).classes))) = true := by
    simp only [hl, Bool.true_and, Bool.or_eq_true, decide_eq_true_eq]
    exact not_and_or.1 hk
  unfold writeVault
  rw [hg]
  exact if_pos hchange

theorem writeVault_unlocked {v : Vault} {w : VaultWrite} {g : VaultGroup} {s : State} (hg : vaultGroupOf w = some g)
    (hl : s.unlocked (g.enabled = s.enabled v ∧ g.classes = (s.group v).classes)) : writeVault v w s =
      if g.limit < s.load v then refuse .inUse s
      else if s.storeBusy then refuse .storeBusy s
      else ok (.vaultWritten g ((placeConfig (applyVault v g s)).nva.position .config))
        (placeConfig (applyVault v g s)) := by
  have hfree : ¬ (s.lockedOut && (decide (g.enabled ≠ s.enabled v)
      || decide (g.classes ≠ (s.group v).classes))) = true := by
    simp only [Bool.and_eq_true, Bool.or_eq_true, State.lockedOut_iff, decide_eq_true_eq]
    exact fun ⟨⟨hc, hm⟩, hk⟩ => not_and_or.2 hk (hl hc hm)
  unfold writeVault
  rw [hg]
  dsimp only
  rw [if_neg hfree]

/-! ### The answer to a stored group -/

/-- `t` is `u` with the configuration block queued and the request answered, for a request made of `s`. -/
structure State.Stored (s u t : State) (code : Nat) (body : Nat → Body) : Prop where
  queued : t.configQueued
  response : t.link.response = (s.link.answered code .ok (body (s.placing .config))).response
  waiting : t.link.waiting = u.link.waiting
  rest : t = { u with nva := t.nva, link := t.link }

/-- A request whose owner changes nothing of the store and the link's tag, and places the configuration block. -/
theorem hostRequest_stored {code : Nat} {f : Service} {s u : State} {body : Nat → Body} (hs : s.ready) (hk : s.Kept u)
    (hf : f s = ok (body ((placeConfig u).nva.position .config)) (placeConfig u)) :
    ∃ t, hostRequest code f s = .next t ∧ s.Stored u t code body := by
  have hplacing : u.placing .config = s.placing .config := by
    unfold State.placing
    rw [hk.nva]
  rw [placeConfig_position, hplacing] at hf
  have hqueued := placeConfig_queued u
  obtain ⟨x, hx⟩ := placeConfig_eq u
  rw [hx] at hf hqueued
  refine ⟨_, hostRequest_answered code f hs (by rw [hf]; exact hk.tag), ?_⟩
  rw [hf]
  exact ⟨hqueued, Link.answered_response hk.tag hk.overrun, rfl, rfl⟩

theorem execWriteParams_vault (v : Vault) (w : VaultWrite) (s : State) :
    exec (.writeParams (.vault v.num w)) s = hostRequest 44 (writeVault v w) s :=
  congrArg (fun f => hostRequest 44 f s) (onVault_num v fun v => writeVault v w)

theorem writeVault_bad {v : Vault} {w : VaultWrite} {s : State} (hs : s.ready) (h : vaultGroupOf w = none) :
    exec (.writeParams (.vault v.num w)) s = .next (s.answered 44 .badField .empty) := by
  rw [execWriteParams_vault]
  exact hostRequest_refuse hs (by simp [writeVault, h])

/-- A site group is stored whole, and its values are in force (R208). -/
theorem writeParams_site {s : State} (hs : s.ready) {w : SiteWrite} {g : SiteGroup}
    (hg : siteGroupOf w s.cfg.site.stored = some g) (hl : s.unlocked (g.bandSize = s.cfg.site.bandSize))
    (hb : s.storeBusy = false) : ∃ t, exec (.writeParams (.site w)) s = .next t
      ∧ s.Stored (applySite g s) t 44 fun n => .siteWritten g n := by
  refine hostRequest_stored (body := fun n => .siteWritten g n) hs (applySite_keptRest g s).1 ?_
  exact (writeSite_unlocked hg hl).trans (if_neg (Bool.eq_false_iff.1 hb))

/-- A vault group is stored whole, and its values are in force (R208). -/
theorem writeParams_vault {s : State} (hs : s.ready) {v : Vault} {w : VaultWrite} {g : VaultGroup}
    (hg : vaultGroupOf w = some g) (hl : s.unlocked (g.enabled = s.enabled v ∧ g.classes = (s.group v).classes))
    (hload : s.load v ≤ g.limit) (hb : s.storeBusy = false) : ∃ t, exec (.writeParams (.vault v.num w)) s = .next t
      ∧ s.Stored (applyVault v g s) t 44 fun n => .vaultWritten g n := by
  rw [execWriteParams_vault]
  refine hostRequest_stored (body := fun n => .vaultWritten g n) hs (applyVault_keptRest v g s).1 ?_
  exact (writeVault_unlocked hg hl).trans ((if_neg (not_lt.2 hload)).trans (if_neg (Bool.eq_false_iff.1 hb)))

/-- The block of a vault at rest that does not act (R75, R143). -/
theorem State.atRest_of_idle {s : State} (h : s.restSound = true) {v : Vault} (he : s.enabled v = false) :
    s.lines.get v = resetLines ∧ s.door v = resetDoor ∧ s.pair v = none ∧ (s.occupancy v).entries = [] := by
  simp only [State.restSound, Bool.and_eq_true, List.all_eq_true] at h
  obtain ⟨⟨⟨hall, -⟩, -⟩, -⟩ := h
  have hv := hall v (Vault.mem_all v)
  simp only [State.acts, he, Bool.and_false, Bool.false_or, State.atRest, Bool.and_eq_true, decide_eq_true_eq,
    List.isEmpty_iff] at hv
  obtain ⟨⟨⟨⟨⟨⟨hl, hd⟩, hp⟩, -⟩, ho⟩, -⟩, -⟩ := hv
  exact ⟨hl, hd, hp, ho⟩

/-- The doors of a vault that becomes enabled start with the travel of the T_bolt in force before (notes/assumptions/28.md),
whether they extend or are released under the latch. -/
theorem State.Opened.travel {s t : State} {v : Vault} (h : s.Opened t v) (hl : s.lines.get v = resetLines)
    (hd : s.door v = resetDoor) : (t.door v).travel = some ((s.group v).tBolt * 100) := by
  cases hlatch : s.atu.latch with
  | true =>
    obtain ⟨travel, hr, ht⟩ := h.released hlatch
    exact hr.travel_eq.trans (ht hl)
  | false =>
    rw [h.extending hlatch hd hl]
    rfl

/-- Settles O43: the group passes its checks, and the owners' records are those of a vault that ceases to be enabled,
becomes enabled or stays so. -/
theorem writeParamsStoresTheGroup : Obligations.WriteParamsStoresTheGroup := by
  unfold Obligations.WriteParamsStoresTheGroup
  refine fun s hs _ => ⟨?_, ?_, ?_, ?_, ?_, ?_, ?_, ?_, ?_⟩
  · intro w roles hband hmax hsched hroles hlock hbusy g
    have hg : siteGroupOf w s.cfg.site.stored = some g :=
      siteGroupOf_eq hband hmax hsched (by rw [hroles]; rfl) s.cfg.site.stored
    obtain ⟨t, ht, hq, hr, -, hrest⟩ := writeParams_site hs hg hlock hbusy
    obtain ⟨hk, ho, hcfg, hstands, hall⟩ := applySite_keptRest g s
    generalize applySite g s = u at *
    refine ⟨t, ht, ?_, hq, hr, ?_, ?_, ?_, ?_, ?_, ?_⟩ <;> rw [hrest]
    exacts [hcfg, hstands, hall, hk.array, ho, hk.cal, hk.mode]
  · intro v w e p a he hp ha hc hlock hload hbusy g
    have hg : vaultGroupOf w = some g := vaultGroupOf_eq he hp ha hc
    obtain ⟨t, ht, hq, hr, hw, hrest⟩ := writeParams_vault hs hg hlock hload hbusy
    obtain ⟨hk, hlqu, hcfg⟩ := applyVault_keptRest v g s
    refine ⟨t, ht, by rw [hrest]; exact hcfg, hq, hr, fun h0 hon => ?_, fun h1 hoff => ?_, fun h1 hon => ⟨?_, ?_⟩, ?_, ?_,
      ?_, ?_⟩
    · obtain ⟨hvac, hclaims⟩ := applyVault_vacant (g := g) h0 hon
      rw [hrest]
      exact ⟨hvac.door, hvac.entries, hvac.pair, hvac.lines, hclaims, hvac.quiet, hvac.certain⟩
    · have hopen := applyVault_opened (g := g) h1 hoff
      rw [hrest]
      refine ⟨hopen.sequencer, hopen.certain, fun hlatch => ?_, fun hsound => ?_⟩
      · obtain ⟨travel, hreleased, -⟩ := hopen.released hlatch
        exact ⟨hreleased.emergency, hreleased.outer, hreleased.vault, hopen.claim hlatch, hreleased.grant⟩
      · obtain ⟨hl, hd, hn, ho⟩ := State.atRest_of_idle hsound hoff
        exact ⟨hopen.entries ho, hopen.pair hn, hopen.lines.trans hl, hopen.travel hl hd,
          fun hlatch => hopen.extending hlatch hd hl⟩
    · intro pr hflag hclear hpair r verdict
      obtain ⟨hnone, hcause, hreader⟩ := applyVault_lapses (g := g) h1 hon hflag hclear hpair
      exact ⟨by rw [hrest]; exact hnone, by rw [hw]; exact hcause, by rw [hrest]; exact hreader⟩
    · intro hkeep
      rw [hrest]
      exact applyVault_noPair (g := g) h1 hon hkeep
    · rw [hrest]
      exact hk.array
    · rw [hrest]
      exact hk.cal
    · rw [hrest]
      exact hk.mode
    · rw [hrest]
      exact hlqu
  · exact hostRequest_refuse hs rfl
  · exact fun n w hn => hostRequest_refuse hs (onVault_bad hn _ s)
  · exact fun v w h => writeVault_bad hs (vaultGroupOf_noFlag h)
  · exact fun v w ⟨l, h⟩ => writeVault_bad hs (vaultGroupOf_badClass h)
  · exact fun w h => hostRequest_refuse hs (by simp [writeParams, writeSite, siteGroupOf_bad h])
  · intro w hband hmax hsched hroles
    obtain ⟨roles, hr⟩ := rolesOf_isSome hroles
    have hg := siteGroupOf_eq hband hmax hsched hr s.cfg.site.stored
    refine ⟨fun hl hm hb => ?_, fun hl hbusy => ?_⟩
    · exact hostRequest_refuse hs (writeSite_locked hg (s.lockedOut_iff.2 ⟨hl, hm⟩) hb)
    · exact hostRequest_refuse hs ((writeSite_unlocked hg hl).trans (if_pos hbusy))
  · intro v w e he hp ha hc kept
    obtain ⟨p, hp⟩ := Option.ne_none_iff_exists'.1 hp
    obtain ⟨a, ha⟩ := Option.ne_none_iff_exists'.1 ha
    have hg := vaultGroupOf_eq he hp ha fun l => (goodClass_iff _).2 (hc l)
    rw [execWriteParams_vault]
    refine ⟨fun hl hm hk => ?_, fun hl hload => ?_, fun hl hload hbusy => ?_⟩
    · exact hostRequest_refuse hs (writeVault_locked hg (s.lockedOut_iff.2 ⟨hl, hm⟩) hk)
    · exact hostRequest_refuse hs ((writeVault_unlocked hg hl).trans (if_pos hload))
    · exact hostRequest_refuse hs
        ((writeVault_unlocked hg hl).trans ((if_neg (not_lt.2 hload)).trans (if_pos hbusy)))

end Sys2Proof.Machine

namespace Sys2Proof.Machine

/-! ## WRITE-HOLIDAYS and WRITE-SCHEDULE (O24) -/

/-- The write queue and the attempt in flight are all that placing the image of a target that is no slot changes. -/
theorem place_nonSlot_eq {i : Image} (hi : ∀ n r, i ≠ .slot n r) (s : State) :
    ∃ x, place i s = s.withNva { s.nva.place i with inFlight := x } := by
  have hp : place i s = startAttempt (s.withNva (s.nva.place i)) := by
    cases i with
    | slot n r => exact absurd rfl (hi n r)
    | schedule | holidays | config => rfl
  rw [hp, startAttempt_eq, startAttempt_nva]
  exact ⟨_, rfl⟩

/-- A request whose owner changes a calendar working copy and places its image. -/
theorem hostRequest_calendarWrite {code : Nat} {f : Service} {s : State} (hs : s.ready) {c : Cal} {i : Image}
    (hi : ∀ n r, i ≠ .slot n r)
    (hf : f s = ok (.position ((place i (s.withCal c)).nva.position i.target)) (place i (s.withCal c))) :
    ∃ t, hostRequest code f s = .next t ∧ t.cal = c ∧ t.nva.queue = (s.nva.place i).queue
      ∧ t.link = s.link.answered code .ok (.position (s.placing i.target))
      ∧ t = { s with cal := t.cal, nva := t.nva, link := t.link } := by
  obtain ⟨x, hx⟩ := place_nonSlot_eq hi (s.withCal c)
  have hpos : (place i (s.withCal c)).nva.position i.target = s.placing i.target := by
    rw [hx]
    exact s.nva.position_place i
  rw [hpos, hx] at hf
  refine ⟨_, hostRequest_answered code f hs (by rw [hf]; rfl), ?_⟩
  rw [hf]
  exact ⟨rfl, rfl, rfl, rfl⟩

/-- WRITE-HOLIDAYS with its checks passed (R54). -/
theorem writeHolidays_passed {s : State} {days : List Nat} (hb : s.storeBusy = false) (hlen : days.length ≤ 24)
    (hday : ∀ d ∈ days, d ≤ 65535) (hasc : days.Pairwise (· < ·)) :
    writeHolidays days s = ok (.position ((place (.holidays days)
        (s.withCal { s.cal with holidays := days })).nva.position .holidays))
      (place (.holidays days) (s.withCal { s.cal with holidays := days })) := by
  have hrange : ¬ (24 < days.length ∨ days.any (fun d => decide (Config.lastDay < d)) = true) := by
    simpa [Config.lastDay] using ⟨hlen, hday⟩
  unfold writeHolidays
  rw [if_neg hrange, (ascending_iff days).2 hasc, hb]
  rfl

/-- WRITE-SCHEDULE with its checks passed (R56). -/
theorem writeSchedule_passed {s : State} {n : Nat} {w : List Window} (hb : s.storeBusy = false) (hn : n < 32)
    (hlen : w.length ≤ 4) (hw : ∀ x ∈ w, x.mask ≠ 0 ∧ x.start ≤ 1439 ∧ x.stop ≤ 1439) :
    writeSchedule n w s = ok (.position ((place (.schedule n w)
        (s.withCal (s.cal.setSchedule n w))).nva.position (.schedule n)))
      (place (.schedule n w) (s.withCal (s.cal.setSchedule n w))) := by
  have hgood : w.all goodWindow = true := by
    simpa [goodWindow, and_assoc] using hw
  unfold writeSchedule
  rw [if_neg (Nat.not_le.2 hn), if_neg (Nat.not_lt.2 hlen), hgood, hb]
  rfl

/-- Settles O24: each write passes its checks, changes one working copy of the calendar and places its image. -/
theorem holidayAndScheduleWrites : Obligations.HolidayAndScheduleWrites := by
  unfold Obligations.HolidayAndScheduleWrites
  intro s hs hsound hb
  obtain ⟨-, -, -, -, hschedules⟩ := (storeSound_iff s).1 hsound
  refine ⟨fun days hlen hday hasc => ?_, fun n w hn hlen hw => ?_⟩
  · exact hostRequest_calendarWrite hs (fun _ _ => Image.noConfusion) (writeHolidays_passed hb hlen hday hasc)
  · obtain ⟨t, ht, hcal, hqueue, hlink, hrest⟩ := hostRequest_calendarWrite (code := 18) hs
      (fun _ _ => Image.noConfusion) (writeSchedule_passed hb hn hlen hw)
    have hwindows (m : Nat) : t.cal.windows m = if m = n then w else s.cal.windows m := by
      rw [hcal]
      exact Cal.windows_setSchedule hschedules n m w
    exact ⟨t, ht, (hwindows n).trans (if_pos rfl), fun m hm => (hwindows m).trans (if_neg hm),
      by rw [hcal]; rfl, hqueue, hlink, hrest⟩

end Sys2Proof.Machine

namespace Sys2Proof.Machine

/-! ## SET-TIME and GET-TIME (O26, O27) -/

/-! ### The CLOCK cause while the mode changes -/

theorem claim_clock (v : Vault) (f : ClaimSet → ClaimSet) (s : State) :
    (claim v f s).link.waiting.clock = s.link.waiting.clock := by
  unfold claim
  split <;> rfl

theorem endCondition_clock (key : AlarmKey) (s : State) :
    (endCondition key s).link.waiting.clock = s.link.waiting.clock := by
  unfold endCondition retireRecord
  (repeat' split) <;> rfl

theorem lapsePair_clock (v : Vault) (s : State) : (lapsePair v s).link.waiting.clock = s.link.waiting.clock := by
  unfold lapsePair handVerdict
  (repeat' split) <;> rfl

theorem settleLone_clock (v : Vault) (s : State) : (settleLone v s).link.waiting.clock = s.link.waiting.clock := by
  have hends (o : List Occupant) : (o.foldl (fun s e =>
      if e.overdue then endCondition (loneWorkerKey v e.number) s else s) s).link.waiting.clock
        = s.link.waiting.clock := by
    refine foldl_part (fun u => u.link.waiting.clock) _ (fun u e => ?_) o s
    split
    · exact endCondition_clock _ u
    · rfl
  unfold settleLone claimChirp
  dsimp only
  split
  · rfl
  · exact (claim_clock v _ _).trans (hends _)

/-- A mode other than LOCKDOWN, where no grant is discarded, leaves the CLOCK cause alone (R98 to R100). -/
theorem setMode_clock {mode : Mode} (hm : mode ≠ .lockdown) (auto : Bool) (s : State) :
    (setMode mode auto s).link.waiting.clock = s.link.waiting.clock := by
  have hlone := eachVault_part (fun u => u.link.waiting.clock) settleLone settleLone_clock
  have hlapse := eachVault_part (fun u => u.link.waiting.clock) lapsePair lapsePair_clock
  unfold setMode
  dsimp only
  rw [if_neg hm]
  (repeat' split)
  · rfl
  · rfl
  · exact (hlone _).trans (hlapse _)
  · exact hlone _

/-! ### SET-TIME -/

/-- The calendar that SET-TIME gives (R49, R51). -/
def State.calendarAt (s : State) (day minute second : Nat) : Cal :=
  { s.cal with
    instant := { day := day, minute := minute, second := second, tick := 0 }
    state := if s.tmb.source = .reference then .synchronised else .drifted }

/-- The state in which SET-TIME has the site mode evaluated. -/
def State.timeSet (s : State) (day minute second : Nat) : State := causeClock (s.withCal (s.calendarAt day minute second))

theorem setTimeState_eq (t : Tmb) : setTimeState t = if t.source = .reference then .synchronised else .drifted := by
  unfold setTimeState Tmb.onReference
  simp only [decide_eq_true_eq]

theorem setTime_bad {day minute second : Nat} (h : 65535 < day ∨ 1439 < minute ∨ 59 < second) (s : State) :
    setTime day minute second s = refuse .badField s := if_pos h

theorem setTime_good {day minute second : Nat} (hd : day ≤ 65535) (hm : minute ≤ 1439) (hs : second ≤ 59) (s : State) :
    setTime day minute second s =
      ok (.calendarState (s.calendarAt day minute second).state) (evaluateMode (s.timeSet day minute second)) := by
  have hrange : ¬ (Config.lastDay < day ∨ 1439 < minute ∨ 59 < second) := by
    simp only [Config.lastDay]
    omega
  unfold setTime
  rw [if_neg hrange, setTimeState_eq]
  rfl

/-- A calendar that has a time answers a containment question by its windows (R58). -/
theorem Cal.containment_timed {c : Cal} (h : c.state ≠ .unsynchronised) (n : Nat) : c.containment n = .contained ↔
    (c.windows n).any (fun w => windowContains c.holidays w c.instant.day c.instant.minute) = true := by
  unfold Cal.containment
  split
  · next hc => exact absurd hc h
  all_goals split <;> simp_all

theorem State.calendarAt_timed (s : State) (day minute second : Nat) :
    (s.calendarAt day minute second).state ≠ .unsynchronised := by
  unfold State.calendarAt
  dsimp only
  split <;> exact CalendarState.noConfusion

/-- The mode that an automatic evaluation right after SET-TIME sets (R51, R59). -/
theorem State.timeSet_scheduledMode (s : State) (day minute second : Nat) :
    (s.timeSet day minute second).scheduledMode =
      if ((s.calendarAt day minute second).windows s.cfg.site.siteSchedule).any
        (fun w => windowContains s.cal.holidays w day minute) then .openHours else .afterHours := by
  rw [scheduledMode_eq]
  exact if_congr (Cal.containment_timed (s.calendarAt_timed day minute second) _) rfl rfl

/-- An evaluation sets the scheduled mode where the flag is set, and leaves the record of the mode otherwise (R59). -/
theorem evaluateMode_modeSet (s : State) :
    s.ModeSet (evaluateMode s) (if s.auto = true then s.scheduledMode else s.mode) s.auto := by
  cases ha : s.auto with
  | true =>
    unfold evaluateMode
    rw [ha]
    exact setMode_modeSet s.scheduledMode true s
  | false =>
    rw [evaluateMode_manual ha]
    exact ⟨rfl, ha, rfl, rfl, ⟨rfl, rfl, rfl, rfl, rfl, rfl, rfl, rfl, rfl⟩, rfl, rfl⟩

theorem evaluateMode_ready {s : State} (h : s.ready) : (evaluateMode s).ready := by
  have hkept := congrArg (fun u : State => (u.phase, u.due)) (evaluateMode_sansSite s)
  simp only [Prod.mk.injEq] at hkept
  obtain ⟨hphase, hdue⟩ := hkept
  exact ⟨hphase.trans h.1, hdue.trans h.2⟩

/-- An evaluation leaves the CLOCK cause alone: no schedule gives LOCKDOWN. -/
theorem evaluateMode_clock (s : State) : (evaluateMode s).link.waiting.clock = s.link.waiting.clock := by
  have hm : s.scheduledMode ≠ .lockdown := by
    rw [scheduledMode_eq]
    split <;> exact Mode.noConfusion
  unfold evaluateMode
  split
  · exact setMode_clock hm true s
  · rfl

/-- SET-TIME of an instant in range: the calendar is set, the mode is evaluated, and the calendar state is answered. -/
theorem exec_setTime_good {s : State} (h : s.ready) {day minute second : Nat} (hd : day ≤ 65535) (hm : minute ≤ 1439)
    (hs : second ≤ 59) : exec (.setTime day minute second) s =
      .next ((evaluateMode (s.timeSet day minute second)).answered 14 .ok
        (.calendarState (s.calendarAt day minute second).state)) := by
  have hf := setTime_good hd hm hs s
  have htag := (evaluateMode_modeSet (s.timeSet day minute second)).tag
  refine (hostRequest_answered 14 _ h (by rw [hf]; exact htag)).trans ?_
  rw [hf]
  rfl

/-- Settles O26, from the calendar that SET-TIME gives and the evaluation of the mode under it. -/
theorem setTimeSetsTheCalendar : Obligations.SetTimeSetsTheCalendar := by
  unfold Obligations.SetTimeSetsTheCalendar
  refine fun s day minute second h => ⟨fun hbad => hostRequest_refuse h (setTime_bad hbad s), fun hd hm hs => ?_⟩
  dsimp only
  have hexec := exec_setTime_good h hd hm hs
  refine ⟨fun ha => ?_, fun ha => ⟨_, hexec, ?_⟩⟩
  · have hmanual : (s.timeSet day minute second).auto = false := ha
    rw [evaluateMode_manual hmanual] at hexec
    exact hexec
  · obtain ⟨hmode, hauto, hcfg, hnva, ⟨harray, -, -, hcal, htmb, -⟩, htag, hover⟩ :=
      evaluateMode_modeSet (s.timeSet day minute second)
    have hflag : (s.timeSet day minute second).auto = true := ha
    rw [if_pos hflag, State.timeSet_scheduledMode] at hmode
    exact ⟨hcal, hauto.trans ha, hmode, Link.answered_response htag hover, evaluateMode_clock _, hcfg, hnva, harray,
      htmb⟩

/-! ### GET-TIME -/

/-- GET-TIME answers with the calendar and changes nothing (R52). -/
theorem exec_getTime {s : State} (h : s.ready) : exec .getTime s = .next (s.answered 15 .ok
    (.time s.cal.instant (weekdayIndex s.cal.instant.day) (dayType s.cal.holidays s.cal.instant.day) s.cal.state
      s.tmb.source s.cfg.site.trim)) :=
  hostRequest_ok h rfl

/-- Settles O27: the report of the calendar as it stands, and of the one that SET-TIME has given. -/
theorem getTimeReportsTheCalendar : Obligations.GetTimeReportsTheCalendar := by
  unfold Obligations.GetTimeReportsTheCalendar
  refine fun s => ⟨exec_getTime, fun hp hd => hostRequest_scanning 15 getTime hp hd rfl,
    fun u day minute second h hd hm hs hset => ?_⟩
  rw [exec_setTime_good h hd hm hs] at hset
  cases hset
  have hready : (evaluateMode (s.timeSet day minute second)).ready := evaluateMode_ready h
  obtain ⟨-, -, hcfg, -, ⟨-, -, -, hcal, htmb, -⟩, -⟩ := evaluateMode_modeSet (s.timeSet day minute second)
  refine ⟨_, _, exec_getTime hready, rfl, ?_⟩
  dsimp only [State.answered]
  rw [hcfg, hcal, htmb]
  rfl

end Sys2Proof.Machine

namespace Sys2Proof.Machine

/-! ## The calendar and the time base one tick later (O49) -/

section
variable {c : Cal}

theorem Cal.tick_ticks (ht : c.instant.tick < 99) :
    c.tick = ({ c with instant := { c.instant with tick := c.instant.tick + 1 } }, false) :=
  if_pos (Nat.succ_lt_succ ht)

theorem Cal.tick_seconds (ht : c.instant.tick = 99) (hs : c.instant.second < 59) :
    c.tick = ({ c with instant := { c.instant with second := c.instant.second + 1, tick := 0 } }, false) := by
  simp [Cal.tick, ht, Nat.succ_lt_succ hs]

theorem Cal.tick_minutes (ht : c.instant.tick = 99) (hs : c.instant.second = 59) (hm : c.instant.minute < 1439) :
    c.tick = ({ c with instant := { c.instant with minute := c.instant.minute + 1, second := 0, tick := 0 } }, true) := by
  simp [Cal.tick, ht, hs, Nat.succ_lt_succ hm]

theorem Cal.tick_days (ht : c.instant.tick = 99) (hs : c.instant.second = 59) (hm : c.instant.minute = 1439)
    (hd : c.instant.day < 65535) : c.tick =
      ({ c with instant := { day := c.instant.day + 1, minute := 0, second := 0, tick := 0 } }, true) := by
  simp [Cal.tick, ht, hs, hm, hd, Config.lastDay]

theorem Cal.tick_wraps
    (h : c.instant.tick = 99 ∧ c.instant.second = 59 ∧ c.instant.minute = 1439 ∧ c.instant.day = 65535) :
    c.tick = ({ c with instant := zeroInstant, state := .unsynchronised }, true) := by
  obtain ⟨ht, hs, hm, hd⟩ := h
  simp [Cal.tick, ht, hs, hm, hd, Config.lastDay]

theorem Cal.endsLastDay_iff : c.endsLastDay = true ↔
    c.instant.tick = 99 ∧ c.instant.second = 59 ∧ c.instant.minute = 1439 ∧ c.instant.day = 65535 := by
  obtain ⟨⟨day, minute, second, tick⟩, state, schedules, holidays⟩ := c
  simp only [Cal.endsLastDay, decide_eq_true_eq, Instant.mk.injEq, Config.lastDay]
  tauto

/-- Where the last day does not end, the instant alone changes, and the minute event occurs at the end of each minute
(R48). -/
theorem Cal.tick_minute
    (hr : c.instant.day ≤ 65535 ∧ c.instant.minute < 1440 ∧ c.instant.second < 60 ∧ c.instant.tick < 100) :
    (c.endsLastDay = false → c.tick.1 = { c with instant := c.tick.1.instant })
      ∧ (c.tick.2 = true ↔ c.instant.tick = 99 ∧ c.instant.second = 59) := by
  obtain ⟨hd, hm, hs, ht⟩ := hr
  rcases (Nat.lt_succ_iff.1 ht).lt_or_eq with ht | ht
  · rw [Cal.tick_ticks ht]
    exact ⟨fun _ => rfl, by simp [ht.ne]⟩
  rcases (Nat.lt_succ_iff.1 hs).lt_or_eq with hs | hs
  · rw [Cal.tick_seconds ht hs]
    exact ⟨fun _ => rfl, by simp [hs.ne]⟩
  rcases (Nat.lt_succ_iff.1 hm).lt_or_eq with hm | hm
  · rw [Cal.tick_minutes ht hs hm]
    exact ⟨fun _ => rfl, by simp [ht, hs]⟩
  rcases hd.lt_or_eq with hd | hd
  · rw [Cal.tick_days ht hs hm hd]
    exact ⟨fun _ => rfl, by simp [ht, hs]⟩
  · rw [Cal.tick_wraps ⟨ht, hs, hm, hd⟩]
    exact ⟨fun h => absurd (Cal.endsLastDay_iff.2 ⟨ht, hs, hm, hd⟩) (by simp [h]), by simp [ht, hs]⟩

end

/-- The counts of the time base one tick later, whatever times the tick (R43, R47). -/
theorem Tmb.tick_counts {b : Tmb} (h : b.subTick < 100) (trim : Int) :
    (b.tick trim).subTick = (b.subTick + 1) % 100
      ∧ (b.tick trim).seconds = (if b.subTick = 99 then (b.seconds + 1) % 64 else b.seconds)
      ∧ (b.tick trim).startUp = b.startUp.map fun n => if 99 ≤ n then n else n + 1 := by
  have hsub : (if b.subTick + 1 = 100 then 0 else b.subTick + 1) = (b.subTick + 1) % 100 := by split <;> omega
  rw [← hsub]
  simp only [Tmb.tick, Nat.reduceEqDiff]
  cases b.source <;> exact ⟨rfl, rfl, rfl⟩

theorem Tmb.tick_rc {b : Tmb} (h : b.source = .rc) (trim : Int) :
    (b.tick trim).source = .rc ∧ (b.tick trim).accumulator = b.accumulator := by
  simp [Tmb.tick, h]

/-- Off RC the accumulator advances, and the next tick takes its length from the reference (R43, R44, R46). -/
theorem Tmb.tick_reference {b : Tmb} (hs : b.source ≠ .rc) (ha : b.accumulator < 100) (trim : Int) :
    (b.tick trim).source = .reference ∧ (b.tick trim).accumulator = (b.accumulator + 68) % 100
      ∧ (b.tick trim).length = some ((if 32 ≤ b.accumulator then 328 else 327)
          + if (b.tick trim).subTick = 99 ∧ (b.tick trim).seconds = 63 then trim else 0) := by
  have hacc : nextAccumulator b.accumulator = (b.accumulator + 68) % 100 := by
    unfold nextAccumulator
    split <;> omega
  have hlength (l : Bool) : tickLength b.accumulator l trim =
      (if 32 ≤ b.accumulator then 328 else 327) + if l = true then trim else 0 :=
    congrArg (· + if l = true then trim else 0) (if_congr (by omega) rfl rfl)
  cases h : b.source with
  | rc => exact absurd h hs
  | reference => simp [Tmb.tick, h, hacc, hlength]
  | rcReturnPending => simp [Tmb.tick, h, hacc, hlength]

end Sys2Proof.Machine

namespace Sys2Proof.Machine

/-! ## The lines sampled at a tick event (O49) -/

theorem PerVault.make_get {α : Type} (p : PerVault α) : PerVault.make p.get = p := rfl

/-- The lines of a vault once a tick event has sampled them (R62): those of a vault that is not enabled stand. -/
def State.sampledAt (s : State) (r : Readings) (now : Instant) (v : Vault) : VaultLines :=
  if s.enabled v then (s.lines.get v).sample (r.vaults.get v) now else s.lines.get v

/-- The qualified changes that the sampling of a vault makes due (R63). -/
def State.sampledDue (s : State) (r : Readings) (now : Instant) (v : Vault) : List Due :=
  if s.enabled v then (s.sampledAt r now v).due v (s.group v).classes else []

/-- The state with the lines of one vault sampled. -/
def sampleVault (r : Readings) (now : Instant) (v : Vault) (s : State) : State :=
  { s.withLines v (s.sampledAt r now v) with due := s.due ++ s.sampledDue r now v }

theorem State.sampledAt_of_ne (s : State) (r : Readings) (now : Instant) {v w : Vault} (h : v ≠ w) :
    (sampleVault r now v s).sampledAt r now w = s.sampledAt r now w := by
  unfold sampleVault State.sampledAt State.withLines
  dsimp only
  rw [PerVault.get_set_of_ne _ _ h]
  rfl

theorem State.sampledDue_of_ne (s : State) (r : Readings) (now : Instant) {v w : Vault} (h : v ≠ w) :
    (sampleVault r now v s).sampledDue r now w = s.sampledDue r now w := by
  unfold State.sampledDue
  rw [State.sampledAt_of_ne s r now h]
  rfl

/-- Distinct vaults sampled in turn are each sampled from the lines before. -/
theorem foldl_sampleVault (r : Readings) (now : Instant) {l : List Vault} (hl : l.Nodup) (s : State) :
    l.foldl (fun s v => sampleVault r now v s) s =
      { s with
        lines := PerVault.make fun v => if v ∈ l then s.sampledAt r now v else s.lines.get v
        due := s.due ++ l.flatMap (s.sampledDue r now) } := by
  induction l generalizing s with
  | nil => simp [PerVault.make_get]
  | cons v l ih =>
    obtain ⟨hv, hl⟩ := List.nodup_cons.1 hl
    have hlines (w : Vault) : (if w ∈ l then (sampleVault r now v s).sampledAt r now w
        else (sampleVault r now v s).lines.get w) = if w ∈ v :: l then s.sampledAt r now w else s.lines.get w := by
      by_cases hw : w ∈ l
      · rw [if_pos hw, if_pos (List.mem_cons_of_mem v hw)]
        exact s.sampledAt_of_ne r now fun h => hv (h ▸ hw)
      · have hset : (sampleVault r now v s).lines.get w = if v = w then s.sampledAt r now v else s.lines.get w :=
          s.lines.get_set v w _
        rw [if_neg hw, hset]
        by_cases hvw : v = w
        · simp [hvw]
        · rw [if_neg hvw, if_neg (by simp [hw, Ne.symm hvw])]
    have hdue : l.flatMap ((sampleVault r now v s).sampledDue r now) = l.flatMap (s.sampledDue r now) :=
      List.flatMap_congr fun w hw => s.sampledDue_of_ne r now fun h => hv (h ▸ hw)
    rw [List.foldl_cons, ih hl, hdue]
    simp only [hlines]
    simp [sampleVault, State.withLines]

/-- The site lines once a tick event has sampled them (R62). -/
def State.sampledSite (s : State) (r : Readings) (now : Instant) : PerSite (Qualification Reading) :=
  PerSite.make fun i => (s.lqu.site.get i).sample (r.site.get i) now

/-- The qualified changes that the sampling of every line makes due (R63). -/
def State.lineEvents (s : State) (r : Readings) (now : Instant) : List Due :=
  Vault.all.flatMap (s.sampledDue r now)
    ++ (SiteLine.all.filter fun i => ((s.sampledSite r now).get i).reached Config.siteRun).map Due.siteLine

/-- All that the sampling of the lines does. -/
theorem sampleLines_eq (r : Readings) (s : State) : sampleLines r s =
    { s with
      lines := PerVault.make (s.sampledAt r s.cal.instant)
      lqu := { s.lqu with site := s.sampledSite r s.cal.instant }
      due := s.due ++ s.lineEvents r s.cal.instant } := by
  have hvault : (fun (v : Vault) (u : State) =>
      if u.enabled v = true then
        let x := (u.lines.get v).sample (r.vaults.get v) s.cal.instant
        { u.withLines v x with due := u.due ++ x.due v (u.group v).classes }
      else u) = sampleVault r s.cal.instant := by
    funext v u
    unfold sampleVault State.sampledDue State.sampledAt
    split
    · rfl
    · simp [State.withLines]
  unfold sampleLines
  dsimp only at hvault ⊢
  rw [hvault]
  unfold eachVault
  rw [foldl_sampleVault r s.cal.instant (by decide)]
  simp [Vault.mem_all, State.lineEvents, State.sampledSite]

/-- The combination count one tick later, where the combination stands and does not complete (R72). -/
def State.nextCount (s : State) : Nat :=
  if s.lqu.stands = true ∧ s.lqu.completed = false ∧ s.lqu.count + 1 < s.cfg.site.tComb * 100 then s.lqu.count + 1
  else s.lqu.count

theorem State.combinationDue_iff (s : State) : s.combinationDue = true ↔
    s.lqu.stands = true ∧ s.lqu.completed = false ∧ s.cfg.site.tComb * 100 ≤ s.lqu.count + 1 := by
  simp [State.combinationDue, and_assoc]

theorem tickCombination_eq (s : State) : tickCombination s =
    { s with
      lqu := { s.lqu with count := s.nextCount }
      due := s.due ++ if s.combinationDue = true then [.evacuation] else [] } := by
  have hdue := s.combinationDue_iff
  unfold tickCombination State.nextCount
  by_cases h : s.combinationDue = true
  · have hlt : ¬ s.lqu.count + 1 < s.cfg.site.tComb * 100 := Nat.not_lt.2 (hdue.1 h).2.2
    simp [h, hlt]
  · have hlt (hs : s.lqu.stands = true) (hc : s.lqu.completed = false) : s.lqu.count + 1 < s.cfg.site.tComb * 100 :=
      Nat.lt_of_not_le fun hle => h (hdue.2 ⟨hs, hc, hle⟩)
    by_cases hst : s.lqu.stands = true ∧ s.lqu.completed = false
    · obtain ⟨hs, hc⟩ := hst
      simp [h, hs, hc, hlt hs hc, State.withLqu]
    · have hn : ¬ (s.lqu.stands = true ∧ s.lqu.completed = false
          ∧ s.lqu.count + 1 < s.cfg.site.tComb * 100) := fun ⟨hs, hc, _⟩ => hst ⟨hs, hc⟩
      rw [if_neg h, if_neg hst, if_neg hn, if_neg h, List.append_nil]

/-! ### The whole tick event -/

/-- The tick event but for the lines: the time base, the calendar and every record that holds a timer change. -/
theorem ticked_eq (s : State) : ticked s =
    { s with
      link := if s.cal.endsLastDay = true then { s.link with waiting := { s.link.waiting with clock := true } } else s.link
      tmb := s.tmb.tick s.cfg.site.trim
      cal := s.cal.tick.1
      claims := PerVault.make fun v => (s.claimSet v).advance
      readers := PerVault.make fun v => (s.readers.get v).older
      pairs := PerVault.make fun v => (s.pair v).map PendingPair.tick
      doors := PerVault.make fun v => (s.door v).tick
      occ := PerVault.make fun v => (s.occupancy v).tick
      ssq := PerVault.make fun v => (s.sequencer v).tick
      atu := { s.atu with table := s.atu.table.map AlarmRecord.tick }
      due := s.due ++ s.timersDue } := by
  unfold ticked
  dsimp only
  split <;> rfl

/-- What the tick event brings about at the combination and the lines, from the configuration read on (R62, R72). -/
def State.sampleEvents (s : State) (r : Readings) (now : Instant) : List Due :=
  if s.configured = true then (if s.combinationDue = true then [.evacuation] else []) ++ s.lineEvents r now else []

/-- The tick event: what it does of time and the timers, and the lines sampled from the configuration read on (R43, R48,
R62). -/
theorem tickOnce_sampled (r : Readings) (s : State) : tickOnce r s =
    { ticked s with
      lines := if s.configured = true then PerVault.make (s.sampledAt r s.cal.tick.1.instant) else s.lines
      lqu := if s.configured = true
        then { s.lqu with site := s.sampledSite r s.cal.tick.1.instant, count := s.nextCount } else s.lqu
      due := s.due ++ (s.timersDue ++ s.sampleEvents r s.cal.tick.1.instant) } := by
  have hc : (ticked s).configured = s.configured := by rw [ticked_eq]; rfl
  rw [tickOnce_eq, hc]
  unfold State.sampleEvents
  split
  · rw [tickCombination_eq, sampleLines_eq, ticked_eq]
    simp only [List.append_assoc]
    rfl
  · rw [ticked_eq, List.append_nil]

end Sys2Proof.Machine

namespace Sys2Proof.Machine

/-! ## The events that a tick event brings about (O49) -/

/-- The events that the sampling of the lines and the combination count bring about, and no timer does. -/
def Due.sampled : Due → Bool
  | .evacuation | .line _ _ | .release _ | .siteLine _ => true
  | _ => false

theorem Due.mem_one {x y : Due} {p : Prop} [Decidable p] : x ∈ (if p then [y] else []) ↔ p ∧ x = y := by
  split <;> simp [*]

theorem Due.forall_mem_one {P : Due → Prop} {y : Due} {p : Prop} [Decidable p] :
    (∀ x ∈ (if p then [y] else []), P x) ↔ (p → P y) := by
  split <;> simp [*]

theorem lastTick_iff (o : Option Nat) : lastTick o = true ↔ o = some 1 := decide_eq_true_iff

/-- Every timer event of a vault names that vault. -/
theorem State.vaultDue_vault (s : State) (v : Vault) : ∀ x ∈ s.vaultDue v, x.vault = some v ∧ x.sampled = false := by
  simp only [State.vaultDue, DoorRecord.due, SsqRecord.due, List.forall_mem_append, Due.forall_mem_one]
  simp [Due.vault, Due.sampled]

theorem State.mem_timersDue (s : State) (x : Due) : x ∈ s.timersDue ↔
    (s.tmb.startUp = some 99 ∧ x = .startUpTimeout) ∨ (s.cal.tick.2 = true ∧ x = .minute)
      ∨ (∃ v, x ∈ s.vaultDue v) ∨ ∃ a ∈ s.atu.table, a.escalation = some 1 ∧ x = .escalation a.id := by
  simp only [State.timersDue, List.mem_append, Due.mem_one, List.mem_flatMap, Vault.mem_all, true_and, List.mem_map,
    List.mem_filter, Tmb.startUpDue, decide_eq_true_eq, lastTick_iff, or_assoc, and_assoc, eq_comm (a := x)]

theorem State.timersDue_sampled {s : State} {x : Due} (h : x ∈ s.timersDue) : x.sampled = false := by
  rcases (s.mem_timersDue x).1 h with ⟨-, rfl⟩ | ⟨-, rfl⟩ | ⟨v, hv⟩ | ⟨a, -, -, rfl⟩
  · rfl
  · rfl
  · exact (s.vaultDue_vault v x hv).2
  · rfl

/-- A timer event of a vault comes of that vault's records alone. -/
theorem State.mem_timersDue_vault {s : State} {x : Due} {v : Vault} (hx : x.vault = some v) :
    x ∈ s.timersDue ↔ x ∈ s.vaultDue v := by
  rw [State.mem_timersDue]
  constructor
  · rintro (⟨-, rfl⟩ | ⟨-, rfl⟩ | ⟨w, hw⟩ | ⟨a, -, -, rfl⟩)
    · cases hx
    · cases hx
    · obtain rfl : w = v := Option.some.inj ((s.vaultDue_vault w x hw).1.symm.trans hx)
      exact hw
    · cases hx
  · exact fun h => .inr (.inr (.inl ⟨v, h⟩))

/-- The timer events of no vault: the start-up timeout, the minute and the escalations. -/
theorem State.mem_timersDue_site {s : State} {x : Due} (hx : x.vault = none) : x ∈ s.timersDue ↔
    (s.tmb.startUp = some 99 ∧ x = .startUpTimeout) ∨ (s.cal.tick.2 = true ∧ x = .minute)
      ∨ ∃ a ∈ s.atu.table, a.escalation = some 1 ∧ x = .escalation a.id := by
  have hv (v : Vault) : ¬ x ∈ s.vaultDue v := fun h => by
    rw [(s.vaultDue_vault v x h).1] at hx
    cases hx
  simp only [State.mem_timersDue, hv, exists_false, false_or]

/-! ### The timer events of each record -/

theorem SsqRecord.abortDue_iff (q : SsqRecord) : q.abortDue = true ↔
    ∃ e, q.abortElapsed = some e ∧ 0 < q.committed.hMax ∧ q.committed.hMax * 10 ≤ e + 1 := by
  unfold SsqRecord.abortDue
  cases q.abortElapsed <;> simp

theorem State.mem_vaultDue_door (s : State) (v : Vault) :
    (Due.outerGrant v ∈ s.vaultDue v ↔ (s.door v).outerGrant.map OuterGrant.lapse = some 1)
      ∧ (Due.vaultGrant v ∈ s.vaultDue v ↔ (s.door v).vaultGrant.bind VaultGrant.lapse = some 1)
      ∧ (Due.egressRelease v ∈ s.vaultDue v ↔ (s.door v).egress = some 1)
      ∧ (Due.travel v ∈ s.vaultDue v ↔ (s.door v).travel = some 1)
      ∧ (Due.relock v ∈ s.vaultDue v ↔ (s.door v).relock = some 1)
      ∧ (Due.held v .outer ∈ s.vaultDue v ↔ (s.door v).outerHeld = some 1)
      ∧ (Due.held v .vault ∈ s.vaultDue v ↔ (s.door v).vaultHeld = some 1) := by
  simp [State.vaultDue, DoorRecord.due, SsqRecord.due, lastTick]

theorem State.mem_vaultDue_sequencer (s : State) (v : Vault) :
    (Due.countdown v ∈ s.vaultDue v ↔ (s.sequencer v).state = .countdown ∧ (s.sequencer v).remaining = some 1)
      ∧ (Due.abortHold v ∈ s.vaultDue v ↔ (s.sequencer v).abortDue = true)
      ∧ (Due.pulse v ∈ s.vaultDue v ↔ (s.sequencer v).pulse = some 1)
      ∧ (Due.confirmWait v ∈ s.vaultDue v ↔ (s.sequencer v).confirmWait = some 1)
      ∧ (Due.soak v ∈ s.vaultDue v ↔ (s.sequencer v).soak = some 1) := by
  simp [State.vaultDue, DoorRecord.due, SsqRecord.due, lastTick]

theorem State.mem_vaultDue_occupancy (s : State) (v : Vault) :
    (Due.chirp v ∈ s.vaultDue v ↔ (s.occupancy v).remaining = some 6001)
      ∧ (Due.loneWorker v ∈ s.vaultDue v ↔ (s.occupancy v).remaining = some 1) := by
  simp [State.vaultDue, DoorRecord.due, SsqRecord.due, lastTick]

theorem State.mem_vaultDue_pair (s : State) (v : Vault) :
    Due.pairWindow v ∈ s.vaultDue v ↔ (s.pair v).map PendingPair.window = some 1 := by
  simp [State.vaultDue, DoorRecord.due, SsqRecord.due, lastTick]

theorem State.mem_vaultDue_test (s : State) (v : Vault) :
    Due.testClaim v ∈ s.vaultDue v ↔ (s.claimSet v).test.map TestClaim.remaining = some 1 := by
  simp [State.vaultDue, DoorRecord.due, SsqRecord.due, lastTick]

/-! ### The events of the lines -/

theorem VaultLines.mem_due (x : VaultLines) (v : Vault) (classes : PerLine Nat) (d : Due) : d ∈ x.due v classes ↔
    (∃ l, (x.lines.get l).reached (classes.get l) = true ∧ Due.line v l = d)
      ∨ (x.release.reached Config.siteRun = true ∧ d = .release v) := by
  have hl (l : Line) : l ∈ Line.all := by cases l <;> decide
  simp [VaultLines.due, hl]

theorem State.mem_lineEvents (s : State) (r : Readings) (now : Instant) (d : Due) : d ∈ s.lineEvents r now ↔
    (∃ v, s.enabled v = true ∧ d ∈ (s.sampledAt r now v).due v (s.group v).classes)
      ∨ ∃ i, ((s.sampledSite r now).get i).reached Config.siteRun = true ∧ Due.siteLine i = d := by
  have hi (i : SiteLine) : i ∈ SiteLine.all := by cases i <;> decide
  simp [State.lineEvents, State.sampledDue, Vault.mem_all, hi]

theorem State.sampleEvents_sampled {s : State} {r : Readings} {now : Instant} {d : Due} (h : d ∈ s.sampleEvents r now) :
    d.sampled = true := by
  unfold State.sampleEvents at h
  split at h
  · rw [List.mem_append, Due.mem_one, State.mem_lineEvents] at h
    rcases h with ⟨-, rfl⟩ | ⟨v, -, hv⟩ | ⟨i, -, rfl⟩
    · rfl
    · rcases (VaultLines.mem_due _ _ _ _).1 hv with ⟨l, -, rfl⟩ | ⟨-, rfl⟩ <;> rfl
    · rfl
  · exact absurd h List.not_mem_nil

theorem Qualification.reached_iff {α : Type} (q : Qualification α) (n : Nat) :
    q.reached n = true ↔ q.candidate ≠ none ∧ n ≤ q.run := by
  simp [Qualification.reached, Option.isSome_iff_ne_none]

section
variable {s : State} (r : Readings) (now : Instant)

/-- The lines of a vault bring about their changes from the configuration read on, where the vault is enabled (R62, R63). -/
theorem State.mem_sampleEvents_vault (hc : s.configured = true) {v : Vault} (he : s.enabled v = true) {d : Due}
    (hd : d.vault = some v) :
    d ∈ s.sampleEvents r now ↔ d ∈ (s.sampledAt r now v).due v (s.group v).classes := by
  unfold State.sampleEvents
  rw [if_pos hc, List.mem_append, Due.mem_one, State.mem_lineEvents]
  constructor
  · rintro (⟨-, rfl⟩ | ⟨w, -, hw⟩ | ⟨i, -, rfl⟩)
    · cases hd
    · have hv : w = v := by
        rcases (VaultLines.mem_due _ _ _ _).1 hw with ⟨l, -, rfl⟩ | ⟨-, rfl⟩ <;> exact Option.some.inj hd
      exact hv ▸ hw
    · cases hd
  · exact fun h => .inr (.inl ⟨v, he, h⟩)

theorem State.mem_sampleEvents_line (hc : s.configured = true) {v : Vault} (he : s.enabled v = true) :
    (∀ l, Due.line v l ∈ s.sampleEvents r now ↔ ((s.sampledAt r now v).lines.get l).candidate ≠ none
        ∧ (s.group v).classes.get l ≤ ((s.sampledAt r now v).lines.get l).run)
      ∧ (Due.release v ∈ s.sampleEvents r now ↔
        (s.sampledAt r now v).release.candidate ≠ none ∧ 16 ≤ (s.sampledAt r now v).release.run) := by
  refine ⟨fun l => ?_, ?_⟩
  · rw [State.mem_sampleEvents_vault r now hc he rfl, VaultLines.mem_due, ← Qualification.reached_iff]
    simp
  · rw [State.mem_sampleEvents_vault r now hc he rfl, VaultLines.mem_due, ← Qualification.reached_iff]
    simp

theorem State.mem_sampleEvents_siteLine (hc : s.configured = true) (i : SiteLine) :
    Due.siteLine i ∈ s.sampleEvents r now ↔
      ((s.sampledSite r now).get i).candidate ≠ none ∧ 16 ≤ ((s.sampledSite r now).get i).run := by
  unfold State.sampleEvents
  rw [if_pos hc, ← Qualification.reached_iff]
  simp [State.mem_lineEvents, VaultLines.mem_due]

theorem State.mem_sampleEvents_evacuation : Due.evacuation ∈ s.sampleEvents r now ↔
    s.configured = true ∧ s.lqu.stands = true ∧ s.lqu.completed = false
      ∧ s.cfg.site.tComb * 100 ≤ s.lqu.count + 1 := by
  rw [← State.combinationDue_iff]
  unfold State.sampleEvents
  split <;> simp [*, State.mem_lineEvents, VaultLines.mem_due]

end

end Sys2Proof.Machine

namespace Sys2Proof.Machine

/-! ## The records one tick later (O49) -/

/-- A TEST claim counts down, and the cadence that drives the outputs counts within its period (R77, R78). -/
theorem ClaimSet.advance_eq (c : ClaimSet) : c.advance = { c with
    test := c.test.map fun x => { x with remaining := if x.remaining ≤ 1 then x.remaining else x.remaining - 1 }
    position := match c.drive with
      | none => c.position
      | some (.temporal, _) => (c.position + 1) % 400
      | some (.continuous, _) => c.position + 1
      | some (.fast, _) => (c.position + 1) % 50
      | some (.slow, _) => (c.position + 1) % 200
      | some (.chirp, _) => (c.position + 1) % 1000 } := by
  unfold ClaimSet.advance ClaimSet.tick
  cases c.drive with
  | none => rfl
  | some d =>
    obtain ⟨k, tone, strobe⟩ := d
    cases k <;> rfl

/-- The elapsed time of an abort hold counts up, but at its limit, which has an event of its own (R168). -/
theorem SsqRecord.tick_eq (q : SsqRecord) : q.tick = { q with
    remaining := if q.state = .countdown then countDown q.remaining else q.remaining
    abortElapsed := q.abortElapsed.map fun e =>
      if 0 < q.committed.hMax ∧ q.committed.hMax * 10 ≤ e + 1 then e else min 30000 (e + 1)
    pulse := countDown q.pulse
    confirmWait := countDown q.confirmWait
    soak := countDown q.soak } := by
  have helapsed : (if q.abortDue = true then q.abortElapsed else q.abortElapsed.map fun e => min 30000 (e + 1)) =
      q.abortElapsed.map fun e =>
        if 0 < q.committed.hMax ∧ q.committed.hMax * 10 ≤ e + 1 then e else min 30000 (e + 1) := by
    simp only [SsqRecord.abortDue_iff]
    cases q.abortElapsed with
    | none => simp
    | some e => by_cases hl : 0 < q.committed.hMax ∧ q.committed.hMax * 10 ≤ e + 1 <;> simp [hl]
  unfold SsqRecord.tick
  rw [helapsed]

/-- A lone worker's remaining time waits at the two ticks that have an event of their own (R151). -/
theorem VaultOccupancy.tick_eq (o : VaultOccupancy) : o.tick = { o with entries := o.entries.map fun e => { e with
    checkIn := e.checkIn.map fun n => if n = 6001 then n else if n ≤ 1 then n else n - 1 } } := by
  have hcheckIn : (fun n => if n ≤ 1 ∨ n = 6001 then n else n - 1) =
      fun n : Nat => if n = 6001 then n else if n ≤ 1 then n else n - 1 := by
    funext n
    (repeat' split) <;> omega
  unfold VaultOccupancy.tick Occupant.tick
  rw [hcheckIn]

section
variable (r : Readings) (s : State)

theorem tickOnce_link : (tickOnce r s).link =
    if s.cal.endsLastDay = true then { s.link with waiting := { s.link.waiting with clock := true } } else s.link := by
  rw [tickOnce_sampled, ticked_eq]

theorem tickOnce_tmb : (tickOnce r s).tmb = s.tmb.tick s.cfg.site.trim := by
  rw [tickOnce_sampled, ticked_eq]

theorem tickOnce_atu : (tickOnce r s).atu = { s.atu with table := s.atu.table.map AlarmRecord.tick } := by
  rw [tickOnce_sampled, ticked_eq]

theorem tickOnce_lqu : (tickOnce r s).lqu =
    { s.lqu with
      site := (tickOnce r s).lqu.site
      count := if s.configured = true ∧ s.lqu.stands = true ∧ s.lqu.completed = false
          ∧ s.lqu.count + 1 < s.cfg.site.tComb * 100
        then s.lqu.count + 1 else s.lqu.count } := by
  rw [tickOnce_sampled]
  by_cases hc : s.configured = true
  · simp [hc, State.nextCount]
  · simp [hc]

theorem tickOnce_lqu_unconfigured {s : State} (hc : s.configured = false) : (tickOnce r s).lqu = s.lqu := by
  rw [tickOnce_sampled, hc]
  rfl

/-- The site lines are sampled at the instant that the tick gives (R48, R62). -/
theorem tickOnce_site {s : State} (hc : s.configured = true) :
    (tickOnce r s).lqu.site = s.sampledSite r (tickOnce r s).cal.instant := by
  rw [tickOnce_cal, tickOnce_sampled, hc]
  rfl

/-- What the tick event leaves alone. -/
theorem tickOnce_frame : (tickOnce r s).array = s.array ∧ (tickOnce r s).nva = s.nva ∧ (tickOnce r s).index = s.index
    ∧ (tickOnce r s).failures = s.failures ∧ (tickOnce r s).cfg = s.cfg ∧ (tickOnce r s).mode = s.mode
    ∧ (tickOnce r s).auto = s.auto ∧ (tickOnce r s).supply = s.supply ∧ (tickOnce r s).phase = s.phase
    ∧ (tickOnce r s).rline = s.rline ∧ (tickOnce r s).globalHold = s.globalHold := by
  rw [tickOnce_sampled, ticked_eq]
  exact ⟨rfl, rfl, rfl, rfl, rfl, rfl, rfl, rfl, rfl, rfl, rfl⟩

theorem tickOnce_reader (a : ReaderAddress) : (tickOnce r s).reader a = (s.reader a).older := by
  rw [tickOnce_sampled, ticked_eq]
  unfold State.reader
  dsimp only
  rw [PerVault.get_make]
  cases a.position <;> rfl

section
variable (v : Vault)

theorem tickOnce_door : (tickOnce r s).door v = (s.door v).tick := by
  rw [tickOnce_sampled, ticked_eq]
  exact PerVault.get_make _ v

theorem tickOnce_sequencer : (tickOnce r s).sequencer v = (s.sequencer v).tick := by
  rw [tickOnce_sampled, ticked_eq]
  exact PerVault.get_make _ v

theorem tickOnce_occupancy : (tickOnce r s).occupancy v = (s.occupancy v).tick := by
  rw [tickOnce_sampled, ticked_eq]
  exact PerVault.get_make _ v

theorem tickOnce_pair : (tickOnce r s).pair v = (s.pair v).map PendingPair.tick := by
  rw [tickOnce_sampled, ticked_eq]
  exact PerVault.get_make _ v

theorem tickOnce_claimSet : (tickOnce r s).claimSet v = (s.claimSet v).advance := by
  rw [tickOnce_sampled, ticked_eq]
  exact PerVault.get_make _ v

theorem tickOnce_lines_at : (tickOnce r s).lines.get v =
    if s.configured = true then s.sampledAt r (tickOnce r s).cal.instant v else s.lines.get v := by
  rw [tickOnce_cal, tickOnce_sampled]
  dsimp only
  split
  · exact PerVault.get_make _ v
  · rfl

end

variable {s}

theorem mem_tickOnce_due (hs : s.due = []) (d : Due) : d ∈ (tickOnce r s).due ↔
    d ∈ s.timersDue ∨ d ∈ s.sampleEvents r s.cal.tick.1.instant := by
  rw [tickOnce_sampled, hs, List.nil_append, List.mem_append]

/-- An event that no line brings about waits after the tick where a timer does. -/
theorem mem_tickOnce_timer (hs : s.due = []) {d : Due} (hd : d.sampled = false) :
    d ∈ (tickOnce r s).due ↔ d ∈ s.timersDue := by
  rw [mem_tickOnce_due r hs]
  exact or_iff_left fun h => by simp [State.sampleEvents_sampled h] at hd

/-- The timer events of a vault after the tick. -/
theorem mem_tickOnce_vault (hs : s.due = []) {v : Vault} {d : Due} (hv : d.vault = some v) (hd : d.sampled = false) :
    d ∈ (tickOnce r s).due ↔ d ∈ s.vaultDue v :=
  (mem_tickOnce_timer r hs hd).trans (State.mem_timersDue_vault hv)

/-- The events of the lines and of the combination after the tick. -/
theorem mem_tickOnce_sampled (hs : s.due = []) {d : Due} (hd : d.sampled = true) :
    d ∈ (tickOnce r s).due ↔ d ∈ s.sampleEvents r s.cal.tick.1.instant := by
  rw [mem_tickOnce_due r hs]
  exact or_iff_right fun h => by simp [State.timersDue_sampled h] at hd

theorem mem_tickOnce_site (hs : s.due = []) :
    (Due.startUpTimeout ∈ (tickOnce r s).due ↔ s.tmb.startUp = some 99)
      ∧ (Due.minute ∈ (tickOnce r s).due ↔ s.cal.tick.2 = true)
      ∧ ∀ id, Due.escalation id ∈ (tickOnce r s).due ↔ ∃ x ∈ s.atu.table, x.id = id ∧ x.escalation = some 1 := by
  refine ⟨?_, ?_, fun id => ?_⟩
  · rw [mem_tickOnce_timer r hs rfl, State.mem_timersDue_site rfl]
    simp
  · rw [mem_tickOnce_timer r hs rfl, State.mem_timersDue_site rfl]
    simp
  · rw [mem_tickOnce_timer r hs rfl, State.mem_timersDue_site rfl]
    simp only [reduceCtorEq, false_and, false_or, Due.escalation.injEq, eq_comm (a := id), and_comm]

/-! ### The lines after the tick -/

/-- A line of a sampled vault, where its wiring can give the reading (R61, R62). -/
theorem VaultLines.sample_line (x : VaultLines) {r : VaultReadings} (now : Instant) {l : Line}
    (h : readable l (r.lines.get l) = true) :
    (x.sample r now).lines.get l = (x.lines.get l).sample (r.lines.get l) now :=
  (PerLine.get_make _ l).trans (if_pos h)

/-- The lines of an enabled vault are sampled at the instant that the tick gives (R48, R62). -/
theorem tickOnce_lines_sampled (hc : s.configured = true) {v : Vault} (he : s.enabled v = true) :
    (tickOnce r s).lines.get v = (s.lines.get v).sample (r.vaults.get v) (tickOnce r s).cal.instant := by
  rw [tickOnce_lines_at, if_pos hc]
  exact if_pos he

theorem tickOnce_lineRecord (hc : s.configured = true) {v : Vault} (he : s.enabled v = true) {l : Line}
    (hl : readable l ((r.vaults.get v).lines.get l) = true) : (tickOnce r s).lineRecord v l =
      (s.lineRecord v l).sample ((r.vaults.get v).lines.get l) (tickOnce r s).cal.instant :=
  (congrArg (fun x : VaultLines => x.lines.get l) (tickOnce_lines_sampled r hc he)).trans (VaultLines.sample_line _ _ hl)

/-- The lines of a vault that is not enabled, and all lines before the configuration read, stand (R62). -/
theorem tickOnce_lines_idle {v : Vault} (h : s.configured = false ∨ s.enabled v = false) :
    (tickOnce r s).lines.get v = s.lines.get v := by
  rw [tickOnce_lines_at]
  rcases h with hc | he
  · simp [hc]
  · simp [State.sampledAt, he]

/-- A change of a line of an enabled vault is due where its run has reached its count (R63, R64, R68). -/
theorem mem_tickOnce_line (hs : s.due = []) (hc : s.configured = true) {v : Vault} (he : s.enabled v = true) :
    (∀ l, Due.line v l ∈ (tickOnce r s).due ↔ ((tickOnce r s).lineRecord v l).candidate ≠ none
        ∧ (s.group v).classes.get l ≤ ((tickOnce r s).lineRecord v l).run)
      ∧ (Due.release v ∈ (tickOnce r s).due ↔ ((tickOnce r s).lines.get v).release.candidate ≠ none
        ∧ 16 ≤ ((tickOnce r s).lines.get v).release.run) := by
  have hlines : (tickOnce r s).lines.get v = s.sampledAt r s.cal.tick.1.instant v := by
    rw [tickOnce_lines_at, if_pos hc, tickOnce_cal]
  obtain ⟨hline, hrelease⟩ := State.mem_sampleEvents_line r s.cal.tick.1.instant hc he
  rw [← hlines] at hline hrelease
  exact ⟨fun l => (mem_tickOnce_sampled r hs rfl).trans (hline l), (mem_tickOnce_sampled r hs rfl).trans hrelease⟩

theorem mem_tickOnce_siteLine (hs : s.due = []) (hc : s.configured = true) (j : SiteLine) :
    Due.siteLine j ∈ (tickOnce r s).due ↔ ((tickOnce r s).lqu.site.get j).candidate ≠ none
      ∧ 16 ≤ ((tickOnce r s).lqu.site.get j).run := by
  rw [tickOnce_site r hc, tickOnce_cal]
  exact (mem_tickOnce_sampled r hs rfl).trans (State.mem_sampleEvents_siteLine r _ hc j)

end

/-- What one sample makes of a qualification record (R63). -/
theorem Qualification.sample_cases {α : Type} [DecidableEq α] (q : Qualification α) (x : α) (now : Instant) :
    (q.qualified = some x → q.sample x now = { q with candidate := none, run := 0, start := none, last := some x })
      ∧ (q.qualified ≠ some x → q.candidate = some x → q.sample x now = { q with run := q.run + 1, last := some x })
      ∧ (q.qualified ≠ some x → q.candidate ≠ some x →
          q.sample x now = { q with candidate := some x, run := 1, start := some now, last := some x }) :=
  ⟨fun h => if_pos h, fun h hc => (if_neg h).trans (if_pos hc), fun h hc => (if_neg h).trans (if_neg hc)⟩

/-- Settles O49: each record is the one that the equation of the tick event gives, and each event waits where the list of
the tick's events names it. -/
theorem theTickAdvancesTime : Obligations.TheTickAdvancesTime := by
  unfold Obligations.TheTickAdvancesTime
  intro s r hs hsound
  obtain ⟨hrange, hacc, -, hsub⟩ := (timeSound_iff s).1 hsound
  obtain ⟨hinstant, hminute⟩ := Cal.tick_minute hrange
  obtain ⟨hsubTick, hseconds, hstart⟩ := Tmb.tick_counts hsub s.cfg.site.trim
  obtain ⟨hstartDue, hminuteDue, hescalation⟩ := mem_tickOnce_site r hs.2
  have hvaultDue {v : Vault} {d : Due} := @mem_tickOnce_vault r s hs.2 v d
  have hcal := tickOnce_cal r s
  have htmb := tickOnce_tmb r s
  rw [← htmb] at hsubTick hseconds hstart
  refine ⟨tickOnce r s, settledEvent_awake _ hs, ?_, ?_, ?_, ?_, ?_, ?_, hminuteDue.trans hminute, hsubTick, hseconds, ?_, ?_,
    hstart, hstartDue, tickOnce_reader r s, fun v => ?_, fun v => ?_, fun v => ?_, fun v => ?_, fun v => ?_,
    tickOnce_atu r s, hescalation, tickOnce_lqu r s, ?_, fun v hc he => ?_, fun hc j => ?_,
    fun v => tickOnce_lines_idle r, tickOnce_lqu_unconfigured r, tickOnce_frame r s⟩
  -- the calendar
  · exact fun ht => by rw [hcal, Cal.tick_ticks ht]
  · exact fun ht h => by rw [hcal, Cal.tick_seconds ht h]
  · exact fun ht h hm => by rw [hcal, Cal.tick_minutes ht h hm]
  · exact fun ht h hm hd => by rw [hcal, Cal.tick_days ht h hm hd]
  · intro hlast
    rw [hcal, tickOnce_link, Cal.tick_wraps hlast, if_pos (Cal.endsLastDay_iff.2 hlast)]
    exact ⟨rfl, rfl⟩
  · intro hlast
    have hnot : s.cal.endsLastDay = false := Bool.eq_false_iff.2 fun h => hlast (Cal.endsLastDay_iff.1 h)
    rw [hcal, tickOnce_link, hnot]
    exact ⟨hinstant hnot, rfl⟩
  -- the time base
  · rw [htmb]
    exact fun hrc => Tmb.tick_rc hrc _
  · rw [htmb]
    exact fun hrc => Tmb.tick_reference hrc hacc _
  -- the timers of a vault: doors, sequencer, occupants, pending pair, claims
  · obtain ⟨houter, hvault, hegress, htravel, hrelock, houterHeld, hvaultHeld⟩ := s.mem_vaultDue_door v
    exact ⟨tickOnce_door r s v, (hvaultDue rfl rfl).trans houter, (hvaultDue rfl rfl).trans hvault,
      (hvaultDue rfl rfl).trans hegress, (hvaultDue rfl rfl).trans htravel, (hvaultDue rfl rfl).trans hrelock,
      (hvaultDue rfl rfl).trans houterHeld, (hvaultDue rfl rfl).trans hvaultHeld⟩
  · obtain ⟨hcountdown, habort, hpulse, hconfirm, hsoak⟩ := s.mem_vaultDue_sequencer v
    exact ⟨(tickOnce_sequencer r s v).trans (s.sequencer v).tick_eq, (hvaultDue rfl rfl).trans hcountdown,
      ((hvaultDue rfl rfl).trans habort).trans (s.sequencer v).abortDue_iff, (hvaultDue rfl rfl).trans hpulse,
      (hvaultDue rfl rfl).trans hconfirm, (hvaultDue rfl rfl).trans hsoak⟩
  · obtain ⟨hchirp, hlone⟩ := s.mem_vaultDue_occupancy v
    exact ⟨(tickOnce_occupancy r s v).trans (s.occupancy v).tick_eq, (hvaultDue rfl rfl).trans hchirp,
      (hvaultDue rfl rfl).trans hlone⟩
  · exact ⟨tickOnce_pair r s v, (hvaultDue rfl rfl).trans (s.mem_vaultDue_pair v)⟩
  · exact ⟨(tickOnce_claimSet r s v).trans (s.claimSet v).advance_eq, (hvaultDue rfl rfl).trans (s.mem_vaultDue_test v)⟩
  -- the combination and the lines
  · exact (mem_tickOnce_sampled r hs.2 rfl).trans (State.mem_sampleEvents_evacuation r _)
  · obtain ⟨hline, hrelease⟩ := mem_tickOnce_line r hs.2 hc he
    refine ⟨fun l hl => ?_, hline, ?_, hrelease⟩
    · rw [tickOnce_lineRecord r hc he hl]
      exact Qualification.sample_cases _ _ _
    · rw [tickOnce_lines_sampled r hc he]
      exact Qualification.sample_cases _ _ _
  · refine ⟨?_, mem_tickOnce_siteLine r hs.2 hc j⟩
    rw [tickOnce_site r hc, State.sampledSite, PerSite.get_make]
    exact Qualification.sample_cases _ _ _

end Sys2Proof.Machine

namespace Sys2Proof.Machine

/-! ## What the blocks of one vault do to the state -/

/-- What the laws of the vaults read: the phase with the scan position, the enabled vaults, the site functions of the LQU, the
reader line and the records of the vaults. -/
def State.blocks (s : State) : Phase × Nat × (Vault → Bool) × Lqu × ReaderLine × PerVault VaultLines × PerVault ClaimSet
    × PerVault VaultReaders × PerVault (Option PendingPair) × PerVault DoorRecord × PerVault VaultOccupancy
    × PerVault SsqRecord :=
  (s.phase, s.scanPos, s.enabled, s.lqu, s.rline, s.lines, s.claims, s.readers, s.pairs, s.doors, s.occ, s.ssq)

/-- The same with the records of one vault blanked. -/
def State.beyond (v : Vault) (s : State) : Phase × Nat × (Vault → Bool) × Lqu × ReaderLine × PerVault VaultLines
    × PerVault ClaimSet × PerVault VaultReaders × PerVault (Option PendingPair) × PerVault DoorRecord
    × PerVault VaultOccupancy × PerVault SsqRecord :=
  (s.phase, s.scanPos, s.enabled, s.lqu, s.rline, s.lines.set v resetLines, s.claims.set v noClaims,
    s.readers.set v resetReaders, s.pairs.set v none, s.doors.set v resetDoor, s.occ.set v resetOccupancy,
    s.ssq.set v (resetSsq defaultSuppression))

/-- What the laws of a door record read: the outer door's state and grant, the vault door's state and the emergency
condition. -/
def DoorRecord.lawPart (d : DoorRecord) : OuterState × Option OuterOrigin × VaultState × Bool :=
  (d.outer, d.outerGrant.map OuterGrant.origin, d.vault, d.emergency)

/-- The laws of a door record: the interlock (R125, R134), and under the emergency condition an outer door EMERGENCY-UNLOCKED
with no grant (R136). -/
def DoorRecord.lawful (d : DoorRecord) : Prop :=
  d.interlocked = true ∧ (d.emergency = true → d.outer = .emergencyUnlocked ∧ d.outerGrant = none)

theorem DoorRecord.lawful_iff (d : DoorRecord) : d.lawful ↔
    (∀ o, d.outerGrant.map OuterGrant.origin = some o → o = .egress ∨ d.vault = .secured)
      ∧ (d.outer = .unlocked ↔ d.outerGrant.map OuterGrant.origin ≠ none)
      ∧ (d.emergency = true → d.outer = .emergencyUnlocked ∧ d.outerGrant.map OuterGrant.origin = none) := by
  unfold DoorRecord.lawful DoorRecord.interlocked
  cases d.outerGrant <;> simp [and_assoc]

theorem DoorRecord.lawful_congr {d e : DoorRecord} (h : d.lawPart = e.lawPart) : d.lawful ↔ e.lawful := by
  simp only [DoorRecord.lawPart, Prod.mk.injEq] at h
  obtain ⟨ho, hg, hv, he⟩ := h
  rw [d.lawful_iff, e.lawful_iff, ho, hg, hv, he]

/-- The emergency condition of a vault's doors stands while its SSQ is INHIBITED (R136, R165). -/
def State.releasedAt (s : State) (v : Vault) : Prop :=
  (s.sequencer v).state = .inhibited → (s.door v).emergency = true

/-- The doors of a vault keep their laws, and stand under the emergency condition where the SSQ asks for it. -/
def State.wholeAt (s : State) (v : Vault) : Prop := (s.door v).lawful ∧ s.releasedAt v

/-- The SSQ's claim at an enabled vault is the one that its state gives (R75, R162). -/
def State.claimedAt (s : State) (v : Vault) : Prop :=
  s.enabled v = true → (s.claimSet v).ssq = stateClaim (s.sequencer v).state

/-- What no change of a vault's records touches that leaves its SSQ's state and claim: all beyond the records of the vault, the
state of its SSQ and the SSQ's claim. -/
def State.doorFrame (v : Vault) (s : State) := (s.beyond v, (s.sequencer v).state, (s.claimSet v).ssq)

/-- A change of one vault's records that leaves the state and the claim of its SSQ, keeps the laws of its doors and does not end
their emergency condition. -/
structure DoorStep (v : Vault) (s t : State) : Prop where
  frame : t.doorFrame v = s.doorFrame v
  lawful : (s.door v).lawful → (t.door v).lawful
  emergency : (s.door v).lawful → (s.door v).emergency = true → (t.door v).emergency = true

/-- What the blocks of one vault do: they touch nothing beyond the records of that vault, and keep the laws of its doors, of
the emergency release and of the SSQ's claim. -/
structure VaultStep (v : Vault) (s t : State) : Prop where
  beyond : t.beyond v = s.beyond v
  whole : s.wholeAt v → t.wholeAt v
  claimed : s.claimedAt v → t.claimedAt v

theorem State.beyond_blocks {s t : State} (v : Vault) (h : t.blocks = s.blocks) : t.beyond v = s.beyond v := by
  simp only [State.blocks, Prod.mk.injEq] at h
  obtain ⟨h1, h2, h3, h4, h5, h6, h7, h8, h9, h10, h11, h12⟩ := h
  simp only [State.beyond, h1, h2, h3, h4, h5, h6, h7, h8, h9, h10, h11, h12]

theorem State.enabled_of_beyond {v : Vault} {s t : State} (h : t.beyond v = s.beyond v) : t.enabled = s.enabled :=
  congrArg (fun x => x.2.2.1) h

theorem State.doorFrame_blocks {s t : State} (v : Vault) (h : t.blocks = s.blocks) : t.doorFrame v = s.doorFrame v := by
  have hb := State.beyond_blocks v h
  simp only [State.blocks, Prod.mk.injEq] at h
  obtain ⟨-, -, -, -, -, -, hc, -, -, -, -, hq⟩ := h
  simp only [State.doorFrame, hb, State.sequencer, State.claimSet, hq, hc]

/-! ### A record of the vault replaced -/

theorem State.withDoor_beyond (s : State) (v : Vault) (d : DoorRecord) : (s.withDoor v d).beyond v = s.beyond v := by
  simp [State.beyond]
  rfl

theorem State.withSequencer_beyond (s : State) (v : Vault) (q : SsqRecord) : (s.withSequencer v q).beyond v = s.beyond v := by
  simp [State.beyond]
  rfl

theorem State.withClaimSet_beyond (s : State) (v : Vault) (c : ClaimSet) : (s.withClaimSet v c).beyond v = s.beyond v := by
  simp [State.beyond]
  rfl

theorem State.withOccupancy_beyond (s : State) (v : Vault) (o : VaultOccupancy) : (s.withOccupancy v o).beyond v = s.beyond v := by
  simp [State.beyond]
  rfl

theorem State.withPair_beyond (s : State) (v : Vault) (p : Option PendingPair) : (s.withPair v p).beyond v = s.beyond v := by
  simp [State.beyond]
  rfl

theorem State.withReaders_beyond (s : State) (v : Vault) (r : VaultReaders) : (s.withReaders v r).beyond v = s.beyond v := by
  simp [State.beyond]
  rfl

theorem State.withLines_beyond (s : State) (v : Vault) (l : VaultLines) : (s.withLines v l).beyond v = s.beyond v := by
  simp [State.beyond]
  rfl

namespace DoorStep

variable {v : Vault} {s₀ s t : State}

theorem refl (v : Vault) (s : State) : DoorStep v s s := ⟨rfl, id, fun _ h => h⟩

theorem trans (h : DoorStep v s₀ s) (h' : DoorStep v s t) : DoorStep v s₀ t :=
  ⟨h'.frame.trans h.frame, h'.lawful ∘ h.lawful, fun hl he => h'.emergency (h.lawful hl) (h.emergency hl he)⟩

/-- A change that keeps the laws of the doors. -/
theorem doors (h : DoorStep v s₀ s) (hf : t.doorFrame v = s.doorFrame v) (hl : (s.door v).lawful → (t.door v).lawful)
    (he : (s.door v).lawful → (s.door v).emergency = true → (t.door v).emergency = true) : DoorStep v s₀ t :=
  h.trans ⟨hf, hl, he⟩

/-- A change of which the laws of the doors read nothing. -/
theorem kept (h : DoorStep v s₀ s) (hf : t.doorFrame v = s.doorFrame v) (hd : (t.door v).lawPart = (s.door v).lawPart) :
    DoorStep v s₀ t :=
  h.doors hf (DoorRecord.lawful_congr hd).2 fun _ he => (congrArg (fun x => x.2.2.2) hd).trans he

theorem of_blocks (h : DoorStep v s₀ s) (hb : t.blocks = s.blocks) : DoorStep v s₀ t := by
  have hf := State.doorFrame_blocks v hb
  simp only [State.blocks, Prod.mk.injEq] at hb
  obtain ⟨-, -, -, -, -, -, -, -, -, hd, -, -⟩ := hb
  exact h.kept hf (by simp only [State.door, hd])

/-- A door record replaced by one that keeps the laws, where the emergency condition does not end. -/
theorem door (h : DoorStep v s₀ s) {d : DoorRecord} (hl : (s.door v).lawful → d.lawful)
    (he : (s.door v).emergency = true → d.emergency = true) : DoorStep v s₀ (s.withDoor v d) :=
  h.doors (congrArg (·, (s.sequencer v).state, (s.claimSet v).ssq) (State.withDoor_beyond s v d))
    (fun hs => by simpa using hl hs) fun _ hem => by simpa using he hem

theorem withDoor (h : DoorStep v s₀ s) {d : DoorRecord} (hd : d.lawPart = (s.door v).lawPart) :
    DoorStep v s₀ (s.withDoor v d) :=
  h.door (DoorRecord.lawful_congr hd).2 fun he => (congrArg (fun x => x.2.2.2) hd).trans he

theorem withSequencer (h : DoorStep v s₀ s) {q : SsqRecord} (hq : q.state = (s.sequencer v).state) :
    DoorStep v s₀ (s.withSequencer v q) :=
  h.kept (by simp [State.doorFrame, State.withSequencer_beyond, State.claimSet, hq]) rfl

theorem withClaimSet (h : DoorStep v s₀ s) {c : ClaimSet} (hc : c.ssq = (s.claimSet v).ssq) :
    DoorStep v s₀ (s.withClaimSet v c) :=
  h.kept (by simp [State.doorFrame, State.withClaimSet_beyond, State.sequencer, hc]) rfl

theorem withOccupancy (o : VaultOccupancy) (h : DoorStep v s₀ s) : DoorStep v s₀ (s.withOccupancy v o) :=
  h.kept (congrArg (·, (s.sequencer v).state, (s.claimSet v).ssq) (State.withOccupancy_beyond s v o)) rfl

theorem withPair (p : Option PendingPair) (h : DoorStep v s₀ s) : DoorStep v s₀ (s.withPair v p) :=
  h.kept (congrArg (·, (s.sequencer v).state, (s.claimSet v).ssq) (State.withPair_beyond s v p)) rfl

theorem withReaders (r : VaultReaders) (h : DoorStep v s₀ s) : DoorStep v s₀ (s.withReaders v r) :=
  h.kept (congrArg (·, (s.sequencer v).state, (s.claimSet v).ssq) (State.withReaders_beyond s v r)) rfl

theorem withLines (l : VaultLines) (h : DoorStep v s₀ s) : DoorStep v s₀ (s.withLines v l) :=
  h.kept (congrArg (·, (s.sequencer v).state, (s.claimSet v).ssq) (State.withLines_beyond s v l)) rfl

theorem withLineRecord (l : Line) (q : Qualification Reading) (h : DoorStep v s₀ s) :
    DoorStep v s₀ (s.withLineRecord v l q) := h.withLines _

theorem withRelease (q : Qualification Circuit) (h : DoorStep v s₀ s) : DoorStep v s₀ (s.withRelease v q) := h.withLines _

theorem ite {p : Prop} [Decidable p] {a b : State} (ha : DoorStep v s₀ a) (hb : DoorStep v s₀ b) :
    DoorStep v s₀ (if p then a else b) := by
  split
  · exact ha
  · exact hb

end DoorStep

namespace VaultStep

variable {v : Vault} {s₀ s t : State}

theorem refl (v : Vault) (s : State) : VaultStep v s s := ⟨rfl, id, id⟩

theorem trans (h : VaultStep v s₀ s) (h' : VaultStep v s t) : VaultStep v s₀ t :=
  ⟨h'.beyond.trans h.beyond, h'.whole ∘ h.whole, h'.claimed ∘ h.claimed⟩

/-- A change that leaves the SSQ's state and claim. -/
theorem run (h : VaultStep v s₀ s) (h' : DoorStep v s t) : VaultStep v s₀ t := by
  have hf := h'.frame
  simp only [State.doorFrame, Prod.mk.injEq] at hf
  obtain ⟨hb, hq, hc⟩ := hf
  refine h.trans ⟨hb, fun hw => ⟨h'.lawful hw.1, fun hi => h'.emergency hw.1 (hw.2 (hq ▸ hi))⟩, fun hcl hen => ?_⟩
  rw [hc, hq]
  exact hcl (State.enabled_of_beyond hb ▸ hen)

theorem ite {p : Prop} [Decidable p] {a b : State} (ha : VaultStep v s₀ a) (hb : VaultStep v s₀ b) :
    VaultStep v s₀ (if p then a else b) := by
  split
  · exact ha
  · exact hb

end VaultStep

theorem DoorStep.toVault {v : Vault} {s t : State} (h : DoorStep v s t) : VaultStep v s t := (VaultStep.refl v s).run h

end Sys2Proof.Machine

namespace Sys2Proof.Machine

/-! ### What a change of a door record leaves alone -/

@[simp] theorem State.withDoor_doorFrame (s : State) (v : Vault) (d : DoorRecord) :
    (s.withDoor v d).doorFrame v = s.doorFrame v := by
  simp [State.doorFrame, State.withDoor_beyond, State.sequencer, State.claimSet]

theorem raised_blocks (key : AlarmKey) (s : State) : (raised key s).blocks = s.blocks := by
  rw [raised_eq]
  rfl

theorem endCondition_blocks (key : AlarmKey) (s : State) : (endCondition key s).blocks = s.blocks := by
  rw [endCondition_eq]
  rfl

@[simp] theorem endCondition_doorFrame (v : Vault) (key : AlarmKey) (s : State) :
    (endCondition key s).doorFrame v = s.doorFrame v := State.doorFrame_blocks v (endCondition_blocks key s)

@[simp] theorem endCondition_door (v : Vault) (key : AlarmKey) (s : State) : (endCondition key s).door v = s.door v := by
  rw [endCondition_eq]
  rfl

theorem ClaimSet.changed_ssq (c d : ClaimSet) : (c.changed d).ssq = d.ssq := by
  unfold ClaimSet.changed
  split <;> rfl

@[simp] theorem claim_door (v w : Vault) (f : ClaimSet → ClaimSet) (s : State) : (claim v f s).door w = s.door w := by
  unfold claim
  split <;> rfl

theorem claim_doorFrame (v : Vault) {f : ClaimSet → ClaimSet} (hf : ∀ c, (f c).ssq = c.ssq) (s : State) :
    (claim v f s).doorFrame v = s.doorFrame v := by
  unfold claim
  split
  · simp [State.doorFrame, State.withClaimSet_beyond, ClaimSet.changed_ssq, hf, State.sequencer]
  · rfl

@[simp] theorem claimForced_doorFrame (v : Vault) (d : Door) (b : Bool) (s : State) :
    (claimForced v d b s).doorFrame v = s.doorFrame v := claim_doorFrame v (fun _ => by cases d <;> rfl) s

@[simp] theorem claimHeld_doorFrame (v : Vault) (d : Door) (b : Bool) (s : State) :
    (claimHeld v d b s).doorFrame v = s.doorFrame v := claim_doorFrame v (fun _ => by cases d <;> rfl) s

@[simp] theorem putDoor_doorFrame (v : Vault) (d : DoorRecord) (s : State) :
    (putDoor v d s).doorFrame v = s.doorFrame v := by
  rw [putDoor_eq]
  exact State.withDoor_doorFrame s v d

@[simp] theorem DoorRecord.setForced_lawPart (d : DoorRecord) (which : Door) (b : Bool) :
    (d.setForced which b).lawPart = d.lawPart := by cases which <;> rfl

@[simp] theorem DoorRecord.setHeld_lawPart (d : DoorRecord) (which : Door) (b : Bool) :
    (d.setHeld which b).lawPart = d.lawPart := by cases which <;> rfl

@[simp] theorem endForced_doorFrame (v : Vault) (which : Door) (s : State) :
    (endForced v which s).doorFrame v = s.doorFrame v := by
  unfold endForced
  split <;> simp

@[simp] theorem endForced_lawPart (v : Vault) (which : Door) (s : State) :
    ((endForced v which s).door v).lawPart = (s.door v).lawPart := by
  unfold endForced
  split <;> simp [claimForced]

@[simp] theorem endFaults_doorFrame (v : Vault) (s : State) : (endFaults v s).doorFrame v = s.doorFrame v := by
  unfold endFaults
  dsimp only
  (repeat' split) <;> simp

@[simp] theorem endFaults_lawPart (v : Vault) (s : State) :
    ((endFaults v s).door v).lawPart = (s.door v).lawPart := by
  unfold endFaults
  dsimp only
  (repeat' split) <;> simp [DoorRecord.lawPart]

@[simp] theorem setOuter_doorFrame (v : Vault) (o : OuterState) (s : State) :
    (setOuter v o s).doorFrame v = s.doorFrame v := by
  unfold setOuter
  dsimp only
  split <;> simp

theorem setOuter_lawPart (v : Vault) (o : OuterState) (s : State) :
    ((setOuter v o s).door v).lawPart = ({ s.door v with outer := o } : DoorRecord).lawPart := by
  unfold setOuter
  dsimp only
  split <;> simp [putDoor_door]

@[simp] theorem withdrawOuter_doorFrame (v : Vault) (s : State) :
    (withdrawOuter v s).doorFrame v = s.doorFrame v := by
  unfold withdrawOuter
  dsimp only
  (repeat' split) <;> simp

/-- A withdrawal leaves no grant but one of origin EGRESS, and locks an outer door that a withdrawn grant had unlocked
(R134). -/
theorem withdrawOuter_lawPart (v : Vault) (s : State) :
    ((withdrawOuter v s).door v).lawPart = (s.door v).lawPart
        ∧ (∀ o, (s.door v).outerGrant.map OuterGrant.origin = some o → o = .egress)
      ∨ ((withdrawOuter v s).door v).lawPart =
          (if (s.door v).outer = .unlocked then .locked else (s.door v).outer, none, (s.door v).vault, (s.door v).emergency)
        ∧ (s.door v).outerGrant ≠ none := by
  unfold withdrawOuter
  split
  · next h => exact .inl ⟨rfl, by simp [h]⟩
  · next g h =>
    split
    · next he => exact .inl ⟨rfl, by simp [h, he]⟩
    · refine .inr ⟨?_, by simp [h]⟩
      simp only [putDoor_door]
      split
      · rw [setOuter_lawPart, putDoor_door]
        rfl
      · rw [putDoor_door]
        rfl

@[simp] theorem setVaultState_doorFrame (v : Vault) (st : VaultState) (s : State) :
    (setVaultState v st s).doorFrame v = s.doorFrame v := by
  unfold setVaultState
  dsimp only
  (repeat' split) <;> simp

/-- A change of the vault door's state keeps the laws of the door: where SECURED is left, the interlock withdraws an entry
grant (R134). -/
theorem setVaultState_doorLaws (v : Vault) (st : VaultState) {s : State} (h : (s.door v).lawful) :
    ((setVaultState v st s).door v).lawful
      ∧ ((setVaultState v st s).door v).emergency = (s.door v).emergency := by
  obtain ⟨ho, hu, he⟩ := (DoorRecord.lawful_iff _).1 h
  obtain ⟨a, ha⟩ : ∃ a, a = (if st = .secured then endFaults v (endForced v .vault (putDoor v { s.door v with vault := st } s))
      else if st = .released then endFaults v (putDoor v { s.door v with vault := st } s)
      else putDoor v { s.door v with vault := st } s) := ⟨_, rfl⟩
  have hp : (a.door v).lawPart = ({ s.door v with vault := st } : DoorRecord).lawPart := by
    rw [ha]
    (repeat' split) <;> simp [putDoor_door]
  have hset : setVaultState v st s = if (s.door v).vault = .secured ∧ st ≠ .secured then withdrawOuter v a else a := by
    rw [ha]
    rfl
  simp only [DoorRecord.lawPart, Prod.mk.injEq] at hp
  obtain ⟨hpo, hpg, hpv, hpe⟩ := hp
  rw [hset]
  split
  · next hleft =>
    rcases withdrawOuter_lawPart v a with ⟨hw, hor⟩ | ⟨hw, hg⟩ <;>
      simp only [DoorRecord.lawPart, Prod.mk.injEq] at hw <;> obtain ⟨hwo, hwg, hwv, hwe⟩ := hw
    · refine ⟨(DoorRecord.lawful_iff _).2 ?_, hwe.trans hpe⟩
      rw [hwo, hwg, hwe, hpo, hpg, hpe]
      exact ⟨fun o hgo => .inl (hor o (hpg.trans hgo)), hu, he⟩
    · refine ⟨(DoorRecord.lawful_iff _).2 ?_, hwe.trans hpe⟩
      rw [hwo, hwg, hwe, hpo, hpe]
      refine ⟨by simp, by simp; split <;> simp_all, fun hem => ⟨?_, rfl⟩⟩
      rw [if_neg (by simp [he hem]), (he hem).1]
  · next hstay =>
    refine ⟨(DoorRecord.lawful_iff _).2 ?_, hpe⟩
    rw [hpo, hpg, hpv, hpe]
    refine ⟨fun o hgo => (ho o hgo).imp_right fun hs => ?_, hu, he⟩
    by_contra hst
    exact hstay ⟨hs, hst⟩

end Sys2Proof.Machine

namespace Sys2Proof.Machine

/-! ### The claims and the alarms -/

section
variable {v : Vault} {s₀ s : State}

theorem causeAlarms_step (h : DoorStep v s₀ s) : DoorStep v s₀ (causeAlarms s) := h.of_blocks rfl
theorem causeOccupancy_step (h : DoorStep v s₀ s) : DoorStep v s₀ (causeOccupancy s) := h.of_blocks rfl
theorem causeSuppression_step (h : DoorStep v s₀ s) : DoorStep v s₀ (causeSuppression s) := h.of_blocks rfl
theorem causeDoors_step (h : DoorStep v s₀ s) : DoorStep v s₀ (causeDoors s) := h.of_blocks rfl
theorem causeVerdict_step (h : DoorStep v s₀ s) : DoorStep v s₀ (causeVerdict s) := h.of_blocks rfl

theorem claim_step (h : DoorStep v s₀ s) {f : ClaimSet → ClaimSet} (hf : ∀ c, (f c).ssq = c.ssq) :
    DoorStep v s₀ (claim v f s) :=
  h.doors (claim_doorFrame v hf s) (by rw [claim_door]; exact id) fun _ he => by rw [claim_door]; exact he

theorem claimForced_step (d : Door) (b : Bool) (h : DoorStep v s₀ s) : DoorStep v s₀ (claimForced v d b s) :=
  claim_step h fun _ => by cases d <;> rfl

theorem claimHeld_step (d : Door) (b : Bool) (h : DoorStep v s₀ s) : DoorStep v s₀ (claimHeld v d b s) :=
  claim_step h fun _ => by cases d <;> rfl

theorem claimChirp_step (b : Bool) (h : DoorStep v s₀ s) : DoorStep v s₀ (claimChirp v b s) :=
  claim_step h fun _ => rfl

theorem claimSiteEvacuate_step (b : Bool) (h : DoorStep v s₀ s) : DoorStep v s₀ (claimSiteEvacuate v b s) :=
  claim_step h fun _ => rfl

theorem endTest_step (h : DoorStep v s₀ s) : DoorStep v s₀ (endTest v s) := claim_step h fun _ => rfl

theorem claimTest_step (x : TestClaim) (h : DoorStep v s₀ s) : DoorStep v s₀ (claimTest v x s) := by
  have hc := claim_step h (f := fun c => { c with test := some x }) fun _ => rfl
  unfold claimTest
  dsimp only
  split
  · exact hc.withClaimSet rfl
  · exact hc

theorem raised_step (key : AlarmKey) (h : DoorStep v s₀ s) : DoorStep v s₀ (raised key s) :=
  h.of_blocks (raised_blocks key s)

theorem raise_step (key : AlarmKey) (h : DoorStep v s₀ s) : DoorStep v s₀ (raise key s).1 := raised_step key h

theorem endCondition_step (key : AlarmKey) (h : DoorStep v s₀ s) : DoorStep v s₀ (endCondition key s) :=
  h.of_blocks (endCondition_blocks key s)

theorem lineFault_step (id : LineIdentity) (new : Reading) (h : DoorStep v s₀ s) :
    DoorStep v s₀ (lineFault id new s) := by
  unfold lineFault
  split
  · exact raised_step _ h
  · exact raised_step _ h
  · exact endCondition_step _ h
  · exact endCondition_step _ h

theorem withReader_step {a : ReaderAddress} (ha : a.vault = v) (r : ReaderRecord) (h : DoorStep v s₀ s) :
    DoorStep v s₀ (s.withReader a r) := by
  subst ha
  exact h.withReaders _

theorem handVerdict_step {a : ReaderAddress} (ha : a.vault = v) (x : Verdict) (k : Option Nat) (h : DoorStep v s₀ s) :
    DoorStep v s₀ (handVerdict a x k s) := by
  unfold handVerdict
  split
  · exact causeVerdict_step (withReader_step ha _ h)
  · exact h

theorem lapsePair_step (h : DoorStep v s₀ s) : DoorStep v s₀ (lapsePair v s) := by
  unfold lapsePair
  split
  · exact h
  · exact handVerdict_step (a := ⟨v, .inner⟩) rfl _ _ (h.withPair none)

/-! ### The DSQ -/

theorem putDoor_step (h : DoorStep v s₀ s) {d : DoorRecord} (hd : d.lawPart = (s.door v).lawPart) :
    DoorStep v s₀ (putDoor v d s) := by
  unfold putDoor
  exact DoorStep.ite (h.withDoor hd) (causeDoors_step (h.withDoor hd))

theorem raiseForced_step (which : Door) (h : DoorStep v s₀ s) : DoorStep v s₀ (raiseForced v which s) := by
  have hr := raise_step (doorKey .doorForced v (.door which)) (h.withDoor (DoorRecord.setForced_lawPart _ which true))
  unfold raiseForced
  dsimp only
  split
  · exact claimForced_step which true hr
  · exact hr

theorem raiseHeld_step (which : Door) (h : DoorStep v s₀ s) : DoorStep v s₀ (raiseHeld v which s) := by
  have hr := raise_step (doorKey .doorHeld v (.door which)) (h.withDoor (DoorRecord.setHeld_lawPart _ which true))
  unfold raiseHeld
  dsimp only
  split
  · exact claimHeld_step which true hr
  · exact hr

theorem raiseFault_step (drive : Drive) (h : DoorStep v s₀ s) : DoorStep v s₀ (raiseFault v drive s) :=
  raised_step _ (h.withDoor (by cases drive <;> rfl))

theorem endForced_step (which : Door) (h : DoorStep v s₀ s) : DoorStep v s₀ (endForced v which s) := by
  unfold endForced
  exact DoorStep.ite (endCondition_step _ (claimForced_step which false
    (h.withDoor (DoorRecord.setForced_lawPart _ which false)))) h

theorem endHeld_step (which : Door) (h : DoorStep v s₀ s) : DoorStep v s₀ (endHeld v which s) := by
  unfold endHeld
  exact DoorStep.ite (endCondition_step _ (claimHeld_step which false
    (h.withDoor (DoorRecord.setHeld_lawPart _ which false)))) h

/-- The outer door takes a state that its grant and its emergency condition allow. -/
theorem setOuter_step {o : OuterState} (h : DoorStep v s₀ s)
    (hl : (s.door v).lawful → ({ s.door v with outer := o } : DoorRecord).lawful) : DoorStep v s₀ (setOuter v o s) := by
  have hp := setOuter_lawPart v o s
  refine h.doors (setOuter_doorFrame v o s) ((DoorRecord.lawful_congr hp).2 ∘ hl) fun _ he => ?_
  exact (congrArg (fun x => x.2.2.2) hp).trans he

theorem withdrawOuter_step (h : DoorStep v s₀ s) : DoorStep v s₀ (withdrawOuter v s) := by
  refine h.doors (withdrawOuter_doorFrame v s) (fun hs => ?_) fun _ hr => ?_
  all_goals
    rcases withdrawOuter_lawPart v s with ⟨hw, -⟩ | ⟨hw, hg⟩
  · exact (DoorRecord.lawful_congr hw).2 hs
  · obtain ⟨-, hu, he⟩ := (DoorRecord.lawful_iff _).1 hs
    simp only [DoorRecord.lawPart, Prod.mk.injEq] at hw
    obtain ⟨hwo, hwg, -, hwe⟩ := hw
    refine (DoorRecord.lawful_iff _).2 ?_
    rw [hwo, hwg, hwe]
    refine ⟨by simp, by split <;> simp_all, fun hem => absurd (he hem).2 (by simpa using hg)⟩
  · exact (congrArg (fun x => x.2.2.2) hw).trans hr
  · exact (congrArg (fun x => x.2.2.2) hw).trans hr

theorem setVaultState_step (st : VaultState) (h : DoorStep v s₀ s) : DoorStep v s₀ (setVaultState v st s) :=
  h.doors (setVaultState_doorFrame v st s) (fun hs => (setVaultState_doorLaws v st hs).1)
    fun hs hr => (setVaultState_doorLaws v st hs).2.trans hr

theorem startRetract_step (h : DoorStep v s₀ s) : DoorStep v s₀ (startRetract v s) := by
  have hs := setVaultState_step .retracting (h.withDoor
    (d := { s.door v with travel := some (s.travelTicks v), relock := none }) rfl)
  unfold startRetract
  exact DoorStep.ite (setVaultState_step _ (hs.withDoor rfl)) hs

theorem startExtend_step (h : DoorStep v s₀ s) : DoorStep v s₀ (startExtend v s) := by
  have hs := setVaultState_step .extending (h.withDoor
    (d := { s.door v with travel := some (s.travelTicks v), relock := none }) rfl)
  unfold startExtend
  exact DoorStep.ite (setVaultState_step _ (hs.withDoor rfl)) hs

theorem startEmergencyDrive_step (h : DoorStep v s₀ s) : DoorStep v s₀ (startEmergencyDrive v s) :=
  h.withDoor rfl

theorem restartEmergencyDrive_step (h : DoorStep v s₀ s) : DoorStep v s₀ (restartEmergencyDrive v s) :=
  DoorStep.ite h (startEmergencyDrive_step h)

theorem freeVaultDoor_step (h : DoorStep v s₀ s) : DoorStep v s₀ (freeVaultDoor v s) := by
  unfold freeVaultDoor
  split
  · exact startRetract_step h
  · exact startRetract_step h
  · exact startRetract_step h
  · exact setVaultState_step _ (h.withDoor rfl)
  all_goals exact h

theorem recordGrant_step (g : VaultGrant) (h : DoorStep v s₀ s) : DoorStep v s₀ (recordGrant v g s) :=
  freeVaultDoor_step (putDoor_step h rfl)

/-- A grant that unlocks an outer door out of the emergency condition: one of origin EGRESS, or one given while the vault door
is SECURED (R134). -/
theorem recordOuterGrant_step {o : OuterOrigin} (h : DoorStep v s₀ s)
    (hout : (s.door v).outer ≠ .emergencyUnlocked) (ho : o = .egress ∨ (s.door v).vault = .secured) :
    DoorStep v s₀ (recordOuterGrant v o s) := by
  rw [recordOuterGrant_eq]
  refine (h.door (d := { s.door v with outer := .unlocked, outerGrant := some ⟨o, s.outerTicks v⟩ })
    (fun hs => ?_) fun hr => hr).of_blocks rfl
  obtain ⟨-, -, he⟩ := (DoorRecord.lawful_iff _).1 hs
  exact (DoorRecord.lawful_iff _).2 ⟨by simpa using ho, by simp, fun hem => absurd (he hem).1 hout⟩

theorem outerEgressPress_step (h : DoorStep v s₀ s) : DoorStep v s₀ (outerEgressPress v s) := by
  unfold outerEgressPress
  split
  · next ho => exact recordOuterGrant_step h (by simp [ho]) (.inl rfl)
  · next ho => exact recordOuterGrant_step h (by simp [ho]) (.inl rfl)
  · exact h
  · exact h

theorem vaultEgressPress_step (h : DoorStep v s₀ s) : DoorStep v s₀ (vaultEgressPress v s) := by
  have hf := freeVaultDoor_step (putDoor_step h (d := { s.door v with egress := some (s.grantTicks v) }) rfl)
  unfold vaultEgressPress
  exact DoorStep.ite h (DoorStep.ite (restartEmergencyDrive_step hf) hf)

theorem secureWhereFree_step (h : DoorStep v s₀ s) : DoorStep v s₀ (secureWhereFree v s) := by
  unfold secureWhereFree
  dsimp only
  (repeat' split)
  all_goals first
    | exact h
    | exact startExtend_step h

theorem discardGrant_step (h : DoorStep v s₀ s) : DoorStep v s₀ (discardGrant v s) :=
  secureWhereFree_step (putDoor_step h rfl)

theorem discardEgress_step (h : DoorStep v s₀ s) : DoorStep v s₀ (discardEgress v s) :=
  secureWhereFree_step (putDoor_step h rfl)

/-- The end of the outer-door grant: an UNLOCKED door is LOCKED again (R125). -/
theorem outerLapsed_step (h : DoorStep v s₀ s) : DoorStep v s₀ (outerLapsed v s) := by
  have hf : (outerLapsed v s).doorFrame v = s.doorFrame v := by
    unfold outerLapsed
    dsimp only
    split <;> simp
  have hp : ((outerLapsed v s).door v).lawPart =
      ({ s.door v with
          outerGrant := none
          outer := if (s.door v).outer = .unlocked then .locked else (s.door v).outer } : DoorRecord).lawPart := by
    unfold outerLapsed
    simp only [putDoor_door]
    split
    · rw [setOuter_lawPart, putDoor_door]
    · rw [putDoor_door]
  refine h.doors hf (fun hs => (DoorRecord.lawful_congr hp).2 ?_) fun _ hr =>
    (congrArg (fun x => x.2.2.2) hp).trans hr
  obtain ⟨-, -, he⟩ := (DoorRecord.lawful_iff _).1 hs
  refine (DoorRecord.lawful_iff _).2 ⟨by simp, by dsimp only; split <;> simp_all, fun hem => ?_⟩
  simp [he hem]

theorem trimEntering_step (keep : EnteringEntry → Bool) (h : DoorStep v s₀ s) :
    DoorStep v s₀ (trimEntering v keep s) := by
  unfold trimEntering
  split
  · exact h
  · exact DoorStep.ite (discardGrant_step h) (h.withDoor rfl)

theorem cancelEntry_step (h : DoorStep v s₀ s) : DoorStep v s₀ (cancelEntry v s) :=
  withdrawOuter_step (trimEntering_step _ h)

/-- The outer door is OPEN: without a grant, and not in the emergency condition. -/
theorem setOuter_opened_step (h : DoorStep v s₀ s) (ho : (s.door v).outer = .locked) :
    DoorStep v s₀ (setOuter v .opened s) := by
  refine setOuter_step h fun hs => (DoorRecord.lawful_iff _).2 ?_
  obtain ⟨-, hu, he⟩ := (DoorRecord.lawful_iff _).1 hs
  rw [ho] at hu he
  have hg : (s.door v).outerGrant.map OuterGrant.origin = none := by simpa using hu
  refine ⟨by simp [hg], by simp [hg], fun hem => absurd (he hem).1 (by decide)⟩

theorem outerOpened_step (first : Bool) (h : DoorStep v s₀ s) : DoorStep v s₀ (outerOpened v first s) := by
  unfold outerOpened
  split
  · next ho =>
    have hopen := setOuter_opened_step
      (h.withDoor (d := { s.door v with outerHeld := some (s.heldTicks v) }) rfl) (by simpa using ho)
    dsimp only
    split
    · exact hopen
    · exact raiseForced_step _ hopen
  · next ho =>
    have hp : ((setOuter v .opened (putDoor v { s.door v with
        outerGrant := none, outerHeld := some (s.heldTicks v) } s)).door v).lawPart =
        ({ s.door v with outerGrant := none, outer := .opened } : DoorRecord).lawPart := by
      rw [setOuter_lawPart, putDoor_door]
      rfl
    refine h.doors (by simp) (fun hs => (DoorRecord.lawful_congr hp).2 ?_) fun _ hr =>
      (congrArg (fun x => x.2.2.2) hp).trans hr
    obtain ⟨-, -, he⟩ := (DoorRecord.lawful_iff _).1 hs
    rw [ho] at he
    exact (DoorRecord.lawful_iff _).2 ⟨by simp, by simp, fun hem => absurd (he hem).1 (by decide)⟩
  · exact h
  · exact h

theorem endHeld_lawPart (v : Vault) (which : Door) (s : State) :
    ((endHeld v which s).door v).lawPart = (s.door v).lawPart := by
  unfold endHeld
  split <;> simp [claimHeld]

theorem outerClosed_step (h : DoorStep v s₀ s) : DoorStep v s₀ (outerClosed v s) := by
  unfold outerClosed
  split
  · next ho =>
    have he := endHeld_step .outer (h.withDoor (d := { s.door v with outerHeld := none }) rfl)
    have hp := endHeld_lawPart v .outer (s.withDoor v { s.door v with outerHeld := none })
    generalize endHeld v .outer (s.withDoor v { s.door v with outerHeld := none }) = a at he hp ⊢
    have hao : (a.door v).outer = .opened := by
      have := congrArg Prod.fst hp
      simpa [DoorRecord.lawPart, ho] using this
    refine setOuter_step he fun hs => (DoorRecord.lawful_iff _).2 ?_
    obtain ⟨hor, hu, hem⟩ := (DoorRecord.lawful_iff _).1 hs
    rw [hao] at hu hem
    exact ⟨hor, by simpa using hu, fun hm => absurd (hem hm).1 (by decide)⟩
  · exact h
  · exact h
  · exact h

theorem vaultClosed_step (h : DoorStep v s₀ s) : DoorStep v s₀ (vaultClosed v s) := by
  have hend := endHeld_step .vault (h.withDoor (d := { s.door v with vaultHeld := none }) rfl)
  unfold vaultClosed
  split
  · exact DoorStep.ite (startExtend_step hend) (setVaultState_step _ (hend.withDoor rfl))
  all_goals exact h

theorem enterOpen_step (h : DoorStep v s₀ s) : DoorStep v s₀ (enterOpen v s) :=
  setVaultState_step _ (h.withDoor rfl)

theorem boltsWithdrawnActive_step (h : DoorStep v s₀ s) : DoorStep v s₀ (boltsWithdrawnActive v s) := by
  unfold boltsWithdrawnActive
  split
  · exact setVaultState_step _ (h.withDoor rfl)
  · exact DoorStep.ite (setVaultState_step _ h) (startExtend_step h)
  · exact h.withDoor rfl
  all_goals exact h

theorem boltsThrownActive_step (h : DoorStep v s₀ s) : DoorStep v s₀ (boltsThrownActive v s) := by
  unfold boltsThrownActive
  split
  · exact setVaultState_step _ (h.withDoor rfl)
  · exact DoorStep.ite (startRetract_step h) (setVaultState_step _ h)
  all_goals exact h

theorem boltsThrownLost_step (h : DoorStep v s₀ s) : DoorStep v s₀ (boltsThrownLost v s) :=
  DoorStep.ite (startExtend_step h) h

theorem travelExpired_step (h : DoorStep v s₀ s) : DoorStep v s₀ (travelExpired v s) := by
  have ht := h.withDoor (d := { s.door v with travel := none }) rfl
  unfold travelExpired
  dsimp only
  split
  · exact raiseFault_step _ (setVaultState_step _ ht)
  · exact raiseFault_step _ (setVaultState_step _ ht)
  · exact raiseFault_step _ ht
  all_goals exact ht

theorem relockExpired_step (h : DoorStep v s₀ s) : DoorStep v s₀ (relockExpired v s) := by
  have ht := h.withDoor (d := { s.door v with relock := none }) rfl
  exact DoorStep.ite (startExtend_step ht) ht

theorem heldExpired_step (which : Door) (h : DoorStep v s₀ s) : DoorStep v s₀ (heldExpired v which s) :=
  raiseHeld_step which (h.withDoor (by cases which <;> rfl))

/-! ### The emergency release -/

/-- An emergency release, whatever the doors were before (R136). -/
theorem emergencyStart_doors (v : Vault) (s : State) : (emergencyStart v s).doorFrame v = s.doorFrame v
    ∧ ((emergencyStart v s).door v).lawful ∧ ((emergencyStart v s).door v).emergency = true := by
  obtain ⟨a, ha⟩ : ∃ a, a = setOuter v .emergencyUnlocked
      (putDoor v { s.door v with outerGrant := none, emergency := true } s) := ⟨_, rfl⟩
  have hp : (a.door v).lawPart = (OuterState.emergencyUnlocked, none, (s.door v).vault, true) := by
    rw [ha, setOuter_lawPart, putDoor_door]
    rfl
  simp only [DoorRecord.lawPart, Prod.mk.injEq] at hp
  obtain ⟨ho, hg, -, he⟩ := hp
  have hlaw : (a.door v).lawful := (DoorRecord.lawful_iff _).2 ⟨by simp [hg], by simp [ho, hg], fun _ => ⟨ho, hg⟩⟩
  obtain ⟨b, hb⟩ : ∃ b, b = startEmergencyDrive v (setVaultState v .emergencyReleased (a.withDoor v (a.door v).still)) :=
    ⟨_, rfl⟩
  have hdrive : DoorStep v a b := hb ▸ startEmergencyDrive_step (setVaultState_step _ ((DoorStep.refl v a).withDoor rfl))
  obtain ⟨c, hc⟩ : ∃ c, c = putDoor v { b.door v with vaultGrant := some (emergencyGrant (b.door v).vaultGrant) } b :=
    ⟨_, rfl⟩
  have hgrant : DoorStep v a c := hc ▸ putDoor_step hdrive rfl
  have heq : emergencyStart v s = endHeld v .vault (endHeld v .outer
      (c.withDoor v { c.door v with outerHeld := none, vaultHeld := none })) := by
    rw [hc, hb, ha]
    rfl
  have hstep : DoorStep v a (emergencyStart v s) := heq ▸ endHeld_step _ (endHeld_step _ (hgrant.withDoor rfl))
  exact ⟨hstep.frame.trans (by simp [ha]), hstep.lawful hlaw, hstep.emergency hlaw he⟩

theorem emergencyStart_step (h : DoorStep v s₀ s) : DoorStep v s₀ (emergencyStart v s) := by
  obtain ⟨hf, hl, he⟩ := emergencyStart_doors v s
  exact h.doors hf (fun _ => hl) fun _ _ => he

theorem startExtend_doorFrame (v : Vault) (s : State) : (startExtend v s).doorFrame v = s.doorFrame v :=
  (startExtend_step (.refl v s)).frame

theorem emergencyEnd_doorFrame (v : Vault) (s : State) : (emergencyEnd v s).1.doorFrame v = s.doorFrame v := by
  unfold emergencyEnd
  dsimp only
  (repeat' split) <;> simp [enterOpen, startExtend_doorFrame]

/-- The end of the emergency condition keeps the laws of the doors where no outer-door grant stands (R137). -/
theorem emergencyEnd_doorLaws (hl : (s.door v).lawful) (hg : (s.door v).outerGrant = none) :
    ((emergencyEnd v s).1.door v).lawful := by
  have hlaw (o : OuterState) (hu : o ≠ .unlocked) (d : DoorRecord) (hd : d.outerGrant = none) (he : d.emergency = false) :
      ({ d with outer := o } : DoorRecord).lawful :=
    (DoorRecord.lawful_iff _).2 ⟨by simp [hd], by simp [hu, hd], by simp [he]⟩
  obtain ⟨a, ha⟩ : ∃ a, a = putDoor v { (s.door v).still with vaultGrant := none, emergency := false } s := ⟨_, rfl⟩
  have had : a.door v = { (s.door v).still with vaultGrant := none, emergency := false } := by rw [ha, putDoor_door]
  have hal : (a.door v).lawful := by
    obtain ⟨-, hu, -⟩ := (DoorRecord.lawful_iff _).1 hl
    rw [had]
    exact hlaw (s.door v).outer (fun ho => hu.1 ho (by simp [hg])) { (s.door v).still with
      vaultGrant := none, emergency := false } hg rfl
  have hag : (a.door v).outerGrant = none := had ▸ hg
  have hae : (a.door v).emergency = false := had ▸ rfl
  obtain ⟨b, hb⟩ : ∃ b, b = (if a.countsActive v .outerContact then
      setOuter v .opened (a.withDoor v { a.door v with outerHeld := some (a.heldTicks v) })
    else setOuter v .locked a) := ⟨_, rfl⟩
  have hout : DoorStep v a b := by
    rw [hb]
    split
    · exact setOuter_step ((DoorStep.refl v a).withDoor rfl) fun _ =>
        hlaw _ (by decide) _ (by simpa using hag) (by simpa using hae)
    · exact setOuter_step (.refl v a) fun _ => hlaw _ (by decide) _ hag hae
  have hend : (emergencyEnd v s).1 = if b.countsActive v .vaultContact then
      putDoor v { (enterOpen v b).door v with egress := none } (enterOpen v b)
    else if (b.door v).egress.isSome then setVaultState v .released b else startExtend v b := by
    rw [hb, ha]
    unfold emergencyEnd
    simp only [apply_ite Prod.fst]
  have hlast : DoorStep v a (emergencyEnd v s).1 := by
    rw [hend]
    exact DoorStep.ite (putDoor_step (enterOpen_step hout) rfl)
      (DoorStep.ite (setVaultState_step _ hout) (startExtend_step hout))
  exact hlast.lawful hal

theorem beginDoors_step (h : DoorStep v s₀ s) : DoorStep v s₀ (beginDoors v s) :=
  DoorStep.ite (emergencyStart_step h) (startExtend_step h)

end

end Sys2Proof.Machine

namespace Sys2Proof.Machine

/-! ### The OCC -/

section
variable {v : Vault} {s₀ s : State}

theorem foldl_step {α : Type} {f : State → α → State} (hf : ∀ u a, DoorStep v s₀ u → DoorStep v s₀ (f u a)) (l : List α)
    (h : DoorStep v s₀ s) : DoorStep v s₀ (l.foldl f s) :=
  foldl_keeps (P := DoorStep v s₀) f hf l h

theorem addOccupants_step (adds : List EnteringEntry) (time : Instant) (h : DoorStep v s₀ s) :
    DoorStep v s₀ (addOccupants v adds time s) := h.withOccupancy _

theorem setCertain_step (b : Bool) (h : DoorStep v s₀ s) : DoorStep v s₀ (setCertain v b s) := h.withOccupancy _

theorem endOccupant_step (e : Occupant) (h : DoorStep v s₀ s) : DoorStep v s₀ (endOccupant v e s) := by
  have hl := DoorStep.ite (p := e.overdue) (endCondition_step (loneWorkerKey v e.number) h) h
  have he := DoorStep.ite (p := e.wanted ∧ e.link = none) (endCondition_step (escortLeftKey v e.number) hl) hl
  exact DoorStep.ite (claimChirp_step false he) he

theorem removeOccupant_step (number : Nat) (h : DoorStep v s₀ s) : DoorStep v s₀ (removeOccupant v s number) := by
  unfold removeOccupant
  split
  · exact h
  · exact endOccupant_step _ (h.withOccupancy _)

theorem settleLink_step (fresh : List Nat) (e : Occupant) (h : DoorStep v s₀ s) :
    DoorStep v s₀ (settleLink v fresh s e) := by
  unfold settleLink
  dsimp only
  split
  · exact h
  · split
    · exact DoorStep.ite (endCondition_step _ (h.withOccupancy _)) (h.withOccupancy _)
    · exact DoorStep.ite (raised_step _ (h.withOccupancy _)) (h.withOccupancy _)

theorem settleLinks_step (fresh : List Nat) (h : DoorStep v s₀ s) : DoorStep v s₀ (settleLinks v fresh s) :=
  foldl_step (fun _ e hu => settleLink_step fresh e hu) _ h

theorem settleLone_step (h : DoorStep v s₀ s) : DoorStep v s₀ (settleLone v s) := by
  have hends := foldl_step (f := fun u e => if Occupant.overdue e then endCondition (loneWorkerKey v e.number) u else u)
    (fun _ e hu => DoorStep.ite (endCondition_step (loneWorkerKey v e.number) hu) hu) (s.occupancy v).entries h
  exact DoorStep.ite (h.withOccupancy _) (claimChirp_step false (hends.withOccupancy _))

theorem checkIn_step (number : Option Nat) (h : DoorStep v s₀ s) : DoorStep v s₀ (checkIn v number s) := by
  unfold checkIn
  dsimp only
  split
  · exact h
  · next e _ =>
    have hend := DoorStep.ite (p := e.overdue) (endCondition_step (loneWorkerKey v e.number) h) h
    exact DoorStep.ite (claimChirp_step false (hend.withOccupancy _)) h

theorem loneExpired_step (h : DoorStep v s₀ s) : DoorStep v s₀ (loneExpired v s) := by
  unfold loneExpired
  dsimp only
  split
  · exact h
  · exact raised_step _ (h.withOccupancy _)

theorem settleRegister_step (fresh : List Nat) (h : DoorStep v s₀ s) : DoorStep v s₀ (settleRegister v fresh s) :=
  settleLone_step (settleLinks_step fresh h)

theorem applyGrant_step (g : VaultGrant) (time : Instant) (h : DoorStep v s₀ s) :
    DoorStep v s₀ (applyGrant v g time s) :=
  foldl_step (fun _ k hu => removeOccupant_step k hu) _ (addOccupants_step _ time h)

theorem chirp_step (h : DoorStep v s₀ s) : DoorStep v s₀ (chirp v s) := claimChirp_step true (h.withOccupancy _)

/-! ### The SSQ -/

theorem alertsAtChange_step (old new : SsqState) (h : DoorStep v s₀ s) : DoorStep v s₀ (alertsAtChange v old new s) := by
  have he := DoorStep.ite (p := new = .quiet ∨ new = .isolated)
    (endCondition_step (alertKey v .manual) (endCondition_step (alertKey v .detection) h)) h
  exact DoorStep.ite (endCondition_step _ he) (DoorStep.ite (raised_step _ he) he)

theorem neighboursAtChange_step (old new : SsqState) (h : DoorStep v s₀ s) :
    DoorStep v s₀ (neighboursAtChange v old new s) :=
  DoorStep.ite (cancelEntry_step (lapsePair_step h)) h

theorem alertsAtChange_door (v : Vault) (old new : SsqState) (s : State) :
    (alertsAtChange v old new s).door v = s.door v := by
  have raised_door (key : AlarmKey) (u : State) : (raised key u).door v = u.door v := by
    rw [raised_eq]
    rfl
  unfold alertsAtChange
  dsimp only
  (repeat' split) <;> simp [raised_door]

/-- What the emergency condition of the doors becomes where INHIBITED is entered or left (R136, R137). -/
theorem inhibitedAtChange_doors (v : Vault) (old new : SsqState) (s : State) :
    (inhibitedAtChange v old new s).1.doorFrame v = s.doorFrame v
      ∧ ((s.door v).lawful → (old = .inhibited → (s.door v).outerGrant = none) →
          ((inhibitedAtChange v old new s).1.door v).lawful)
      ∧ (new = .inhibited → ((inhibitedAtChange v old new s).1.door v).emergency = true) := by
  have hraised := raised_step (vaultEvacuationKey v) (.refl v s)
  have hended := endCondition_step (vaultEvacuationKey v) (.refl v s)
  unfold inhibitedAtChange
  dsimp only
  split
  · split
    · next he => exact ⟨hraised.frame, fun hl _ => hraised.lawful hl, fun _ => he⟩
    · obtain ⟨hf, hl, he⟩ := emergencyStart_doors v (raised (vaultEvacuationKey v) s)
      exact ⟨hf.trans hraised.frame, fun _ _ => hl, fun _ => he⟩
  · next hnew =>
    split
    · next hold =>
      split
      · exact ⟨hended.frame, fun hl _ => hended.lawful hl, fun hi => absurd hi hnew⟩
      · refine ⟨(emergencyEnd_doorFrame v _).trans hended.frame, fun hl hg => ?_, fun hi => absurd hi hnew⟩
        exact emergencyEnd_doorLaws (hended.lawful hl) (by simpa using hg hold)
    · exact ⟨rfl, fun hl _ => hl, fun hi => absurd hi hnew⟩

/-- A change of state: the SSQ takes its state with its claim, the ADU and the DSQ drop what they hold, and where INHIBITED is
entered or left the emergency condition of the doors follows (R136, R162, R165). -/
theorem changeState_step (q : SsqRecord) (h : VaultStep v s₀ s) : VaultStep v s₀ (changeState v q s).1 := by
  obtain ⟨old, hold⟩ : ∃ x, x = (s.sequencer v).state := ⟨_, rfl⟩
  obtain ⟨u, hu⟩ : ∃ u, u = causeSuppression (claimSsq v (stateClaim q.state) (s.withSequencer v q.settled)) := ⟨_, rfl⟩
  obtain ⟨a, ha⟩ : ∃ a, a = alertsAtChange v old q.state (neighboursAtChange v old q.state u) := ⟨_, rfl⟩
  have hstep : DoorStep v u a := ha ▸ alertsAtChange_step _ _ (neighboursAtChange_step _ _ (.refl v u))
  have hdoor : u.door v = s.door v := hu ▸ claim_door v v _ _
  have hub : u.beyond v = s.beyond v := by
    rw [hu]
    unfold claimSsq claim
    split
    · exact (State.beyond_blocks v rfl).trans ((State.withClaimSet_beyond _ v _).trans (State.withSequencer_beyond s v _))
    · exact (State.beyond_blocks v rfl).trans (State.withSequencer_beyond s v _)
  have huq : (u.sequencer v).state = q.state := by
    rw [hu]
    unfold claimSsq claim
    split <;> simp [State.sequencer, causeSuppression, SsqRecord.settled]
  have huc : u.claimedAt v := by
    intro hen
    have hs : (s.withSequencer v q.settled).enabled v = true := (congrFun (State.enabled_of_beyond hub) v) ▸ hen
    rw [huq, hu]
    unfold claimSsq claim
    rw [if_pos hs]
    simp [State.claimSet, causeSuppression, ClaimSet.changed_ssq]
  obtain ⟨hf, hl, he⟩ := inhibitedAtChange_doors v old q.state a
  have hchange : (changeState v q s).1 = (inhibitedAtChange v old q.state a).1 := by
    rw [ha, hu, hold]
    rfl
  rw [← hchange] at hf hl he
  have hframe := hf.trans hstep.frame
  simp only [State.doorFrame, Prod.mk.injEq] at hframe
  obtain ⟨hb, hq, hc⟩ := hframe
  refine h.trans ⟨hb.trans hub, fun hw => ⟨hl (hstep.lawful (hdoor ▸ hw.1)) fun hi => ?_, fun hi => ?_⟩, fun _ hen => ?_⟩
  · -- INHIBITED is left: nothing is cancelled before, and the emergency condition has left no grant
    have hsame : a.door v = s.door v := by
      rw [ha, alertsAtChange_door, ← hdoor]
      unfold neighboursAtChange
      rw [if_neg (by simp [hi])]
    rw [hsame]
    exact (hw.1.2 (hw.2 (hold ▸ hi))).2
  · exact he (huq.symm.trans (hq.symm.trans hi))
  · rw [hc, hq]
    exact huc (State.enabled_of_beyond hb ▸ hen)

end

end Sys2Proof.Machine

namespace Sys2Proof.Machine

section
variable {v : Vault} {s₀ s : State}

/-! ### The holds and the countdown -/

theorem VaultStep.withSequencer (h : VaultStep v s₀ s) {q : SsqRecord} (hq : q.state = (s.sequencer v).state) :
    VaultStep v s₀ (s.withSequencer v q) := h.run ((DoorStep.refl v s).withSequencer hq)

theorem VaultStep.raised (key : AlarmKey) (h : VaultStep v s₀ s) : VaultStep v s₀ (Machine.raised key s) :=
  h.run (raised_step key (.refl v s))

theorem VaultStep.endCondition (key : AlarmKey) (h : VaultStep v s₀ s) : VaultStep v s₀ (Machine.endCondition key s) :=
  h.run (endCondition_step key (.refl v s))

theorem enter_step (q : SsqRecord) (h : VaultStep v s₀ s) : VaultStep v s₀ (enter v q s) := changeState_step q h

theorem enterReleasing_step (h : VaultStep v s₀ s) : VaultStep v s₀ (enterReleasing v s) := enter_step _ h

theorem expireCountdown_step (h : VaultStep v s₀ s) : VaultStep v s₀ (expireCountdown v s) :=
  VaultStep.ite (enterReleasing_step h) (enter_step _ h)

theorem resumeCountdown_step (h : VaultStep v s₀ s) : VaultStep v s₀ (resumeCountdown v s) :=
  VaultStep.ite (enter_step _ h) (expireCountdown_step h)

theorem recheckHolds_step (h : VaultStep v s₀ s) : VaultStep v s₀ (recheckHolds v s) := by
  unfold recheckHolds
  dsimp only
  split
  · exact VaultStep.ite (enter_step _ h) h
  · exact VaultStep.ite (enter_step _ h) h
  · next hq => exact VaultStep.ite (h.withSequencer hq.symm) (resumeCountdown_step h)
  all_goals exact h

theorem setEgress_step (e : EgressCondition) (h : VaultStep v s₀ s) : VaultStep v s₀ (setEgress v e s) :=
  recheckHolds_step (h.withSequencer rfl)

theorem egressPressed_step (h : VaultStep v s₀ s) : VaultStep v s₀ (egressPressed v s) :=
  VaultStep.ite (setEgress_step _ h) (setEgress_step _ h)

theorem egressConsumed_step (h : VaultStep v s₀ s) : VaultStep v s₀ (egressConsumed v s) :=
  VaultStep.ite (setEgress_step _ h) h

theorem egressUnopened_step (h : VaultStep v s₀ s) : VaultStep v s₀ (egressUnopened v s) :=
  VaultStep.ite (setEgress_step _ h) h

theorem contactLeft_step (h : VaultStep v s₀ s) : VaultStep v s₀ (contactLeft v s) := by
  have he := VaultStep.ite (p := (s.sequencer v).egress = .opened) (setEgress_step .none h) h
  exact VaultStep.ite (enterReleasing_step he) he

theorem moveTo_step (q : SsqRecord) (h : VaultStep v s₀ s) : VaultStep v s₀ (moveTo v q s) :=
  VaultStep.ite (egressUnopened_step (changeState_step q h)) (changeState_step q h)

/-! ### Detection, release, discharge and isolation -/

theorem commit_step (h : VaultStep v s₀ s) : VaultStep v s₀ (commit v s) := h.withSequencer rfl

theorem beginCountdown_step (p : Path) (h : VaultStep v s₀ s) : VaultStep v s₀ (beginCountdown v p s) := moveTo_step _ h

theorem inhibit_step (h : VaultStep v s₀ s) : VaultStep v s₀ (inhibit v s) := enter_step _ h

theorem confirmFire_step (h : VaultStep v s₀ s) : VaultStep v s₀ (confirmFire v s) := by
  have hr := VaultStep.ite (p := decide ((s.sequencer v).state = .quiet) = true)
    ((commit_step h).raised (alertKey v .detection)) (commit_step h)
  exact VaultStep.ite (beginCountdown_step _ hr) (inhibit_step hr)

theorem enterAlert_step (h : VaultStep v s₀ s) : VaultStep v s₀ (enterAlert v s) := (enter_step _ h).raised _

theorem judgeDetectors_step (h : VaultStep v s₀ s) : VaultStep v s₀ (judgeDetectors v s) :=
  VaultStep.ite (confirmFire_step h) (VaultStep.ite (enterAlert_step h) h)

theorem detectorTaken_step (active : Bool) (h : VaultStep v s₀ s) : VaultStep v s₀ (detectorTaken v active s) := by
  unfold detectorTaken
  split
  · exact VaultStep.ite (judgeDetectors_step h) h
  · exact VaultStep.ite (confirmFire_step h) (VaultStep.ite (enter_step _ h) h)
  · exact VaultStep.ite (h.raised _) (VaultStep.ite h (h.endCondition _))
  all_goals exact h

theorem occupancyReported_step (h : VaultStep v s₀ s) : VaultStep v s₀ (occupancyReported v s) := by
  have hc : VaultStep v s₀ (s.withSequencer v { s.sequencer v with clear := s.clearVault v }) := h.withSequencer rfl
  unfold occupancyReported
  dsimp only
  split
  · exact VaultStep.ite (beginCountdown_step _ (commit_step hc)) hc
  · exact VaultStep.ite (inhibit_step hc) hc
  · exact VaultStep.ite (inhibit_step hc) hc
  · exact VaultStep.ite (inhibit_step hc) hc
  all_goals exact hc

theorem manualRelease_step (h : VaultStep v s₀ s) : VaultStep v s₀ (manualRelease v s) := by
  have hr := h.raised (alertKey v .manual)
  have hp {q : SsqRecord} (hq : q.state = ((raised (alertKey v .manual) s).sequencer v).state) :
      VaultStep v s₀ (if ((raised (alertKey v .manual) s).sequencer v).path = some .automatic then
        recheckHolds v ((raised (alertKey v .manual) s).withSequencer v q) else raised (alertKey v .manual) s) :=
    VaultStep.ite (recheckHolds_step (hr.withSequencer hq)) hr
  unfold manualRelease
  split
  · exact beginCountdown_step _ (commit_step hr)
  · exact beginCountdown_step _ (commit_step hr)
  · exact beginCountdown_step _ (commit_step hr)
  · exact hp rfl
  · exact hp rfl
  · exact hr.withSequencer rfl
  · exact h.raised _
  all_goals exact h

theorem abortTaken_step (new : Reading) (h : VaultStep v s₀ s) : VaultStep v s₀ (abortTaken v new s) := by
  unfold abortTaken
  split
  · exact VaultStep.ite (recheckHolds_step (h.withSequencer rfl)) h
  all_goals exact recheckHolds_step (h.withSequencer rfl)

theorem abortLapsed_step (h : VaultStep v s₀ s) : VaultStep v s₀ (abortLapsed v s) :=
  recheckHolds_step (h.withSequencer rfl)

theorem enterDischarged_step (d : DischargeDetail) (h : VaultStep v s₀ s) : VaultStep v s₀ (enterDischarged v d s) :=
  (moveTo_step _ h).raised _

theorem pulseEnded_step (h : VaultStep v s₀ s) : VaultStep v s₀ (pulseEnded v s) :=
  VaultStep.ite (enterDischarged_step _ h) (enter_step _ h)

theorem dischargeActive_step (h : VaultStep v s₀ s) : VaultStep v s₀ (dischargeActive v s) := by
  unfold dischargeActive
  split
  case h_8 => exact h.withSequencer rfl
  case h_10 => exact h
  all_goals exact enterDischarged_step _ h

theorem isolate_step (h : VaultStep v s₀ s) : VaultStep v s₀ (isolate v s) := by
  unfold isolate
  split
  all_goals first
    | exact moveTo_step _ h
    | exact h

theorem returnToQuiet_step (h : VaultStep v s₀ s) : VaultStep v s₀ (returnToQuiet v s) :=
  judgeDetectors_step (moveTo_step _ h)

theorem deisolate_step (h : VaultStep v s₀ s) : VaultStep v s₀ (deisolate v s) := VaultStep.ite (returnToQuiet_step h) h

theorem resetDischarged_step (h : VaultStep v s₀ s) : VaultStep v s₀ (resetDischarged v s) := by
  obtain ⟨a, ha⟩ : ∃ a, a = (match (s.sequencer v).detail with
    | none => s
    | some d => endCondition (dischargeKey v d) s) := ⟨_, rfl⟩
  have hend : VaultStep v s₀ a := by
    rw [ha]
    split
    · exact h
    · exact h.endCondition _
  have hquiet := moveTo_step { (commit v a).sequencer v with state := .quiet } (commit_step hend)
  have heq : resetDischarged v s =
      if (moveTo v { (commit v a).sequencer v with state := .quiet } (commit v a)).countsActive v .isolate then
        isolate v (moveTo v { (commit v a).sequencer v with state := .quiet } (commit v a))
      else judgeDetectors v (moveTo v { (commit v a).sequencer v with state := .quiet } (commit v a)) := by
    rw [ha]
    rfl
  rw [heq]
  exact VaultStep.ite (isolate_step hquiet) (judgeDetectors_step hquiet)

/-! ### What passes between the blocks of a vault -/

theorem reporting_step {f : State → State} (hf : VaultStep v s₀ (f s)) : VaultStep v s₀ (reporting v f s) := by
  have hc := VaultStep.ite (p := (s.occupancy v).watched = ((f s).occupancy v).watched) hf
    (hf.run (causeOccupancy_step (.refl v _)))
  exact VaultStep.ite hc (occupancyReported_step hc)

theorem consumeGrant_step (g : VaultGrant) (egress : Bool) (time : Instant) (h : VaultStep v s₀ s) :
    VaultStep v s₀ (consumeGrant v g egress time s) := by
  unfold consumeGrant
  have ha := h.run (applyGrant_step g time (.refl v s))
  have hc := VaultStep.ite (p := g.uncertain = true ∨ (egress = true ∧ decide ((applyGrant v g time s).count v ≠ 0) = true))
    (ha.run (setCertain_step false (.refl v _))) ha
  have hu := VaultStep.ite (p := egress = true ∧ ¬ decide ((applyGrant v g time s).count v ≠ 0) = true
    ∧ ¬ (g.removes (s.occupancy v) = true ∨ g.origin = .exit)) (hc.raised (unbadgedKey v)) hc
  have he := VaultStep.ite (p := egress = true) (egressConsumed_step hu) hu
  exact he.run (settleRegister_step _ (.refl v _))

theorem consumeEgress_step (h : VaultStep v s₀ s) : VaultStep v s₀ (consumeEgress v s) :=
  egressConsumed_step (VaultStep.ite (h.run (setCertain_step false (.refl v s))) (h.raised _))

theorem openConsuming_step (time : Instant) (h : VaultStep v s₀ s) : VaultStep v s₀ (openConsuming v time s) := by
  unfold openConsuming
  refine reporting_step ?_
  have ho := h.run (enterOpen_step (putDoor_step (.refl v s)
    (d := { s.door v with vaultGrant := none, egress := none }) rfl))
  dsimp only
  split
  · exact consumeGrant_step _ _ time ho
  · exact VaultStep.ite (consumeEgress_step ho) ho

theorem openForced_step (first : Bool) (h : VaultStep v s₀ s) : VaultStep v s₀ (openForced v first s) :=
  reporting_step (h.run (DoorStep.ite (enterOpen_step (.refl v s))
    (setCertain_step false (raiseForced_step .vault (enterOpen_step (.refl v s))))))

theorem openEmergency_step (time : Instant) (h : VaultStep v s₀ s) : VaultStep v s₀ (openEmergency v time s) := by
  unfold openEmergency
  refine reporting_step ?_
  have hp := h.run (setCertain_step false (applyGrant_step (emergencyGrant (s.door v).vaultGrant) time
    (putDoor_step (.refl v s) (d := { s.door v with
      vaultGrant := some { emergencyGrant (s.door v).vaultGrant with exiting := [], unrecorded := false }
      egress := none }) rfl)))
  have he := VaultStep.ite (p := (s.door v).egress.isSome = true) (egressConsumed_step hp) hp
  exact he.run (settleRegister_step [] (.refl v _))

theorem vaultOpened_step (first : Bool) (time : Instant) (h : VaultStep v s₀ s) :
    VaultStep v s₀ (vaultOpened v first time s) := by
  unfold vaultOpened
  split
  · exact openConsuming_step time h
  · exact openConsuming_step time h
  · exact VaultStep.ite (openConsuming_step time h) (openForced_step first h)
  · exact openForced_step first h
  · exact openForced_step first h
  · exact openForced_step first h
  · exact openEmergency_step time h
  · exact h

theorem handExitGrant_step (exiting : List Nat) (h : VaultStep v s₀ s) : VaultStep v s₀ (handExitGrant v exiting s) :=
  VaultStep.ite ((reporting_step (consumeGrant_step _ false _ h)).run (causeDoors_step (.refl v _)))
    (h.run (recordGrant_step _ (.refl v s)))

theorem egressLapsed_step (h : VaultStep v s₀ s) : VaultStep v s₀ (egressLapsed v s) :=
  egressUnopened_step (h.run (discardEgress_step (.refl v s)))

/-- The end of the emergency condition where the SSQ is not INHIBITED. -/
theorem emergencyEnd_step (h : VaultStep v s₀ s) (hq : (s.sequencer v).state ≠ .inhibited)
    (he : (s.door v).emergency = true) : VaultStep v s₀ (emergencyEnd v s).1 := by
  have hf := emergencyEnd_doorFrame v s
  simp only [State.doorFrame, Prod.mk.injEq] at hf
  obtain ⟨hb, hs, hc⟩ := hf
  refine h.trans ⟨hb, fun hw => ⟨emergencyEnd_doorLaws hw.1 (hw.1.2 he).2, fun hi => absurd (hs ▸ hi) hq⟩, fun hcl hen => ?_⟩
  rw [hc, hs]
  exact hcl (State.enabled_of_beyond hb ▸ hen)

theorem releaseEnds_step (h : VaultStep v s₀ s) : VaultStep v s₀ (releaseEnds v s) := by
  unfold releaseEnds
  split
  · next hr =>
    have he := emergencyEnd_step h hr.2.2 hr.2.1
    exact VaultStep.ite (egressUnopened_step he) he
  · exact h

theorem latchVault_step (h : DoorStep v s₀ s) : DoorStep v s₀ (latchVault v s) := by
  have hc := claimSiteEvacuate_step true h
  exact DoorStep.ite (DoorStep.ite hc (emergencyStart_step hc)) h

theorem lockdownVault_step (h : DoorStep v s₀ s) : DoorStep v s₀ (lockdownVault v s) :=
  lapsePair_step (trimEntering_step _ h)

/-! ### The lines and the timers of a vault -/

theorem deliverLine_step (l : Line) (old : Option Reading) (new : Reading) (time : Instant) (h : VaultStep v s₀ s) :
    VaultStep v s₀ (deliverLine v l old new time s) := by
  have hs := DoorStep.refl v s
  unfold deliverLine
  dsimp only
  split
  · exact VaultStep.ite (h.run (outerOpened_step _ hs)) (VaultStep.ite (h.run (outerClosed_step hs)) h)
  · exact VaultStep.ite (h.run (outerEgressPress_step hs)) h
  · exact VaultStep.ite (vaultOpened_step _ _ h) (VaultStep.ite (contactLeft_step (h.run (vaultClosed_step hs))) h)
  · exact VaultStep.ite (h.run (boltsThrownActive_step hs)) (VaultStep.ite (h.run (boltsThrownLost_step hs)) h)
  · exact VaultStep.ite (h.run (boltsWithdrawnActive_step hs)) h
  · exact VaultStep.ite (egressPressed_step (h.run (vaultEgressPress_step hs))) h
  · exact detectorTaken_step _ h
  · exact detectorTaken_step _ h
  · exact VaultStep.ite (manualRelease_step h) (VaultStep.ite (h.endCondition _) h)
  · exact abortTaken_step _ h
  · exact VaultStep.ite (isolate_step h) (VaultStep.ite (deisolate_step h) h)
  · exact VaultStep.ite (dischargeActive_step h) h
  · exact VaultStep.ite (h.raised _) h
  · exact VaultStep.ite (h.raised _) h
  · exact VaultStep.ite (h.run (checkIn_step _ hs)) h

theorem takeLine_step (l : Line) (h : VaultStep v s₀ s) : VaultStep v s₀ (takeLine v l s) := by
  unfold takeLine
  dsimp only
  split
  · exact h
  · next new _ =>
    have hq := (DoorStep.refl v s).withLineRecord l (s.lineRecord v l).changed
    exact deliverLine_step _ _ _ _ (h.run (DoorStep.ite (lineFault_step _ new hq) hq))

theorem takeRelease_step (h : DoorStep v s₀ s) : DoorStep v s₀ (takeRelease v s) := by
  unfold takeRelease
  dsimp only
  split
  · exact h
  · split
    · exact raised_step _ (h.withRelease _)
    · exact endCondition_step _ (h.withRelease _)

/-- An event of one vault is a step of that vault. -/
theorem perform_step {d : Due} (hv : d.vault = some v) (h : VaultStep v s₀ s) : VaultStep v s₀ (perform d s) := by
  have hs := DoorStep.refl v s
  cases d with
  | startUpTimeout | minute | evacuation | siteLine | escalation => cases hv
  | testClaim => cases hv; exact h.run (endTest_step hs)
  | pairWindow => cases hv; exact h.run (lapsePair_step hs)
  | outerGrant => cases hv; exact h.run (outerLapsed_step hs)
  | vaultGrant => cases hv; exact h.run (discardGrant_step hs)
  | egressRelease => cases hv; exact egressLapsed_step h
  | travel => cases hv; exact h.run (travelExpired_step hs)
  | relock => cases hv; exact h.run (relockExpired_step hs)
  | held => cases hv; exact h.run (heldExpired_step _ hs)
  | chirp => cases hv; exact h.run (chirp_step hs)
  | loneWorker => cases hv; exact h.run (loneExpired_step hs)
  | countdown => cases hv; exact expireCountdown_step (h.withSequencer rfl)
  | abortHold => cases hv; exact abortLapsed_step h
  | pulse => cases hv; exact pulseEnded_step h
  | confirmWait => cases hv; exact enterDischarged_step _ h
  | soak => cases hv; exact h.withSequencer rfl
  | line => cases hv; exact takeLine_step _ h
  | release => cases hv; exact h.run (takeRelease_step hs)

end

/-! ## An event of one vault touches that vault alone (O14) -/

theorem PerVault.get_of_set {α : Type} {p q : PerVault α} {v w : Vault} {a : α} (h : p.set v a = q.set v a) (hw : w ≠ v) :
    p.get w = q.get w := by
  rw [← PerVault.get_set_of_ne p a hw.symm, h, PerVault.get_set_of_ne q a hw.symm]

/-- What lies beyond a vault: every record of the other vaults, the site functions of the LQU and the reader line. -/
theorem State.othersKept_of_beyond {v : Vault} {s t : State} (h : t.beyond v = s.beyond v) :
    s.othersKept t v ∧ t.lqu = s.lqu ∧ t.rline = s.rline := by
  simp only [State.beyond, Prod.mk.injEq] at h
  obtain ⟨-, -, -, hlqu, hrline, hl, hc, hr, hp, hd, ho, hq⟩ := h
  exact ⟨fun w hw => ⟨PerVault.get_of_set hl hw, PerVault.get_of_set hc hw, PerVault.get_of_set hr hw,
    PerVault.get_of_set hp hw, PerVault.get_of_set hd hw, PerVault.get_of_set ho hw, PerVault.get_of_set hq hw⟩,
    hlqu, hrline⟩

/-- Two states that agree beyond the blocks of the vaults, in the settings, the LQU and the reader line differ in the records
of the vaults, the alarm table and the attention causes alone. -/
theorem State.eq_of_sansLqu {s t : State}
    (h : t.sansDoors.sansSsq.sansSite.sansLqu = s.sansDoors.sansSsq.sansSite.sansLqu) (hs : t.settings = s.settings)
    (hl : t.lqu = s.lqu) (hr : t.rline = s.rline) :
    t = { s with
      lines := t.lines, claims := t.claims, readers := t.readers, pairs := t.pairs, doors := t.doors, occ := t.occ
      ssq := t.ssq, atu := t.atu, link := { s.link with waiting := t.link.waiting }, due := t.due } := by
  rcases s with ⟨_, _, _, _, ⟨⟩⟩
  rcases t with ⟨_, _, _, _, ⟨⟩⟩
  simp_all [State.sansDoors, State.sansSsq, State.sansSite, State.sansLqu, State.settings]

/-- A command of a due event is that event, or leaves the state. -/
theorem exec_of_dueOf {c : Instr} {d : Due} (hd : dueOf c = some d) :
    ∃ f, exec c = event f ∧ ∀ s, f s = takeDue d s ∨ f s = s := by
  cases c <;> cases hd
  case vaultContactOpen v => exact ⟨_, rfl, contactChange_takes v _⟩
  case vaultContactClose v => exact ⟨_, rfl, contactChange_takes v _⟩
  all_goals exact ⟨_, rfl, fun _ => .inl rfl⟩

/-- Settles O14: an event of one vault that takes place is a step of that vault, and its frame tells the rest. -/
theorem aVaultsEventTouchesThatVaultAlone : Obligations.AVaultsEventTouchesThatVaultAlone := by
  unfold Obligations.AVaultsEventTouchesThatVaultAlone
  intro c d v s hd hv
  have hsame : s.vaultAlone s v := ⟨fun _ _ => ⟨rfl, rfl, rfl, rfl, rfl, rfl, rfl⟩, rfl⟩
  have hstill : (s.without d).vaultAlone (s.without d) v := ⟨fun _ _ => ⟨rfl, rfl, rfl, rfl, rfl, rfl, rfl⟩, rfl⟩
  have hperform : (s.without d).vaultAlone (perform d (s.without d)) v := by
    have hm : d ≠ .minute := fun e => by simp [e, Due.vault] at hv
    have ht : d ≠ .startUpTimeout := fun e => by simp [e, Due.vault] at hv
    obtain ⟨hothers, hlqu, hrline⟩ := State.othersKept_of_beyond (perform_step hv (.refl v (s.without d))).beyond
    exact ⟨hothers, State.eq_of_sansLqu (perform_sansLqu hm ht _) (perform_frames hm ht _).2 hlqu hrline⟩
  have htake : s.vaultAlone (takeDue d s) v := by
    unfold takeDue performDue
    split
    · split
      · exact hperform
      · exact hstill
    · exact hsame
  obtain ⟨f, he, ht⟩ := exec_of_dueOf hd
  refine ⟨_, by rw [he]; rfl, ?_⟩
  split
  · exact hsame
  · rcases ht s with h | h <;> rw [h]
    · exact htake
    · exact hsame

end Sys2Proof.Machine

namespace Sys2Proof.Machine

/-! ## What every step keeps of the vaults that act and of those that rest (O10, O12) -/

/-- The records of a vault. -/
def State.recordsOf (v : Vault) (s : State) : VaultLines × ClaimSet × VaultReaders × Option PendingPair × DoorRecord
    × VaultOccupancy × SsqRecord :=
  (s.lines.get v, s.claims.get v, s.readers.get v, s.pairs.get v, s.doors.get v, s.occ.get v, s.ssq.get v)

/-- Before the configuration read the reader line and the site functions of the LQU rest (R69, R95). -/
def State.linesRest (s : State) : Prop := s.rline.phase = .quiet ∧ s.rline.address = none ∧ s.lqu = resetLqu

theorem State.atRest_iff (s : State) (v : Vault) : s.atRest v = true ↔
    s.lines.get v = resetLines ∧ s.door v = resetDoor ∧ s.pair v = none ∧ s.claimSet v = noClaims
      ∧ (s.occupancy v).entries = []
      ∧ s.sequencer v = { resetSsq (s.sequencer v).committed with clear := (s.sequencer v).clear }
      ∧ ∀ p, s.reader ⟨v, p⟩ = { resetReader with lastVerdict := (s.reader ⟨v, p⟩).lastVerdict } := by
  simp only [State.atRest, Bool.and_eq_true, decide_eq_true_eq, List.isEmpty_iff, List.all_cons, List.all_nil, and_assoc]
  refine and_congr_right' (and_congr_right' (and_congr_right' (and_congr_right' (and_congr_right' (and_congr_right' ?_)))))
  exact ⟨fun h p => by cases p; exacts [h.1, h.2.1, h.2.2.1], fun h => ⟨h _, h _, h _, trivial⟩⟩

theorem State.atRest_congr {s t : State} {v : Vault} (h : t.recordsOf v = s.recordsOf v) : t.atRest v = s.atRest v := by
  simp only [State.recordsOf, Prod.mk.injEq] at h
  obtain ⟨hl, hc, hr, hp, hd, ho, hq⟩ := h
  rw [Bool.eq_iff_iff, State.atRest_iff, State.atRest_iff]
  simp only [State.door, State.pair, State.claimSet, State.occupancy, State.sequencer, State.reader, hl, hc, hr, hp, hd, ho, hq]

theorem State.restSound_iff (s : State) : s.restSound = true ↔
    (∀ v, s.acts v = true ∨ s.atRest v = true) ∧ (∀ a, s.rline.counted = some a → s.acts a.vault = true)
      ∧ (s.configured = true ∨ s.linesRest) ∧ (s.phase = .reset → s.scanPos = 0) := by
  simp only [State.restSound, Bool.and_eq_true, List.all_eq_true, Bool.or_eq_true, Bool.not_eq_true', decide_eq_true_eq,
    decide_eq_false_iff_not, and_assoc, State.linesRest]
  refine and_congr ⟨fun h v => h v v.mem_all, fun h v _ => h v⟩ (and_congr ?_ (and_congr_right' imp_iff_not_or.symm))
  cases s.rline.counted <;> simp

theorem State.interlocked_iff (s : State) : s.interlocked = true ↔ ∀ v, s.wholeAt v := by
  have hv (v : Vault) : ((s.door v).interlocked && s.releasedWhole v) = true ↔ s.wholeAt v := by
    simp only [State.releasedWhole, State.wholeAt, State.releasedAt, DoorRecord.lawful, Bool.and_eq_true, Bool.or_eq_true,
      Bool.not_eq_true', decide_eq_true_eq, decide_eq_false_iff_not, Option.isNone_iff_eq_none, imp_iff_not_or,
      Bool.not_eq_true, and_assoc]
    exact and_congr_right' and_comm
  simp only [State.interlocked, List.all_eq_true, hv]
  exact ⟨fun h v => h v v.mem_all, fun h v _ => h v⟩

theorem State.acts_iff (s : State) (v : Vault) : s.acts v = true ↔ s.configured = true ∧ s.enabled v = true := by
  simp [State.acts]

/-- With the idle vaults at rest, the claims of the SSQs are those of their states where they are so at the enabled vaults. -/
theorem State.claimsSound_iff {s : State} (h : s.restSound = true) : s.claimsSound = true ↔ ∀ v, s.claimedAt v := by
  simp only [State.claimsSound, List.all_eq_true, decide_eq_true_eq]
  refine ⟨fun hc v _ => hc v v.mem_all, fun hc v _ => ?_⟩
  rcases (s.restSound_iff.1 h).1 v with ha | hr
  · exact hc v ((s.acts_iff v).1 ha).2
  · obtain ⟨-, -, -, hclaims, -, hseq, -⟩ := (s.atRest_iff v).1 hr
    rw [hclaims, hseq]
    rfl

/-- What the commands do to the state, as the laws of the vaults see it: they do not undo the configuration read, and keep
the laws of the doors, the rest of the idle vaults and the claims of the SSQs. -/
structure SiteStep (s t : State) : Prop where
  configured : s.configured = true → t.configured = true
  whole : (∀ v, s.wholeAt v) → ∀ v, t.wholeAt v
  rest : s.restSound = true → t.restSound = true
  claimed : s.restSound = true → (∀ v, s.claimedAt v) → ∀ v, t.claimedAt v

theorem State.recordsOf_beyond {v w : Vault} {s t : State} (h : t.beyond v = s.beyond v) (hw : w ≠ v) :
    t.recordsOf w = s.recordsOf w := by
  obtain ⟨h, -, -⟩ := State.othersKept_of_beyond h
  obtain ⟨hl, hc, hr, hp, hd, ho, hq⟩ := h w hw
  simp only [State.recordsOf, hl, hr, Prod.mk.injEq, true_and]
  exact ⟨hc, hp, hd, ho, hq⟩

theorem State.configured_of_beyond {v : Vault} {s t : State} (h : t.beyond v = s.beyond v) : t.configured = s.configured := by
  have hp : t.phase = s.phase := congrArg (·.1) h
  have hk : t.scanPos = s.scanPos := congrArg (fun x => x.2.1) h
  simp only [State.configured, hp, hk]

theorem State.acts_of_beyond {v : Vault} {s t : State} (h : t.beyond v = s.beyond v) : t.acts = s.acts := by
  funext w
  rw [State.acts, State.acts, State.configured_of_beyond h, State.enabled_of_beyond h]

theorem State.wholeAt_congr {s t : State} {w : Vault} (h : t.recordsOf w = s.recordsOf w) : t.wholeAt w ↔ s.wholeAt w := by
  simp only [State.recordsOf, Prod.mk.injEq] at h
  obtain ⟨-, -, -, -, hd, -, hq⟩ := h
  simp only [State.wholeAt, State.releasedAt, State.door, State.sequencer, hd, hq]

theorem State.claimedAt_congr {s t : State} {w : Vault} (h : t.recordsOf w = s.recordsOf w) (he : t.enabled w = s.enabled w) :
    t.claimedAt w ↔ s.claimedAt w := by
  simp only [State.recordsOf, Prod.mk.injEq] at h
  obtain ⟨-, hc, -, -, -, -, hq⟩ := h
  simp only [State.claimedAt, State.claimSet, State.sequencer, hc, hq, he]

namespace SiteStep

variable {s₀ s t : State} {v : Vault}

theorem refl (s : State) : SiteStep s s := ⟨id, id, id, fun _ => id⟩

theorem trans (h : SiteStep s₀ s) (h' : SiteStep s t) : SiteStep s₀ t :=
  ⟨h'.configured ∘ h.configured, h'.whole ∘ h.whole, h'.rest ∘ h.rest, fun hr hc => h'.claimed (h.rest hr) (h.claimed hr hc)⟩

theorem ite {p : Prop} [Decidable p] {a b : State} (ha : SiteStep s a) (hb : SiteStep s b) :
    SiteStep s (if p then a else b) := by
  split
  · exact ha
  · exact hb

/-- What the blocks of a vault do is a step of the part where a vault that does not act stays at rest. -/
theorem vault (h : SiteStep s₀ s) (hv : VaultStep v s t)
    (hr : s₀.restSound = true → s.acts v = false → s.atRest v = true → t.atRest v = true) : SiteStep s₀ t := by
  obtain ⟨-, hlqu, hrline⟩ := State.othersKept_of_beyond hv.beyond
  have hothers {w : Vault} (hw : w ≠ v) := State.recordsOf_beyond hv.beyond hw
  have hacts := State.acts_of_beyond hv.beyond
  have hconf := State.configured_of_beyond hv.beyond
  refine ⟨fun hc => hconf.trans (h.configured hc), fun hw w => ?_, fun hs => ?_, fun hs hc w => ?_⟩
  · obtain rfl | hne := eq_or_ne w v
    · exact hv.whole (h.whole hw w)
    · exact (State.wholeAt_congr (hothers hne)).2 (h.whole hw w)
  · have hsound := h.rest hs
    rw [State.restSound_iff] at hsound ⊢
    obtain ⟨hall, hcount, hline, hphase⟩ := hsound
    have hp : t.phase = s.phase := congrArg (·.1) hv.beyond
    have hk : t.scanPos = s.scanPos := congrArg (fun x => x.2.1) hv.beyond
    rw [hp, hk, hacts, hrline, hconf, State.linesRest, hrline, hlqu]
    refine ⟨fun w => ?_, hcount, hline, hphase⟩
    obtain rfl | hne := eq_or_ne w v
    · cases ha : s.acts w with
      | true => exact .inl rfl
      | false => exact .inr (hr hs ha ((hall w).resolve_left (by simp [ha])))
    · rw [State.atRest_congr (hothers hne)]
      exact hall w
  · obtain rfl | hne := eq_or_ne w v
    · exact hv.claimed (h.claimed hs hc w)
    · exact (State.claimedAt_congr (hothers hne) (congrFun (State.enabled_of_beyond hv.beyond) w)).2 (h.claimed hs hc w)

/-- What the blocks of a vault do that acts. -/
theorem acting (h : SiteStep s₀ s) (hv : VaultStep v s t) (ha : s₀.restSound = true → s.acts v = true) : SiteStep s₀ t :=
  h.vault hv fun hs hn _ => absurd (ha hs) (by simp [hn])

/-- What the blocks of a vault do that changes nothing at a vault at rest. -/
theorem still (h : SiteStep s₀ s) (hv : VaultStep v s t) (hr : s.atRest v = true → t = s) : SiteStep s₀ t :=
  h.vault hv fun _ _ hrest => by rw [hr hrest, hrest]

/-- A change of nothing that the laws of the vaults read. -/
theorem of_blocks (h : SiteStep s₀ s) (hb : t.blocks = s.blocks) : SiteStep s₀ t := by
  refine h.vault (v := .v0) (DoorStep.of_blocks (.refl _ s) hb).toVault fun _ _ hrest => ?_
  simp only [State.blocks, Prod.mk.injEq] at hb
  obtain ⟨-, -, -, -, -, hl, hc, hr, hp, hd, ho, hq⟩ := hb
  rw [State.atRest_congr (s := s) (by simp only [State.recordsOf, hl, hc, hr, hp, hd, ho, hq]), hrest]

/-- The LQU of a part that is configured. -/
theorem withLqu (h : SiteStep s₀ s) (l : Lqu) (hc : s₀.restSound = true → s₀.configured = true) : SiteStep s₀ (s.withLqu l) := by
  refine ⟨h.configured, h.whole, fun hs => ?_, h.claimed⟩
  have hsound := h.rest hs
  rw [State.restSound_iff] at hsound ⊢
  obtain ⟨hall, hcount, -, hphase⟩ := hsound
  exact ⟨hall, hcount, .inl (h.configured (hc hs)), hphase⟩

/-- The reader line of a part that is configured, where it counts the reply of no reader or of one whose vault acts. -/
theorem withReaderLine (h : SiteStep s₀ s) (l : ReaderLine) (hc : s₀.restSound = true → s₀.configured = true)
    (ha : s₀.restSound = true → ∀ a, l.counted = some a → s.acts a.vault = true) : SiteStep s₀ (s.withReaderLine l) := by
  refine ⟨h.configured, h.whole, fun hs => ?_, h.claimed⟩
  have hsound := h.rest hs
  rw [State.restSound_iff] at hsound ⊢
  obtain ⟨hall, -, -, hphase⟩ := hsound
  exact ⟨hall, ha hs, .inl (h.configured (hc hs)), hphase⟩

theorem eachVault {f : Vault → State → State} (hf : ∀ v s, SiteStep s₀ s → SiteStep s₀ (f v s)) (h : SiteStep s₀ s) :
    SiteStep s₀ (eachVault f s) :=
  eachVault_keeps f hf h

/-- A vault that does not act, of a part that is configured, is not enabled. -/
theorem disabled (h : SiteStep s₀ s) (hc : s₀.configured = true) (ha : s.acts v = false) : s.enabled v = false := by
  simpa [State.acts, h.configured hc] using ha

end SiteStep

/-- A reader line that is not quiet, or site functions of the LQU that do not rest, tell of the configuration read. -/
theorem State.configured_of_line {s : State} (hs : s.restSound = true) (h : ¬ s.linesRest) : s.configured = true :=
  ((s.restSound_iff.1 hs).2.2.1).resolve_right h

end Sys2Proof.Machine

namespace Sys2Proof.Machine

/-! ### What touches no block of a vault -/

@[simp] theorem State.withNva_blocks (s : State) (n : Nva) : (s.withNva n).blocks = s.blocks := rfl
@[simp] theorem State.withIndex_blocks (s : State) (i : List (Nat × Nat)) : (s.withIndex i).blocks = s.blocks := rfl
@[simp] theorem State.withFailures_blocks (s : State) (f : List FailureEntry) : (s.withFailures f).blocks = s.blocks := rfl
@[simp] theorem State.withAtu_blocks (s : State) (a : Atu) : (s.withAtu a).blocks = s.blocks := rfl
@[simp] theorem State.withLink_blocks (s : State) (l : Link) : (s.withLink l).blocks = s.blocks := rfl
@[simp] theorem State.withCal_blocks (s : State) (c : Cal) : (s.withCal c).blocks = s.blocks := rfl
@[simp] theorem State.withSite_blocks (s : State) (g : SiteGroup) : (s.withSite g).blocks = s.blocks := rfl
@[simp] theorem State.withStaged_blocks (s : State) (v : Vault) (p : SuppressionSet) :
    (s.withStaged v p).blocks = s.blocks := rfl
@[simp] theorem causeStore_blocks (s : State) : (causeStore s).blocks = s.blocks := rfl
@[simp] theorem causeClock_blocks (s : State) : (causeClock s).blocks = s.blocks := rfl

@[simp] theorem raised_blocks_eq (key : AlarmKey) (s : State) : (raised key s).blocks = s.blocks := raised_blocks key s
@[simp] theorem endCondition_blocks_eq (key : AlarmKey) (s : State) : (endCondition key s).blocks = s.blocks :=
  endCondition_blocks key s

theorem lineFault_blocks (id : LineIdentity) (new : Reading) (s : State) : (lineFault id new s).blocks = s.blocks := by
  cases new <;> simp [lineFault]

@[simp] theorem startAttempt_blocks (s : State) : (startAttempt s).blocks = s.blocks := by
  unfold startAttempt
  (repeat' split) <;> rfl

@[simp] theorem place_blocks (i : Image) (s : State) : (place i s).blocks = s.blocks := by
  unfold place
  dsimp only
  split <;> simp

@[simp] theorem placeConfig_blocks (s : State) : (placeConfig s).blocks = s.blocks := place_blocks _ s

@[simp] theorem placeOrOweConfig_blocks (s : State) : (placeOrOweConfig s).blocks = s.blocks := by
  unfold placeOrOweConfig
  split <;> simp

@[simp] theorem placeOwed_blocks (s : State) : (placeOwed s).blocks = s.blocks := by
  unfold placeOwed
  split <;> simp

@[simp] theorem forget_blocks (k : Nat) (s : State) : (forget k s).blocks = s.blocks := rfl

@[simp] theorem recordFailure_blocks (k : Nat) (s : State) : (recordFailure k s).blocks = s.blocks := by
  unfold recordFailure
  dsimp only
  (repeat' split) <;> rfl

@[simp] theorem ageFailures_blocks (s : State) : (ageFailures s).blocks = s.blocks := rfl

@[simp] theorem damage_blocks (t : Target) (number : Option Nat) (s : State) : (damage t number s).blocks = s.blocks := by
  unfold damage
  cases t
  case slot => cases number <;> simp
  all_goals simp

@[simp] theorem entryLeft_blocks (s : State) : (entryLeft s).blocks = s.blocks := by
  unfold entryLeft
  dsimp only
  split <;> simp

@[simp] theorem eraseNext_blocks (e : ErasePass) (s : State) : (eraseNext e s).blocks = s.blocks := by
  unfold eraseNext
  split <;> simp

@[simp] theorem eraseCompleted_blocks (e : ErasePass) (good : Bool) (s : State) :
    (eraseCompleted e good s).blocks = s.blocks := by
  unfold eraseCompleted
  dsimp only
  (repeat' split) <;> simp

@[simp] theorem queueCompleted_blocks (good : Bool) (s : State) : (queueCompleted good s).blocks = s.blocks := by
  unfold queueCompleted
  (repeat' split) <;> simp

theorem attemptCompleted_blocks (outcome : AttemptOutcome) (s : State) : (attemptCompleted outcome s).blocks = s.blocks := by
  unfold attemptCompleted
  split
  · rfl
  · dsimp only
    (repeat' split) <;> simp <;> rfl

@[simp] theorem deviceChange_blocks (slot : Nat) (f : CredRecord → CredRecord) (s : State) :
    (deviceChange slot f s).1.blocks = s.blocks := by
  unfold deviceChange
  (repeat' split) <;> simp

@[simp] theorem decrementUses_blocks (k : Nat) (s : State) : (decrementUses k s).blocks = s.blocks := by
  unfold decrementUses
  (repeat' split) <;> simp

@[simp] theorem suspendLockedOut_blocks (k : Nat) (s : State) : (suspendLockedOut k s).blocks = s.blocks := by
  unfold suspendLockedOut
  dsimp only
  (repeat' split) <;> simp

theorem repeatLockouts_blocks (s : State) : (repeatLockouts s).blocks = s.blocks :=
  foldl_part State.blocks _ (fun u k => suspendLockedOut_blocks k u) _ s

theorem referenceLost_blocks (s : State) : (referenceLost s).blocks = s.blocks := raised_blocks _ _

theorem referenceReturned_blocks (s : State) : (referenceReturned s).blocks = s.blocks := by
  unfold referenceReturned
  dsimp only
  split
  · rfl
  · exact endCondition_blocks _ _

theorem referenceGap_blocks (s : State) : (referenceGap s).blocks = s.blocks := by
  unfold referenceGap
  split
  · exact referenceLost_blocks s
  · exact referenceLost_blocks s
  · rfl

theorem referenceGood_blocks (s : State) : (referenceGood s).blocks = s.blocks := by
  unfold referenceGood
  split
  · exact referenceReturned_blocks s
  · rfl
  · rfl

theorem writeLow_blocks (s : State) : (writeLow s).blocks = s.blocks := by
  unfold writeLow
  split <;> rfl

theorem supplyReturned_blocks (s : State) : (supplyReturned s).blocks = s.blocks := by
  unfold supplyReturned
  split
  · exact startAttempt_blocks _
  · rfl

theorem readHolidayTarget_blocks (s : State) : (readHolidayTarget s).blocks = s.blocks := by
  unfold readHolidayTarget
  (repeat' split) <;> simp

theorem readScheduleTarget_blocks (n : Nat) (s : State) : (readScheduleTarget n s).blocks = s.blocks := by
  unfold readScheduleTarget
  split <;> simp

theorem readSlotTarget_blocks (n : Nat) (s : State) : (readSlotTarget n s).blocks = s.blocks := by
  unfold readSlotTarget
  (repeat' split) <;> simp

theorem readTarget_blocks (k : Nat) (s : State) : (readTarget k s).blocks = s.blocks := by
  unfold readTarget
  split
  · exact readHolidayTarget_blocks s
  · split
    · exact readScheduleTarget_blocks _ s
    · exact readSlotTarget_blocks _ s

theorem escalate_blocks (id : Nat) (s : State) : (escalate id s).blocks = s.blocks := rfl

/-! ### The requests that touch no block of a vault -/

section
variable {f : Vault → Service} {g : Nat → CredRecord → Service} {s : State}

theorem onVault_blocks {n : Nat} (h : ∀ v, (f v s).1.blocks = s.blocks) : (onVault n f s).1.blocks = s.blocks := by
  unfold onVault
  split
  · rfl
  · exact h _

theorem onNumber_blocks {n : Nat} (h : ∀ slot r, (g slot r s).1.blocks = s.blocks) : (onNumber n g s).1.blocks = s.blocks := by
  unfold onNumber
  split
  · rfl
  · split
    · rfl
    · exact h _ _

theorem onRecord_blocks {n : Nat} (h : ∀ slot r, (g slot r s).1.blocks = s.blocks) : (onRecord n g s).1.blocks = s.blocks := by
  refine onNumber_blocks fun slot r => ?_
  split
  · rfl
  · exact h slot r

theorem onSlot_blocks {n : Nat} {k : SlotContent → Service} (h : ∀ c, (k c s).1.blocks = s.blocks) :
    (onSlot n k s).1.blocks = s.blocks := by
  unfold onSlot
  split
  · rfl
  · split
    · rfl
    · exact h _

theorem onAlarm_blocks {n : Nat} {k : AlarmRecord → Service} (h : ∀ r, (k r s).1.blocks = s.blocks) :
    (onAlarm n k s).1.blocks = s.blocks := by
  unfold onAlarm
  split
  · rfl
  · split
    · rfl
    · exact h _

end

@[simp] theorem refuse_fst (st : Status) (s : State) : (refuse st s).1 = s := rfl
@[simp] theorem refuseFor_fst (v : Verdict) (s : State) : (refuseFor v s).1 = s := rfl
@[simp] theorem ok_fst (b : Body) (s : State) : (ok b s).1 = s := rfl
@[simp] theorem changed_fst (slot : Nat) (s : State) : (changed slot s).1 = s := rfl

@[simp] theorem forgetSome_blocks (k : Option Nat) (s : State) : (forgetSome k s).blocks = s.blocks := by
  cases k <;> simp [forgetSome]

@[simp] theorem placeRecord_blocks (slot : Nat) (r : CredRecord) (s : State) : (placeRecord slot r s).blocks = s.blocks :=
  place_blocks _ s

theorem lookupCredential_blocks (k : Nat) (s : State) : (lookupCredential k s).1.blocks = s.blocks :=
  onNumber_blocks fun _ _ => rfl

theorem readSlot_blocks (k : Nat) (s : State) : (readSlot k s).1.blocks = s.blocks := by
  unfold readSlot
  split <;> rfl

theorem writeCredential_blocks (w : CredentialWrite) (s : State) : (writeCredential w s).1.blocks = s.blocks := by
  refine onSlot_blocks fun c => ?_
  (repeat' split) <;> simp

theorem changeVaults_blocks (k : Nat) (next : VaultSet → VaultSet) (s : State) :
    (changeVaults k next s).1.blocks = s.blocks := by
  refine onRecord_blocks fun slot r => ?_
  dsimp only
  (repeat' split) <;> simp

theorem suspend_blocks (k : Nat) (s : State) : (suspend k s).1.blocks = s.blocks := by
  refine onRecord_blocks fun slot r => ?_
  (repeat' split) <;> simp

theorem reinstate_blocks (k : Nat) (s : State) : (reinstate k s).1.blocks = s.blocks := by
  refine onRecord_blocks fun slot r => ?_
  (repeat' split) <;> simp

theorem retire_blocks (k : Nat) (s : State) : (retire k s).1.blocks = s.blocks := by
  refine onRecord_blocks fun slot r => ?_
  (repeat' split) <;> simp

theorem purge_blocks (slot : Nat) (s : State) : (purge slot s).1.blocks = s.blocks := by
  refine onSlot_blocks fun c => ?_
  (repeat' split) <;> simp

theorem findFreeSlot_blocks (s : State) : (findFreeSlot s).1.blocks = s.blocks := by
  unfold findFreeSlot
  split <;> rfl

theorem setCommissioningLock_blocks (s : State) : (setCommissioningLock s).1.blocks = s.blocks := by
  unfold setCommissioningLock
  split
  · rfl
  · split
    · rfl
    · exact placeConfig_blocks _

theorem writeHolidays_blocks (days : List Nat) (s : State) : (writeHolidays days s).1.blocks = s.blocks := by
  unfold writeHolidays
  (repeat' split)
  · rfl
  · rfl
  · rfl
  · exact place_blocks _ _

theorem writeSchedule_blocks (n : Nat) (w : List Window) (s : State) : (writeSchedule n w s).1.blocks = s.blocks := by
  unfold writeSchedule
  (repeat' split)
  · rfl
  · rfl
  · rfl
  · rfl
  · exact place_blocks _ _

theorem readSchedule_blocks (n : Nat) (s : State) : (readSchedule n s).1.blocks = s.blocks := by
  unfold readSchedule
  split <;> rfl

theorem getLineStatus_blocks (scope : SiteScope) (s : State) : (getLineStatus scope s).1.blocks = s.blocks := by
  cases scope with
  | vault n => exact onVault_blocks fun _ => rfl
  | site => rfl
  | other => rfl

theorem getReaderStatus_blocks (scope : ReaderScope) (s : State) : (getReaderStatus scope s).1.blocks = s.blocks := by
  unfold getReaderStatus
  (repeat' split) <;> rfl

theorem setSuppressionParams_blocks (n : Nat) (p : SuppressionWrite) (s : State) :
    (setSuppressionParams n p s).1.blocks = s.blocks := by
  refine onVault_blocks fun v => ?_
  dsimp only
  (repeat' split) <;> simp

theorem listAlarms_blocks (start : Nat) (filter : Option AlarmFilter) (s : State) :
    (listAlarms start filter s).1.blocks = s.blocks := by
  unfold listAlarms
  dsimp only
  (repeat' split) <;> simp

theorem readParams_blocks (scope : SiteScope) (s : State) : (readParams scope s).1.blocks = s.blocks := by
  cases scope with
  | vault n => exact onVault_blocks fun _ => rfl
  | site => rfl
  | other => rfl

end Sys2Proof.Machine

namespace Sys2Proof.Machine

/-! ### A vault at rest takes no part in what the blocks do -/

section
variable {v : Vault} {s : State}

theorem State.atRest_line (h : s.atRest v = true) (l : Line) : s.lineRecord v l = unqualified := by
  obtain ⟨hl, -⟩ := (s.atRest_iff v).1 h
  rw [State.lineRecord, hl]
  exact PerLine.get_make _ l

/-- No event of a vault at rest is due. -/
theorem stillDue_atRest {d : Due} (hv : d.vault = some v) (h : s.atRest v = true) : s.stillDue d = false := by
  have hline := State.atRest_line h
  obtain ⟨hl, hdoor, hpair, hclaims, hocc, hseq, -⟩ := (s.atRest_iff v).1 h
  cases d <;> cases hv
  case line l => rw [State.stillDue, hline]; rfl
  case held which => cases which <;> rw [State.stillDue, hdoor] <;> rfl
  case chirp => simp [State.stillDue, VaultOccupancy.remaining, hocc]
  case loneWorker => simp [State.stillDue, VaultOccupancy.remaining, hocc, lastTick]
  case testClaim => rw [State.stillDue, hclaims]; rfl
  case pairWindow => rw [State.stillDue, hpair]; rfl
  case outerGrant | vaultGrant | egressRelease | travel | relock => rw [State.stillDue, hdoor]; rfl
  case countdown | abortHold | pulse | confirmWait | soak => rw [State.stillDue, hseq]; rfl
  case release => rw [State.stillDue, hl]; rfl

theorem performDue_atRest {d : Due} (hv : d.vault = some v) (h : s.atRest v = true) : performDue d s = s := by
  rw [performDue, stillDue_atRest hv h]
  rfl

theorem claim_atRest (h : s.atRest v = true) {f : ClaimSet → ClaimSet} (hf : f noClaims = noClaims) : claim v f s = s := by
  obtain ⟨-, -, -, hclaims, -⟩ := (s.atRest_iff v).1 h
  have hsame : s.withClaimSet v noClaims = s := by
    rw [← hclaims, State.withClaimSet, State.claimSet, PerVault.set_get]
  unfold claim
  rw [hclaims, hf, ClaimSet.changed, if_pos rfl]
  split
  · exact hsame
  · rfl

theorem recheckHolds_atRest (h : s.atRest v = true) : recheckHolds v s = s := by
  obtain ⟨-, -, -, -, -, hseq, -⟩ := (s.atRest_iff v).1 h
  unfold recheckHolds
  rw [hseq]
  rfl

theorem trimEntering_atRest (h : s.atRest v = true) (keep : EnteringEntry → Bool) : trimEntering v keep s = s := by
  obtain ⟨-, hdoor, -⟩ := (s.atRest_iff v).1 h
  unfold trimEntering
  rw [hdoor]
  rfl

theorem lapsePair_atRest (h : s.atRest v = true) : lapsePair v s = s := by
  obtain ⟨-, -, hpair, -⟩ := (s.atRest_iff v).1 h
  exact lapsePair_none hpair

theorem lockdownVault_atRest (h : s.atRest v = true) : lockdownVault v s = s := by
  rw [lockdownVault, trimEntering_atRest h, lapsePair_atRest h]

theorem releaseEnds_atRest (h : s.atRest v = true) : releaseEnds v s = s := by
  obtain ⟨-, hdoor, -⟩ := (s.atRest_iff v).1 h
  refine if_neg fun hc => ?_
  rw [hdoor] at hc
  exact Bool.noConfusion hc.2.1

theorem settleLone_atRest (h : s.atRest v = true) : settleLone v s = s := by
  obtain ⟨-, -, -, -, hocc, -⟩ := (s.atRest_iff v).1 h
  have hlone : s.loneApplies v = false := by simp [State.loneApplies, State.count, hocc]
  have hsame : s.withOccupancy v { s.occupancy v with entries := [] } = s := by
    rw [← hocc]
    exact congrArg (fun o => { s with occ := o }) (s.occ.set_get v)
  unfold settleLone
  simp only [hlone, hocc, List.foldl_nil, List.map_nil, hsame, Bool.false_eq_true, if_false]
  exact claim_atRest h rfl

end

/-! ### What the commands do at the site -/

section
variable {s₀ s : State} (hc : s₀.restSound = true → s₀.configured = true)

theorem recheckAllHolds_site (h : SiteStep s₀ s) : SiteStep s₀ (recheckAllHolds s) :=
  .eachVault (fun v u hu => hu.still (recheckHolds_step (.refl v u)) recheckHolds_atRest) h

theorem lapseAll_site (h : SiteStep s₀ s) : SiteStep s₀ (eachVault lapsePair s) :=
  .eachVault (fun v u hu => hu.still (lapsePair_step (.refl v u)).toVault lapsePair_atRest) h

theorem settleAll_site (h : SiteStep s₀ s) : SiteStep s₀ (eachVault settleLone s) :=
  .eachVault (fun v u hu => hu.still (settleLone_step (.refl v u)).toVault settleLone_atRest) h

theorem setMode_site (mode : Mode) (auto : Bool) (h : SiteStep s₀ s) : SiteStep s₀ (setMode mode auto s) := by
  unfold setMode
  dsimp only
  have hset : SiteStep s₀ (causeMode { s with mode := mode, auto := auto }) := h.of_blocks rfl
  refine SiteStep.ite h (SiteStep.ite hset (settleAll_site (SiteStep.ite ?_ (SiteStep.ite (lapseAll_site hset) hset))))
  exact .eachVault (fun v u hu => hu.still (lockdownVault_step (.refl v u)).toVault lockdownVault_atRest) hset

theorem evaluateMode_site (h : SiteStep s₀ s) : SiteStep s₀ (evaluateMode s) := .ite (setMode_site _ _ h) h

theorem minuteEvent_site (h : SiteStep s₀ s) : SiteStep s₀ (minuteEvent s) := by
  have hage : SiteStep s₀ (ageFailures s) := h.of_blocks (ageFailures_blocks s)
  exact SiteStep.ite ((evaluateMode_site hage).of_blocks (repeatLockouts_blocks _)) hage

/-- What a vault that is not enabled takes no part in, in a part that is configured. -/
theorem SiteStep.enabledOnly (h : SiteStep s₀ s) {v : Vault} {t : State} (hv : VaultStep v s t)
    (hr : s.enabled v = false → s.atRest v = true → t = s) (hc : s₀.restSound = true → s₀.configured = true) : SiteStep s₀ t :=
  h.vault hv fun hs ha hrest => by rw [hr (h.disabled (hc hs) ha) hrest, hrest]

theorem latchVault_idle {v : Vault} (h : s.enabled v = false) : latchVault v s = s := if_neg (Bool.eq_false_iff.1 h)

include hc

theorem evacuationCompleted_site (h : SiteStep s₀ s) : SiteStep s₀ (evacuationCompleted s) := by
  unfold evacuationCompleted
  dsimp only
  have hraise : SiteStep s₀ (raise siteEvacuationKey (s.withAtu { s.atu with latch := true })).1 :=
    h.of_blocks (raised_blocks siteEvacuationKey (s.withAtu { s.atu with latch := true }))
  refine SiteStep.ite (h.of_blocks (raised_blocks _ s)) (.eachVault (fun v u hu => ?_) (SiteStep.ite ?_ hraise))
  · exact hu.enabledOnly (latchVault_step (.refl v u)).toVault (fun he _ => latchVault_idle he) hc
  · exact hraise.of_blocks rfl

theorem latchEnds_site (h : SiteStep s₀ s) : SiteStep s₀ (latchEnds s) := by
  refine .eachVault (fun v u hu => ?_) (h.of_blocks rfl)
  refine hu.enabledOnly (releaseEnds_step (claimSiteEvacuate_step false (.refl v u)).toVault) (fun he hrest => ?_) hc
  rw [claimSiteEvacuate, claim_idle he, releaseEnds_atRest hrest]

theorem completeCombination_site (h : SiteStep s₀ s) : SiteStep s₀ (completeCombination s) :=
  evacuationCompleted_site hc (h.withLqu _ hc)

theorem judgeHoldAll_site (h : SiteStep s₀ s) : SiteStep s₀ (judgeHoldAll s) :=
  .ite h (recheckAllHolds_site (h.withLqu _ hc))

theorem judgeCombination_site (h : SiteStep s₀ s) : SiteStep s₀ (judgeCombination s) := .ite h (h.withLqu _ hc)

theorem takeSiteLine_site (i : SiteLine) (h : SiteStep s₀ s) : SiteStep s₀ (takeSiteLine i s) := by
  unfold takeSiteLine
  dsimp only
  split
  · exact h
  · next new _ =>
    have hq : SiteStep s₀ (s.withLqu { s.lqu with site := s.lqu.site.set i (s.lqu.site.get i).changed }) := h.withLqu _ hc
    have hf := hq.of_blocks (lineFault_blocks (.siteLine i) new _)
    split
    · exact hq
    · exact judgeHoldAll_site hc hf
    · exact judgeCombination_site hc hf

end

/-! ### The events of a tick -/

theorem perform_site_vault {d : Due} {v : Vault} (hv : d.vault = some v) {s₀ s : State} (h : SiteStep s₀ s) :
    SiteStep s₀ (performDue d s) := by
  refine h.still (v := v) ?_ (performDue_atRest hv)
  exact VaultStep.ite (perform_step hv (.refl v s)) (.refl v s)

theorem performDue_site (d : Due) (s : State) : SiteStep s (performDue d s) := by
  have h := SiteStep.refl s
  cases hv : d.vault with
  | some v => exact perform_site_vault hv h
  | none =>
    unfold performDue
    split
    · next hd =>
      cases d <;> cases hv
      case startUpTimeout => exact h.of_blocks (referenceLost_blocks s)
      case minute => exact minuteEvent_site h
      case escalation id => exact h.of_blocks rfl
      case evacuation =>
        refine completeCombination_site (fun hs => State.configured_of_line hs fun hl => ?_) h
        rw [State.stillDue, State.combinationDue, hl.2.2] at hd
        exact Bool.noConfusion hd
      case siteLine i =>
        refine takeSiteLine_site (fun hs => State.configured_of_line hs fun hl => ?_) i h
        rw [State.stillDue, hl.2.2] at hd
        cases i <;> exact Bool.noConfusion hd
    · exact h

theorem settle_site (s : State) : SiteStep s (settle s) := by
  have hfold := foldl_keeps (P := SiteStep s) (fun s d => performDue d s) (fun u d hu => hu.trans (performDue_site d u)) s.due
    (SiteStep.refl s)
  exact hfold.of_blocks rfl

theorem takeDue_site (d : Due) (s : State) : SiteStep s (takeDue d s) := by
  have hw : SiteStep s { s with due := s.due.erase d } := (SiteStep.refl s).of_blocks rfl
  exact .ite (hw.trans (performDue_site d _)) (.refl s)

end Sys2Proof.Machine

namespace Sys2Proof.Machine

/-! ### A presentation is a step of the reader's vault -/

section
variable {v : Vault} {s₀ s : State}

theorem checkEntry_blocks (v : Vault) (number : Nat) (digits : List Nat) (except : Option Vault) (s : State) :
    (checkEntry v number digits except s).1.blocks = s.blocks := by
  unfold checkEntry
  dsimp only
  (repeat' split) <;> simp

theorem checkEntry_step (number : Nat) (digits : List Nat) (except : Option Vault) (h : DoorStep v s₀ s) :
    DoorStep v s₀ (checkEntry v number digits except s).1 := h.of_blocks (checkEntry_blocks v number digits except s)

/-- An ENTRY grant is given while the vault door is SECURED and the outer door LOCKED (R106). -/
theorem presentOuter_step (number : Nat) (digits : List Nat) (h : DoorStep v s₀ s) :
    DoorStep v s₀ (presentOuter v number digits s).1 := by
  have hc := checkEntry_step number digits none h
  unfold presentOuter
  split
  · next he => rwa [he] at hc
  · next u slot r _ he =>
    rw [he] at hc
    split
    · exact hc
    · next hdoors =>
      obtain ⟨hvault, houter⟩ := not_or.1 hdoors
      split
      · exact hc
      · have hdoor : (decrementUses number u).door v = u.door v := by
          have hb := decrementUses_blocks number u
          simp only [State.blocks, Prod.mk.injEq] at hb
          obtain ⟨-, -, -, -, -, -, -, -, -, hd, -, -⟩ := hb
          rw [State.door, hd]
          rfl
        refine recordOuterGrant_step (hc.of_blocks (decrementUses_blocks number u)) ?_ (.inr ?_)
        · rw [hdoor, not_not.1 houter]
          exact OuterState.noConfusion
        · rw [hdoor, not_not.1 hvault]

theorem admitSet_step (set : List EnteringEntry) (pair : Bool) (h : DoorStep v s₀ s) :
    DoorStep v s₀ (admitSet v set pair s).1 := by
  have hp : DoorStep v s₀ (if pair then s.withPair v none else s) := .ite (h.withPair none) h
  have hf := foldl_step (f := fun s (e : EnteringEntry) => decrementUses e.number s)
    (fun u e hu => hu.of_blocks (decrementUses_blocks e.number u)) set hp
  unfold admitSet
  split
  · exact h
  · split
    · exact h
    · exact recordGrant_step _ hf

theorem decideAlone_step (number : Nat) (duress : Bool) (h : DoorStep v s₀ s) :
    DoorStep v s₀ (decideAlone v number duress s).1 := by
  unfold decideAlone
  (repeat' split)
  · exact h.withPair _
  · exact h
  · exact h.withPair _
  · exact admitSet_step _ false h

theorem meetPair_step (p : PendingPair) (number : Nat) (duress : Bool) (h : DoorStep v s₀ s) :
    DoorStep v s₀ (meetPair v p number duress s).1 := by
  unfold meetPair
  (repeat' split)
  · exact decideAlone_step number duress (h.withPair none)
  · exact admitSet_step _ true h
  · exact h
  · exact admitSet_step _ false h

theorem firstAgain_step (p : PendingPair) (duress : Bool) (h : DoorStep v s₀ s) :
    DoorStep v s₀ (firstAgain v p duress s).1 := by
  unfold firstAgain
  split
  · exact h.withPair _
  · exact decideAlone_step p.first duress (h.withPair none)

theorem presentInner_step (number : Nat) (digits : List Nat) (h : DoorStep v s₀ s) :
    DoorStep v s₀ (presentInner v number digits s).1 := by
  have hc := checkEntry_step number digits (some v) h
  unfold presentInner
  split
  · next he => rwa [he] at hc
  · next he =>
    rw [he] at hc
    dsimp only
    (repeat' split)
    · exact hc
    · exact hc
    · exact decideAlone_step number _ hc
    · exact firstAgain_step _ _ hc
    · exact meetPair_step _ number _ hc

theorem appendExit_step (g : VaultGrant) (number : Nat) (h : DoorStep v s₀ s) : DoorStep v s₀ (appendExit v g number s) := by
  unfold appendExit
  have hd (g' : VaultGrant) : DoorStep v s₀ (s.withDoor v { s.door v with vaultGrant := some g' }) := h.withDoor rfl
  refine DoorStep.ite h (DoorStep.ite ?_ (hd _))
  exact DoorStep.ite (restartEmergencyDrive_step (hd _)) (hd _)

theorem presentExit_step (number : Nat) (h : VaultStep v s₀ s) : VaultStep v s₀ (presentExit v number s).1 := by
  unfold presentExit
  split
  · exact h.run (appendExit_step _ number (.refl v s))
  · exact h
  · exact handExitGrant_step _ h
  · exact handExitGrant_step _ h

theorem presentCheckIn_step (number : Nat) (h : DoorStep v s₀ s) : DoorStep v s₀ (presentCheckIn v number s).1 := by
  unfold presentCheckIn
  split
  · exact checkIn_step _ h
  · exact h

theorem decidePresentation_step {a : ReaderAddress} (number : Nat) (purpose : Purpose) (digits : List Nat)
    (h : VaultStep a.vault s₀ s) : VaultStep a.vault s₀ (decidePresentation a number purpose digits s).1 := by
  have hs := DoorStep.refl a.vault s
  unfold decidePresentation
  (repeat' split)
  · exact h
  · exact h.run (presentOuter_step number digits hs)
  · exact h.run (presentInner_step number digits hs)
  · exact h.run (presentCheckIn_step number hs)
  · exact presentExit_step number h

theorem present_step {a : ReaderAddress} (number : Nat) (purpose : Purpose) (digits : List Nat)
    (h : VaultStep a.vault s₀ s) : VaultStep a.vault s₀ (present a number purpose digits s) := by
  have hv := (decidePresentation_step number purpose digits h).run
    (handVerdict_step (a := a) rfl (decidePresentation a number purpose digits s).2 (some number) (.refl a.vault _))
  unfold present
  dsimp only
  split
  · exact hv.run ((DoorStep.refl a.vault _).of_blocks (suspendLockedOut_blocks number _))
  · exact hv

/-! ### The reader line -/

theorem readerMiss_step (a : ReaderAddress) (h : DoorStep a.vault s₀ s) : DoorStep a.vault s₀ (readerMiss a s) := by
  have hr (r : ReaderRecord) : DoorStep a.vault s₀ (s.withReader a r) := withReader_step rfl r h
  unfold readerMiss
  refine DoorStep.ite (hr _) (DoorStep.ite (DoorStep.ite ?_ ?_) (hr _))
  · exact endCondition_step _ (raised_step _ (hr _))
  · exact raised_step _ (hr _)

theorem goodReply_step (a : ReaderAddress) (tamper : Bool) (h : DoorStep a.vault s₀ s) :
    DoorStep a.vault s₀ (goodReply a tamper s) := by
  have hr (r : ReaderRecord) : DoorStep a.vault s₀ (s.withReader a r) := withReader_step rfl r h
  unfold goodReply
  dsimp only
  split
  · exact DoorStep.ite (raised_step _ (hr _)) (hr _)
  · exact DoorStep.ite (hr _) (endCondition_step _ (hr _))
  · exact DoorStep.ite (raised_step _ (endCondition_step _ (hr _))) (endCondition_step _ (hr _))

theorem takeReply_step (a : ReaderAddress) (bytes : List Byte) (h : VaultStep a.vault s₀ s) :
    VaultStep a.vault s₀ (takeReply a bytes s) := by
  have hg (tamper : Bool) := h.run (goodReply_step a tamper (.refl a.vault s))
  unfold takeReply
  split
  · exact h.run (readerMiss_step a (.refl a.vault s))
  · exact hg false
  · exact hg true
  · next number purpose digits _ =>
    have hp := (hg false).run (withReader_step (a := a) rfl (((goodReply a false s).reader a).presented number) (.refl a.vault _))
    unfold presentReply
    dsimp only
    exact VaultStep.ite hp (present_step number _ digits hp)

end

section
variable {s₀ s : State}

/-- A transaction begins with a reader of an enabled vault. -/
theorem beginTransaction_site (hc : s₀.restSound = true → s₀.configured = true) (h : SiteStep s₀ s) :
    SiteStep s₀ (beginTransaction s) := by
  unfold beginTransaction
  split
  · exact h.withReaderLine _ hc fun _ a ha => by cases ha
  · next a hnext =>
    have hround : a ∈ s.round := by
      unfold State.nextReader at hnext
      split at hnext
      · exact List.mem_of_mem_head? hnext
      · split at hnext
        · next b hb =>
          cases hnext
          exact List.mem_of_find?_eq_some hb
        · exact List.mem_of_mem_head? hnext
    have hen : s.enabled a.vault = true := (List.mem_filter.1 hround).2
    have hact (hs : s₀.restSound = true) : s.acts a.vault = true := (s.acts_iff _).2 ⟨h.configured (hc hs), hen⟩
    have hr := h.acting (withReader_step (a := a) rfl { s.reader a with waiting := none, inFlight := (s.reader a).waiting }
      (.refl a.vault s)).toVault hact
    exact hr.withReaderLine _ hc fun hs b hb => by
      cases hb
      exact hact hs

theorem endTransaction_site (hc : s₀.restSound = true → s₀.configured = true) (h : SiteStep s₀ s) :
    SiteStep s₀ (endTransaction s) :=
  h.withReaderLine _ hc fun _ a ha => by cases ha

/-- An event in a phase of a transaction tells of the configuration read. -/
theorem inLinePhase_site {p : LinePhase} (hp : p ≠ .quiet) {f : State → State}
    (hf : s.rline.phase = p → (s.restSound = true → s.configured = true) → SiteStep s (f s)) :
    SiteStep s (inLinePhase p f s) := by
  unfold inLinePhase
  split
  · next h => exact hf h fun hs => State.configured_of_line hs fun hl => hp (h.symm.trans hl.1)
  · exact .refl s

theorem linePhase_site (p : LinePhase) (hc : s.restSound = true → s.configured = true) : SiteStep s (linePhase p s) :=
  (SiteStep.refl s).withReaderLine _ hc fun hs a ha => (s.restSound_iff.1 hs).2.1 a ha

/-- A reader whose reply counts is one of a vault that acts. -/
theorem counted_site {t : State} {a : ReaderAddress} (hc : s.rline.counted = some a) (h : VaultStep a.vault s t) : SiteStep s t :=
  (SiteStep.refl s).acting h fun hs => (s.restSound_iff.1 hs).2.1 a hc

theorem transactionMissed_site (hc : s.restSound = true → s.configured = true) : SiteStep s (transactionMissed s) := by
  unfold transactionMissed
  refine endTransaction_site hc ?_
  split
  · exact .refl s
  · next a ha => exact counted_site ha (readerMiss_step a (.refl a.vault s)).toVault

theorem transactionReplied_site (bytes : List Byte) (hc : s.restSound = true → s.configured = true) :
    SiteStep s (transactionReplied bytes s) := by
  unfold transactionReplied
  refine endTransaction_site hc ?_
  split
  · exact .refl s
  · next a ha => exact counted_site ha (takeReply_step a bytes (.refl a.vault s))

end

end Sys2Proof.Machine

namespace Sys2Proof.Machine

/-! ### A vault that ceases to be enabled -/

/-- A vault at rest keeps the laws of its doors. -/
theorem State.wholeAt_of_atRest {s : State} {v : Vault} (h : s.atRest v = true) : s.wholeAt v := by
  obtain ⟨-, hdoor, -, -, -, hseq, -⟩ := (s.atRest_iff v).1 h
  refine ⟨?_, fun hi => ?_⟩
  · rw [hdoor]
    exact ⟨rfl, fun he => Bool.noConfusion he⟩
  · rw [hseq] at hi
    exact SsqState.noConfusion hi

theorem ReaderRecord.rests_of_disabled {r q : ReaderRecord} (h : r = q.disabled) :
    r = { resetReader with lastVerdict := r.lastVerdict } := by
  rw [h]
  rfl

theorem SsqRecord.rests_of_reset {q : SsqRecord} {c : SuppressionSet} {b : Bool} (h : q = { resetSsq c with clear := b }) :
    q = { resetSsq q.committed with clear := q.clear } := by
  rw [h]
  rfl

theorem disableReaders_reader (v : Vault) (p : Position) (s : State) :
    (disableReaders v s).reader ⟨v, p⟩ = (s.reader ⟨v, p⟩).disabled := by
  have hend (key : AlarmKey) (u : State) : (endCondition key u).readers = u.readers := by
    rw [endCondition_eq]
  cases p <;>
    simp [disableReaders, State.reader, State.withReader, State.withReaders, VaultReaders.at, VaultReaders.put, hend]

theorem DoorStep.beyond {v : Vault} {s t : State} (h : DoorStep v s t) : t.beyond v = s.beyond v := congrArg (·.1) h.frame

section
variable {v : Vault} {s₀ s : State}

theorem disableReaders_step (h : DoorStep v s₀ s) : DoorStep v s₀ (disableReaders v s) := by
  have one (p : Position) {u : State} (hu : DoorStep v s₀ u) : DoorStep v s₀ (endCondition (readerFaultKey ⟨v, p⟩ .tamper)
      (endCondition (readerFaultKey ⟨v, p⟩ .silent) (u.withReader ⟨v, p⟩ (u.reader ⟨v, p⟩).disabled))) :=
    endCondition_step _ (endCondition_step _ (withReader_step (a := ⟨v, p⟩) rfl _ hu))
  exact one .exit (one .inner (one .outer h))

theorem disableLines_step (h : DoorStep v s₀ s) : DoorStep v s₀ (disableLines v s) :=
  (endCondition_step _ (foldl_step (f := fun s l => endCondition (lineFaultKey (.vaultLine v l)) s)
    (fun _ _ hu => endCondition_step _ hu) _ h)).withLines _

theorem clearOccupants_step (h : DoorStep v s₀ s) : DoorStep v s₀ (clearOccupants v s) :=
  claimChirp_step false (foldl_step (f := fun s e => endOccupant v e s) (fun _ e hu => endOccupant_step e hu) _
    (h.withOccupancy _))

end

theorem disableDoors_beyond (v : Vault) (s : State) : (disableDoors v s).beyond v = s.beyond v := by
  have hends := endHeld_step .vault (endHeld_step .outer (endForced_step .vault (endForced_step .outer (.refl v s))))
  have h : (disableDoors v s).doorFrame v = s.doorFrame v :=
    ((putDoor_doorFrame v resetDoor _).trans (endFaults_doorFrame v _)).trans hends.frame
  exact congrArg (·.1) h

theorem disableSequencer_beyond (v : Vault) (s : State) : (disableSequencer v s).beyond v = s.beyond v := by
  have hfold := foldl_part State.blocks (fun s k => endCondition k s) (fun u k => endCondition_blocks k u)
    [alertKey v .detection, alertKey v .manual, alertKey v .isolated, alertKey v .manualInIsolation,
      vaultEvacuationKey v] (s.withSequencer v (resetSsq (s.sequencer v).committed))
  rw [← State.withSequencer_beyond s v (resetSsq (s.sequencer v).committed)]
  refine State.beyond_blocks v (Eq.trans ?_ hfold)
  unfold disableSequencer
  dsimp only
  generalize List.foldl (fun s k => endCondition k s) (s.withSequencer v (resetSsq (s.sequencer v).committed))
    [alertKey v .detection, alertKey v .manual, alertKey v .isolated, alertKey v .manualInIsolation,
      vaultEvacuationKey v] = u
  have hdetail : (match (s.sequencer v).detail with
      | none => u
      | some d => endCondition (dischargeKey v d) u).blocks = u.blocks := by
    cases (s.sequencer v).detail with
    | none => rfl
    | some d => exact endCondition_blocks _ u
  split
  · exact hdetail
  · exact hdetail

/-- The blocks of a vault that ceases to be enabled, before its claims are dropped. -/
def disableBlocks (v : Vault) (s : State) : State :=
  setCertain v true (clearOccupants v (disableSequencer v (disableLines v (disableDoors v (disableReaders v
    (s.withPair v none))))))

theorem disableBlocks_beyond (v : Vault) (s : State) : (disableBlocks v s).beyond v = s.beyond v := by
  have hreaders := (disableReaders_step ((DoorStep.refl v s).withPair none)).beyond
  have hdoors := (disableDoors_beyond v _).trans hreaders
  have hlines := (disableLines_step (.refl v _)).beyond.trans hdoors
  have hseq := (disableSequencer_beyond v _).trans hlines
  exact (setCertain_step true (clearOccupants_step (.refl v _))).beyond.trans hseq

/-- The sequencer and the readers of a vault that ceases to be enabled (R93, R187). -/
theorem disableBlocks_rest (v : Vault) (s : State) :
    (disableBlocks v s).sequencer v = resetSsq (s.sequencer v).committed
      ∧ ∀ p, (disableBlocks v s).reader ⟨v, p⟩ = (s.reader ⟨v, p⟩).disabled := by
  have hread (p : Position) := disableReaders_reader v p (s.withPair v none)
  obtain ⟨r, hr⟩ := disableReaders_sansReports v (s.withPair v none)
  unfold disableBlocks
  generalize disableReaders v (s.withPair v none) = a at *
  have hseq : a.ssq = s.ssq := (congrArg (fun u : State => u.ssq) hr :)
  have hdoors := disableDoors_redoors v a
  rw [Redoored, State.withDoor_sansReports] at hdoors
  generalize disableDoors v a = b at *
  have hlines := disableLines_sansReports v b
  rw [hdoors] at hlines
  generalize disableLines v b = c at *
  have hsequencer := disableSequencer_sansReports v c
  have hcommitted : c.ssq = s.ssq := ((congrArg (fun u : State => u.ssq) hlines :)).trans hseq
  rw [hlines] at hsequencer
  generalize disableSequencer v c = d at *
  have hocc := clearOccupants_sansReports v d
  rw [hsequencer] at hocc
  generalize clearOccupants v d = e at *
  refine ⟨?_, fun p => ?_⟩
  · have hssq : e.ssq = a.ssq.set v (resetSsq (c.sequencer v).committed) := (congrArg (fun u : State => u.ssq) hocc :)
    have hset : e.sequencer v = resetSsq (c.sequencer v).committed := by rw [State.sequencer, hssq, PerVault.get_set_self]
    refine hset.trans ?_
    rw [State.sequencer, hcommitted]
    rfl
  · have hreaders : e.readers = a.readers := (congrArg (fun u : State => u.readers) hocc :)
    exact (congrArg (fun x : PerVault VaultReaders => (x.get v).at p) hreaders).trans (hread p)

/-- A vault that ceases to be enabled is at rest (R62, R75, R93, R100, R143, R159, R187), and nothing beyond its records is
touched but its flag and the reader line. -/
theorem disableVault_parts (v : Vault) (s : State) : ∃ c : State,
    disableVault v s = disableOnLine v (c.withGroup v { c.group v with enabled := false })
      ∧ c.beyond v = s.beyond v ∧ c.atRest v = true := by
  have hvac : (disableBlocks v s).Vacant v := blocksDisabled_vacant v s
  have hbeyond := disableBlocks_beyond v s
  obtain ⟨hseq, hread⟩ := disableBlocks_rest v s
  unfold disableVault
  dsimp only
  rw [show setCertain v true (clearOccupants v (disableSequencer v (disableLines v (disableDoors v (disableReaders v
    (s.withPair v none)))))) = disableBlocks v s from rfl]
  generalize disableBlocks v s = a at *
  obtain ⟨b, hb⟩ : ∃ b, b = (if (s.occupancy v).watched = (a.occupancy v).watched then a else causeOccupancy a) := ⟨_, rfl⟩
  have hblocks : b.blocks = a.blocks := by
    rw [hb]
    split <;> rfl
  have hrecords : b.recordsOf v = a.recordsOf v := by
    rw [hb]
    split <;> rfl
  simp only [State.recordsOf, Prod.mk.injEq] at hrecords
  obtain ⟨hl, -, hr, hp, hd, ho, hq⟩ := hrecords
  have hquiet : (b.sequencer v).state = .quiet := by rw [State.sequencer, hq]; exact hvac.quiet
  rw [← hb, occupancyReported_quiet hquiet]
  refine ⟨_, rfl, ?_, ?_⟩
  · rw [State.withClaimSet_beyond, State.withSequencer_beyond, State.beyond_blocks v hblocks, hbeyond]
  · refine (State.atRest_iff _ v).2 ⟨hl.trans hvac.lines, hd.trans hvac.door, hp.trans hvac.pair, ?_, ?_, ?_, fun p => ?_⟩
    · exact State.withClaimSet_claimSet _ v noClaims
    · exact (congrArg VaultOccupancy.entries ho).trans hvac.entries
    · have hb' : b.sequencer v = resetSsq (s.sequencer v).committed := Eq.trans hq hseq
      exact SsqRecord.rests_of_reset ((State.withSequencer_sequencer b v _).trans (by rw [hb']))
    · have hreader : b.reader ⟨v, p⟩ = a.reader ⟨v, p⟩ := congrArg (fun x : VaultReaders => x.at p) hr
      exact ReaderRecord.rests_of_disabled (hreader.trans (hread p))

theorem State.enabled_withGroup (s : State) (v : Vault) (g : VaultGroup) :
    (s.withGroup v g).enabled v = g.enabled ∧ ∀ w, w ≠ v → (s.withGroup v g).enabled w = s.enabled w := by
  refine ⟨?_, fun w hw => ?_⟩
  · simp [State.enabled, State.group, State.withGroup]
  · simp [State.enabled, State.group, State.withGroup, PerVault.get_set_of_ne _ _ hw.symm]

theorem disableOnLine_counted (v : Vault) (s : State) (a : ReaderAddress) (h : (disableOnLine v s).rline.counted = some a) :
    s.rline.counted = some a ∧ a.vault ≠ v := by
  unfold disableOnLine at h
  simp only [State.withReaderLine, ReaderLine.counted] at h ⊢
  cases haddr : s.rline.address with
  | none => simp [haddr] at h
  | some b =>
    simp only [haddr, Bool.or_eq_true, decide_eq_true_eq] at h ⊢
    split at h
    · cases h
    · next hn =>
      cases h
      obtain ⟨hd, hne⟩ := not_or.1 hn
      exact ⟨if_neg hd, hne⟩

theorem disableOnLine_rest {v : Vault} {s : State} (h : s.linesRest) : (disableOnLine v s).linesRest := by
  obtain ⟨hphase, haddr, hlqu⟩ := h
  refine ⟨?_, haddr, hlqu⟩
  simp [disableOnLine, State.withReaderLine, hphase]

theorem disableVault_site {s₀ s : State} (v : Vault) (h : SiteStep s₀ s) : SiteStep s₀ (disableVault v s) := by
  refine h.trans ?_
  obtain ⟨c, he, hb, hrest⟩ := disableVault_parts v s
  rw [he]
  generalize hg : c.withGroup v { c.group v with enabled := false } = u
  have hother {w : Vault} (hw : w ≠ v) : (disableOnLine v u).recordsOf w = s.recordsOf w := by
    rw [← State.recordsOf_beyond hb hw, ← hg]
    rfl
  have hatRest : (disableOnLine v u).atRest v = true := by
    rw [State.atRest_congr (s := c) (by rw [← hg]; rfl), hrest]
  have hen {w : Vault} (hw : w ≠ v) : (disableOnLine v u).enabled w = s.enabled w := by
    rw [← State.enabled_of_beyond hb, ← hg]
    exact (State.enabled_withGroup c v _).2 w hw
  have hconf : (disableOnLine v u).configured = s.configured := by
    rw [← State.configured_of_beyond hb, ← hg]
    rfl
  have hline : u.rline = s.rline ∧ u.lqu = s.lqu := by
    obtain ⟨-, hlqu, hrline⟩ := State.othersKept_of_beyond hb
    rw [← hg]
    exact ⟨hrline, hlqu⟩
  refine ⟨fun hc => hconf.trans hc, fun hw w => ?_, fun hs => ?_, fun hs hc w => ?_⟩
  · obtain rfl | hne := eq_or_ne w v
    · exact State.wholeAt_of_atRest hatRest
    · exact (State.wholeAt_congr (hother hne)).2 (hw w)
  · rw [State.restSound_iff] at hs ⊢
    obtain ⟨hall, hcount, hlines, hphase⟩ := hs
    refine ⟨fun w => ?_, fun a ha => ?_, ?_, ?_⟩
    · obtain rfl | hne := eq_or_ne w v
      · exact .inr hatRest
      · rw [State.atRest_congr (hother hne), State.acts, hconf, hen hne]
        exact hall w
    · obtain ⟨hcounted, hne⟩ := disableOnLine_counted v u a ha
      rw [State.acts, hconf, hen hne]
      exact hcount a (hline.1 ▸ hcounted)
    · rw [hconf]
      refine hlines.imp_right fun hl => disableOnLine_rest ?_
      exact ⟨hline.1 ▸ hl.1, hline.1 ▸ hl.2.1, hline.2 ▸ hl.2.2⟩
    · have hpc : c.phase = s.phase := congrArg (·.1) hb
      have hkc : c.scanPos = s.scanPos := congrArg (fun x => x.2.1) hb
      have hp : (disableOnLine v u).phase = s.phase := by rw [← hpc, ← hg]; rfl
      have hk : (disableOnLine v u).scanPos = s.scanPos := by rw [← hkc, ← hg]; rfl
      rw [hp, hk]
      exact hphase
  · obtain rfl | hne := eq_or_ne w v
    · intro hon
      have hoff : (disableOnLine w u).enabled w = false := by
        rw [← hg]
        exact (State.enabled_withGroup c w _).1
      exact Bool.noConfusion (hoff.symm.trans hon)
    · exact (State.claimedAt_congr (hother hne) (hen hne)).2 (hc w)

end Sys2Proof.Machine

namespace Sys2Proof.Machine

/-! ### A vault that becomes enabled, and the values of a configuration given to their owners -/

section
variable {s₀ s : State} {v : Vault}

/-- The values of a vault's group but its flag are nothing that the laws of the vaults read. -/
theorem State.withGroup_blocks {g : VaultGroup} (h : g.enabled = s.enabled v) : (s.withGroup v g).blocks = s.blocks := by
  have he : (s.withGroup v g).enabled = s.enabled := by
    funext w
    obtain ⟨hv, hw⟩ := s.enabled_withGroup v g
    obtain rfl | hne := eq_or_ne w v
    · exact hv.trans h
    · exact hw w hne
  simp only [State.blocks, he]
  rfl

theorem State.enabled_group {t : State} (h : t.group v = s.group v) : t.enabled v = s.enabled v := by
  rw [State.enabled, State.enabled, h]

/-- A vault at rest that becomes enabled: its sequencer starts with the staged set (R187). -/
theorem enabledSequencer_site (hc : s₀.restSound = true → s₀.configured = true) (hoff : s.enabled v = false)
    (h : SiteStep s₀ s) : SiteStep s₀ (enableSequencer v (s.withGroup v { s.group v with enabled := true })) := by
  obtain ⟨hon, hen⟩ := s.enabled_withGroup v { s.group v with enabled := true }
  generalize hu : s.withGroup v { s.group v with enabled := true } = u at *
  have hother {w : Vault} (hw : w ≠ v) : (enableSequencer v u).recordsOf w = s.recordsOf w := by
    rw [enableSequencer, State.recordsOf_beyond (State.withSequencer_beyond u v _) hw, ← hu]
    rfl
  have hconf : (enableSequencer v u).configured = s.configured := by
    rw [← hu]
    rfl
  have henabled (w : Vault) : (enableSequencer v u).enabled w = u.enabled w := rfl
  have hacts (w : Vault) (hw : s.acts w = true) : (enableSequencer v u).acts w = true := by
    obtain ⟨hcf, he⟩ := (s.acts_iff w).1 hw
    refine (State.acts_iff _ w).2 ⟨hconf.trans hcf, (henabled w).trans ?_⟩
    obtain rfl | hne := eq_or_ne w v
    · exact hon
    · exact (hen w hne).trans he
  have hquiet : ((enableSequencer v u).sequencer v).state = .quiet := by
    rw [enableSequencer, State.withSequencer_sequencer]
    rfl
  refine ⟨fun hs => hconf.trans (h.configured hs), fun hw w => ?_, fun hs => ?_, fun hs hcl w => ?_⟩
  · have hwhole := h.whole hw w
    obtain rfl | hne := eq_or_ne w v
    · refine ⟨?_, fun hi => ?_⟩
      · rw [← hu]
        exact hwhole.1
      · exact SsqState.noConfusion (hquiet.symm.trans hi)
    · exact (State.wholeAt_congr (hother hne)).2 hwhole
  · have hsound := h.rest hs
    rw [State.restSound_iff] at hsound ⊢
    obtain ⟨hall, hcount, -, hphase⟩ := hsound
    refine ⟨fun w => ?_, fun a ha => hacts _ (hcount a ?_), .inl (hconf.trans (h.configured (hc hs))), ?_⟩
    · obtain rfl | hne := eq_or_ne w v
      · exact .inl ((State.acts_iff _ w).2 ⟨hconf.trans (h.configured (hc hs)), hon⟩)
      · rw [State.atRest_congr (hother hne)]
        exact (hall w).imp_left (hacts w)
    · rw [← hu] at ha
      exact ha
    · rw [← hu]
      exact hphase
  · obtain rfl | hne := eq_or_ne w v
    · intro _
      have hrest := ((State.restSound_iff s).1 (h.rest hs)).1 w
      rw [State.acts, hoff, Bool.and_false] at hrest
      obtain ⟨-, -, -, hclaims, -⟩ := (s.atRest_iff w).1 (hrest.resolve_left Bool.false_ne_true)
      have hset : (enableSequencer w u).claimSet w = s.claimSet w := by
        rw [← hu]
        rfl
      rw [hset, hclaims, hquiet]
      rfl
    · exact (State.claimedAt_congr (hother hne) ((henabled w).trans (hen w hne))).2 (h.claimed hs hcl w)

theorem enableOnLine_site (hc : s₀.restSound = true → s₀.configured = true) (h : SiteStep s₀ s) :
    SiteStep s₀ (enableOnLine s) := .ite (beginTransaction_site hc h) h

theorem enableVault_site (hc : s₀.restSound = true → s₀.configured = true) (hoff : s.enabled v = false)
    (h : SiteStep s₀ s) : SiteStep s₀ (enableVault v s) := by
  unfold enableVault
  dsimp only
  have hq := enabledSequencer_site hc hoff h
  have hon : (enableSequencer v (s.withGroup v { s.group v with enabled := true })).enabled v = true :=
    (s.enabled_withGroup v _).1
  generalize enableSequencer v (s.withGroup v { s.group v with enabled := true }) = u at *
  refine enableOnLine_site hc (hq.acting (v := v) ?_ fun hs => (State.acts_iff u v).2 ⟨hq.configured (hc hs), hon⟩)
  have hcert := setCertain_step false (.refl v u)
  generalize setCertain v false u = a at *
  have hcause := DoorStep.ite (p := (s.occupancy v).watched = (a.occupancy v).watched) hcert (causeOccupancy_step hcert)
  generalize (if (s.occupancy v).watched = (a.occupancy v).watched then a else causeOccupancy a) = b at *
  have hclaim := DoorStep.ite (p := b.atu.latch = true) (claimSiteEvacuate_step true hcause) hcause
  exact (occupancyReported_step hclaim.toVault).run (settleLone_step (beginDoors_step (.refl v _)))

theorem setEnabled_site (b : Bool) (hc : s₀.restSound = true → s₀.configured = true) (h : SiteStep s₀ s) :
    SiteStep s₀ (setEnabled v b s) := by
  unfold setEnabled
  split
  · exact h
  · next hne =>
    cases b with
    | true => exact enableVault_site hc (by simpa using hne) h
    | false => exact disableVault_site v h

theorem setEnabled_enabled (v : Vault) (b : Bool) (s : State) : (setEnabled v b s).enabled v = b := by
  rw [State.enabled, State.group_of_settings (setEnabled_settings v b s)]
  exact (s.enabled_withGroup v _).1

theorem applyVault_site (g : VaultGroup) (hc : s₀.restSound = true → s₀.configured = true) (h : SiteStep s₀ s) :
    SiteStep s₀ (applyVault v g s) := by
  have hset := (setEnabled_site (v := v) g.enabled hc h).of_blocks
    (State.withGroup_blocks (g := g) (setEnabled_enabled v g.enabled s).symm)
  unfold applyVault
  dsimp only
  generalize (setEnabled v g.enabled s).withGroup v g = u at *
  have hlapse : SiteStep s₀ (if ((setEnabled v g.enabled s).group v).pairFlag ∧ g.pairFlag = false then lapsePair v u else u) :=
    .ite (hset.still (lapsePair_step (.refl v u)).toVault lapsePair_atRest) hset
  exact .ite hlapse (hlapse.still (settleLone_step (.refl v _)).toVault settleLone_atRest)

theorem roleFault_blocks (i : SiteLine) (old new : Role) (s : State) : (roleFault i old new s).blocks = s.blocks := by
  unfold roleFault
  (repeat' split) <;> simp

theorem setRoles_site (roles : PerSite Role) (hc : s₀.restSound = true → s₀.configured = true) (h : SiteStep s₀ s) :
    SiteStep s₀ (setRoles roles s) := by
  unfold setRoles
  dsimp only
  have hfold : SiteStep s₀ (SiteLine.all.foldl (fun u i => roleFault i (s.cfg.site.roles.get i) (roles.get i) u)
      (s.withSite { s.cfg.site with roles := roles })) :=
    (h.of_blocks rfl).of_blocks (foldl_part State.blocks _ (fun u i => roleFault_blocks i _ _ u) _ _)
  have hjudge := judgeCombination_site hc (judgeHoldAll_site hc hfold)
  exact .ite (hjudge.withLqu _ hc) hjudge

theorem applySite_site (g : SiteGroup) (hc : s₀.restSound = true → s₀.configured = true) (h : SiteStep s₀ s) :
    SiteStep s₀ (applySite g s) := (setRoles_site g.roles hc h).of_blocks rfl

/-- Each vault whose group is given to its owners has the values given, and every other vault its own. -/
theorem applyVaults_group (b : ConfigBlock) (w : Vault) (l : List Vault) (s : State)
    (hw : w ∈ l ∨ s.group w = b.vaults.get w) :
    (l.foldl (fun s v => applyVault v (b.vaults.get v) s) s).group w = b.vaults.get w := by
  induction l generalizing s with
  | nil => exact hw.resolve_left (by simp)
  | cons x l ih =>
    refine ih _ ?_
    rw [State.group_of_settings (applyVault_settings x (b.vaults.get x) s)]
    obtain rfl | hne := eq_or_ne w x
    · exact .inr (PerVault.get_set_self _ w _)
    · refine hw.imp (fun hm => (List.mem_cons.1 hm).resolve_left hne) fun hg => ?_
      rw [State.group, State.withGroup, PerVault.get_set_of_ne _ _ hne.symm]
      exact hg

theorem applyConfig_site (b : ConfigBlock) (hc : s₀.restSound = true → s₀.configured = true) (h : SiteStep s₀ s) :
    SiteStep s₀ (applyConfig b s) := by
  unfold applyConfig
  dsimp only
  have hsite : SiteStep s₀ (applySite b.site { s with cfg := { s.cfg with suppression := b.suppression } }) :=
    applySite_site b.site hc (h.of_blocks rfl)
  have hgroup (w : Vault) := applyVaults_group b w Vault.all
    (applySite b.site { s with cfg := { s.cfg with suppression := b.suppression } }) (.inl w.mem_all)
  have hvaults := SiteStep.eachVault (f := fun v s => applyVault v (b.vaults.get v) s)
    (fun v u hu => applyVault_site (b.vaults.get v) hc hu) hsite
  unfold eachVault at hvaults ⊢
  generalize Vault.all.foldl (fun s v => applyVault v (b.vaults.get v) s)
    (applySite b.site { s with cfg := { s.cfg with suppression := b.suppression } }) = u at *
  refine hvaults.of_blocks ?_
  have he : State.enabled { u with cfg := b } = u.enabled := by
    funext w
    rw [State.enabled, State.enabled, hgroup w]
    rfl
  simp only [State.blocks, he]

end

end Sys2Proof.Machine

namespace Sys2Proof.Machine

/-! ### The scan -/

section
variable {s₀ s : State} {v : Vault}

theorem beginVault_step (v : Vault) (s : State) : VaultStep v s (beginVault v s) := by
  unfold beginVault
  dsimp only
  have hcommit : DoorStep v s (s.withSequencer v { s.sequencer v with committed := s.stagedSet v }) :=
    (DoorStep.refl v s).withSequencer rfl
  generalize s.withSequencer v { s.sequencer v with committed := s.stagedSet v } = a at *
  have hcert := DoorStep.ite (p := a.enabled v = true) hcommit (causeOccupancy_step (setCertain_step true hcommit))
  have hreport := occupancyReported_step hcert.toVault
  exact VaultStep.ite (hreport.run (beginDoors_step (.refl v _))) hreport

/-- A vault at rest that is not enabled stays at rest where the blocks begin. -/
theorem beginVault_atRest (hoff : s.enabled v = false) (h : s.atRest v = true) : (beginVault v s).atRest v = true := by
  obtain ⟨hlines, hdoor, hpair, hclaims, hocc, hseq, hread⟩ := (s.atRest_iff v).1 h
  unfold beginVault
  dsimp only
  generalize ha : s.withSequencer v { s.sequencer v with committed := s.stagedSet v } = a
  have hcommitted : a.sequencer v = { resetSsq (s.stagedSet v) with clear := (s.sequencer v).clear } := by
    rw [← ha, State.withSequencer_sequencer, hseq]
    rfl
  have hoffa : ¬ a.enabled v = true := by
    rw [← ha]
    exact Bool.eq_false_iff.1 hoff
  rw [if_neg hoffa, if_neg]
  · generalize hb : causeOccupancy (setCertain v true a) = b
    have hseqb : b.sequencer v = { resetSsq (s.stagedSet v) with clear := (s.sequencer v).clear } := by
      rw [← hb]
      exact hcommitted
    rw [occupancyReported_quiet (by rw [hseqb]; rfl)]
    rw [← ha] at hb
    refine (State.atRest_iff _ v).2 ⟨?_, ?_, ?_, ?_, ?_, SsqRecord.rests_of_reset (c := s.stagedSet v) (b := b.clearVault v) ?_, ?_⟩
    · rw [← hb]; exact hlines
    · rw [← hb]; exact hdoor
    · rw [← hb]; exact hpair
    · rw [← hb]; exact hclaims
    · rw [← hb]
      exact (congrArg VaultOccupancy.entries (State.withOccupancy_occupancy _ v _)).trans hocc
    · rw [State.withSequencer_sequencer, hseqb]
    · rw [← hb]; exact hread
  · have he := State.enabled_of_beyond (occupancyReported_step (VaultStep.refl v (causeOccupancy (setCertain v true a)))).beyond
    rw [he]
    exact hoffa

/-- The configuration read gives the values to a part whose vaults all rest (R38, R211). -/
theorem valuesRead_site (hp : s.phase = .scanning) (hk : s.scanPos = 0) {u : State}
    (hu : u.blocks = State.blocks { s with scanPos := 1 }) (b : ConfigBlock) : SiteStep s { u with cfg := b } := by
  have hconf : s.configured = false := by
    rw [State.configured, hp, hk]
    rfl
  simp only [State.blocks, Prod.mk.injEq] at hu
  obtain ⟨hphase, hpos, -, hlqu, hrline, hl, hc, hr, hpa, hd, ho, hq⟩ := hu
  have hrecords (w : Vault) : State.recordsOf w { u with cfg := b } = s.recordsOf w := by
    simp only [State.recordsOf, hl, hc, hr, hpa, hd, ho, hq]
  have hall (hs : s.restSound = true) (w : Vault) : s.atRest w = true := by
    have hw := ((State.restSound_iff s).1 hs).1 w
    rw [State.acts, hconf, Bool.false_and] at hw
    exact hw.resolve_left Bool.false_ne_true
  have hon : State.configured { u with cfg := b } = true := by
    simp only [State.configured, hphase, hpos, hp]
    rfl
  refine ⟨fun _ => hon, fun hw w => (State.wholeAt_congr (hrecords w)).2 (hw w), fun hs => ?_, fun hs _ w _ => ?_⟩
  · obtain ⟨-, -, hline, -⟩ := (State.restSound_iff s).1 hs
    obtain ⟨-, haddr, -⟩ := hline.resolve_left (by simp [hconf])
    refine (State.restSound_iff _).2 ⟨fun w => .inr ((State.atRest_congr (hrecords w)).trans (hall hs w)), fun a ha => ?_,
      .inl hon, fun hreset => ?_⟩
    · simp only [ReaderLine.counted, hrline, haddr, ite_self] at ha
      cases ha
    · exact Phase.noConfusion (hp.symm.trans (hphase.symm.trans hreset))
  · obtain ⟨-, -, -, hclaims, -, hseq, -⟩ := (State.atRest_iff _ w).1 ((State.atRest_congr (hrecords w)).trans (hall hs w))
    rw [hclaims, hseq]
    rfl

theorem giveConfig_site (hp : s.phase = .scanning) (hk : s.scanPos = 0) {u : State}
    (hu : u.blocks = State.blocks { s with scanPos := 1 }) (b : ConfigBlock) : SiteStep s (giveConfig b u) := by
  refine (valuesRead_site hp hk hu b).trans ?_
  have hon : State.configured { u with cfg := b } = true := by
    simp only [State.blocks, Prod.mk.injEq] at hu
    obtain ⟨hphase, hpos, -⟩ := hu
    simp only [State.configured, hphase, hpos, hp]
    rfl
  unfold giveConfig
  generalize { u with cfg := b } = r at *
  have hmode : (resumeMode r).blocks = r.blocks := by
    unfold resumeMode
    dsimp only
    split <;> rfl
  refine beginTransaction_site (fun _ => hon) (.eachVault (fun v t ht => ?_) ((SiteStep.refl r).of_blocks hmode))
  exact ht.vault (beginVault_step v t) fun _ ha hrest => beginVault_atRest (ht.disabled hon ha) hrest

theorem readConfiguration_site (s : State) : SiteStep s (readConfiguration s) := by
  unfold readConfiguration
  split
  · next h =>
    dsimp only
    split
    · exact giveConfig_site h.1 h.2 rfl _
    · exact giveConfig_site h.1 h.2 (damage_blocks _ _ _) _
  · exact .refl s

/-- The scan goes on, or ends, in a part that is configured. -/
theorem scanned_site (h : SiteStep s₀ s) {p : Phase} {k : Nat} {i : List (Nat × Nat)} (hs : s.configured = true)
    (ht : State.configured { s with phase := p, scanPos := k, index := i } = true) :
    SiteStep s₀ { s with phase := p, scanPos := k, index := i } := by
  refine h.trans ⟨fun _ => ht, id, fun hr => ?_, fun _ => id⟩
  have hacts : State.acts { s with phase := p, scanPos := k, index := i } = s.acts := by
    funext w
    rw [State.acts, State.acts, ht, hs]
    rfl
  obtain ⟨hall, hcount, -, -⟩ := (State.restSound_iff s).1 hr
  refine (State.restSound_iff _).2 ⟨fun w => ?_, fun a ha => ?_, .inl ht, fun hreset => ?_⟩
  · rw [hacts]
    exact hall w
  · rw [hacts]
    exact hcount a ha
  · obtain rfl : p = .reset := hreset
    exact Bool.noConfusion ht

theorem readNext_site (s : State) : SiteStep s (readNext s) := by
  unfold readNext
  split
  · next h =>
    obtain ⟨hp, hk, -⟩ := h
    have hread := readTarget_blocks s.scanPos s
    have hr := (SiteStep.refl s).of_blocks hread
    simp only [State.blocks, Prod.mk.injEq] at hread
    obtain ⟨hphase, hpos, -⟩ := hread
    dsimp only
    generalize readTarget s.scanPos s = u at *
    have hu : u.configured = true := by simp [State.configured, hphase, hpos, hp, hk]
    have hnext : SiteStep s { u with scanPos := s.scanPos + 1 } :=
      scanned_site (p := u.phase) (i := u.index) hr hu (by simp [State.configured, hphase, hp])
    split
    · refine SiteStep.of_blocks (evaluateMode_site (scanned_site (k := s.scanPos + 1) hnext ?_ rfl)) (startAttempt_blocks _)
      simp [State.configured, hphase, hp]
    · exact hnext
  · exact .refl s

/-! ### The tick event -/

theorem DoorRecord.tick_lawPart (d : DoorRecord) : d.tick.lawPart = d.lawPart := by
  cases h : d.outerGrant <;> simp [DoorRecord.tick, DoorRecord.lawPart, h]

theorem ClaimSet.advance_ssq (c : ClaimSet) : c.advance.ssq = c.ssq := by
  unfold ClaimSet.advance ClaimSet.tick
  cases c.drive <;> rfl

theorem State.atRest_ticked {t : State} (hl : t.lines.get v = s.lines.get v) (hc : t.claimSet v = (s.claimSet v).advance)
    (hr : t.readers.get v = (s.readers.get v).older) (hp : t.pair v = (s.pair v).map PendingPair.tick)
    (hd : t.door v = (s.door v).tick) (ho : t.occupancy v = (s.occupancy v).tick)
    (hq : t.sequencer v = (s.sequencer v).tick) (h : s.atRest v = true) : t.atRest v = true := by
  obtain ⟨hlines, hdoor, hpair, hclaims, hocc, hseq, hread⟩ := (s.atRest_iff v).1 h
  refine (t.atRest_iff v).2 ⟨hl.trans hlines, ?_, ?_, ?_, ?_, ?_, fun p => ?_⟩
  · rw [hd, hdoor]
    rfl
  · rw [hp, hpair]
    rfl
  · rw [hc, hclaims]
    rfl
  · rw [ho, VaultOccupancy.tick, hocc]
    rfl
  · refine SsqRecord.rests_of_reset (c := (s.sequencer v).committed) (b := (s.sequencer v).clear) ?_
    rw [hq, hseq]
    rfl
  · have hp : t.reader ⟨v, p⟩ = (s.reader ⟨v, p⟩).older := by
      rw [State.reader, hr]
      cases p <;> rfl
    rw [hp, hread p]
    rfl

/-- Every timer one tick later. -/
theorem timers_site {t : State} (hphase : t.phase = s.phase) (hpos : t.scanPos = s.scanPos) (hcfg : t.cfg = s.cfg)
    (hlqu : t.lqu = s.lqu) (hrline : t.rline = s.rline) (hl : t.lines = s.lines)
    (hc : ∀ v, t.claimSet v = (s.claimSet v).advance) (hr : ∀ v, t.readers.get v = (s.readers.get v).older)
    (hp : ∀ v, t.pair v = (s.pair v).map PendingPair.tick) (hd : ∀ v, t.door v = (s.door v).tick)
    (ho : ∀ v, t.occupancy v = (s.occupancy v).tick) (hq : ∀ v, t.sequencer v = (s.sequencer v).tick) : SiteStep s t := by
  have hconf : t.configured = s.configured := by simp only [State.configured, hphase, hpos]
  have hen : t.enabled = s.enabled := by
    funext w
    simp only [State.enabled, State.group, hcfg]
  have hacts : t.acts = s.acts := by
    funext w
    rw [State.acts, State.acts, hconf, hen]
  have hstate (w : Vault) : (t.sequencer w).state = (s.sequencer w).state := by
    rw [hq]
    rfl
  refine ⟨fun h => hconf.trans h, fun hw w => ?_, fun hs => ?_, fun _ hcl w hon => ?_⟩
  · obtain ⟨hlaw, hrel⟩ := hw w
    have hpart : (t.door w).lawPart = (s.door w).lawPart := by rw [hd, DoorRecord.tick_lawPart]
    refine ⟨(DoorRecord.lawful_congr hpart).2 hlaw, fun hi => ?_⟩
    exact (congrArg (fun x => x.2.2.2) hpart).trans (hrel ((hstate w).symm.trans hi))
  · obtain ⟨hall, hcount, hline, hreset⟩ := (State.restSound_iff s).1 hs
    refine (State.restSound_iff t).2 ⟨fun w => ?_, ?_, ?_, ?_⟩
    · rw [hacts]
      exact (hall w).imp_right (State.atRest_ticked (by rw [hl]) (hc w) (hr w) (hp w) (hd w) (ho w) (hq w))
    · rwa [hacts, hrline]
    · rwa [hconf, State.linesRest, hrline, hlqu]
    · rwa [hphase, hpos]
  · rw [hc, ClaimSet.advance_ssq, hstate]
    exact hcl w ((congrFun hen w).symm.trans hon)

theorem tickCombination_site (hc : s₀.restSound = true → s₀.configured = true) (h : SiteStep s₀ s) :
    SiteStep s₀ (tickCombination s) := .ite (h.of_blocks rfl) (.ite (h.withLqu _ hc) h)

theorem sampleLines_site (r : Readings) (hc : s₀.restSound = true → s₀.configured = true) (h : SiteStep s₀ s) :
    SiteStep s₀ (sampleLines r s) := by
  unfold sampleLines
  dsimp only
  have hvaults := SiteStep.eachVault (s₀ := s₀) (s := s) (f := fun v u =>
    if u.enabled v then
      { u.withLines v ((u.lines.get v).sample (r.vaults.get v) s.cal.instant) with
        due := u.due ++ ((u.lines.get v).sample (r.vaults.get v) s.cal.instant).due v (u.group v).classes }
    else u) (fun v u hu => by
      dsimp only
      split
      · next hon =>
        have hl := hu.acting (v := v)
          ((DoorStep.refl v u).withLines ((u.lines.get v).sample (r.vaults.get v) s.cal.instant)).toVault
          fun hs => (State.acts_iff u v).2 ⟨hu.configured (hc hs), hon⟩
        exact hl.of_blocks rfl
      · exact hu) h
  exact (hvaults.withLqu _ hc).of_blocks rfl

theorem tickOnce_siteStep (r : Readings) (s : State) : SiteStep s (tickOnce r s) := by
  unfold tickOnce
  dsimp only
  have hcause : SiteStep s (if s.cal.endsLastDay then causeClock s else s) := .ite ((SiteStep.refl s).of_blocks rfl) (.refl s)
  generalize (if s.cal.endsLastDay then causeClock s else s) = a at *
  have hticked : SiteStep a { tickTimers a with tmb := a.tmb.tick a.cfg.site.trim, cal := s.cal.tick.1, due := a.due ++ s.timersDue } :=
    timers_site rfl rfl rfl rfl rfl rfl (fun v => PerVault.get_make _ v) (fun v => PerVault.get_make _ v)
      (fun v => PerVault.get_make _ v) (fun v => PerVault.get_make _ v) (fun v => PerVault.get_make _ v)
      (fun v => PerVault.get_make _ v)
  have hs := hcause.trans hticked
  split
  · next hon =>
    exact hs.trans (sampleLines_site r (fun _ => hon) (tickCombination_site (fun _ => hon) (.refl _)))
  · exact hs

end

end Sys2Proof.Machine

namespace Sys2Proof.Machine

/-! ### The requests of a part that runs -/

section
variable {s₀ s : State}

theorem onVault_site {n : Nat} {f : Vault → Service} (h : SiteStep s₀ s) (hf : ∀ v, SiteStep s₀ (f v s).1) :
    SiteStep s₀ (onVault n f s).1 := by
  unfold onVault
  split
  · exact h
  · exact hf _

theorem onEnabled_site {n : Nat} {f : Vault → Service} (h : SiteStep s₀ s)
    (hf : ∀ v, s.enabled v = true → SiteStep s₀ (f v s).1) : SiteStep s₀ (onEnabled n f s).1 := by
  refine onVault_site h fun v => ?_
  split
  · next hon => exact hf v hon
  · exact h

theorem onDoor_site {n : Nat} {door : Option Door} {f : Vault → Door → Service} (h : SiteStep s₀ s)
    (hf : ∀ v d, s.enabled v = true → SiteStep s₀ (f v d s).1) : SiteStep s₀ (onDoor n door f s).1 := by
  refine onVault_site h fun v => ?_
  split
  · exact h
  · split
    · next hon => exact hf v _ hon
    · exact h

end

section
variable {s : State} (hp : s.phase = .running)
include hp

theorem State.configured_running : s.configured = true := by
  rw [State.configured, hp]

/-- What a request does at an enabled vault of a part that runs. -/
theorem running_site {v : Vault} {t : State} (hon : s.enabled v = true) (h : VaultStep v s t) : SiteStep s t :=
  (SiteStep.refl s).acting h fun _ => (State.acts_iff s v).2 ⟨State.configured_running hp, hon⟩

theorem eraseAll_site : SiteStep s (eraseAll s).1 := by
  unfold eraseAll
  (repeat' split)
  · exact .refl s
  · exact .refl s
  · exact .refl s
  · exact .refl s
  · have ha := applyConfig_site erasedConfig (fun _ => State.configured_running hp) (SiteStep.refl s)
    exact SiteStep.of_blocks (ha.of_blocks rfl) (startAttempt_blocks _)

omit hp in
theorem setTime_site (day minute second : Nat) : SiteStep s (setTime day minute second s).1 := by
  unfold setTime
  split
  · exact .refl s
  · exact evaluateMode_site ((SiteStep.refl s).of_blocks rfl)

omit hp in
theorem setSiteMode_site (value : Option ModeValue) : SiteStep s (setSiteMode value s).1 := by
  cases value with
  | none => exact .refl s
  | some m =>
    have hset := setMode_site (s.modeOf m) (storedMode m).auto (SiteStep.refl s)
    exact SiteStep.of_blocks (hset.of_blocks rfl) (placeOrOweConfig_blocks _)

theorem testOutput_site (vault : Nat) (cadence : Option Cadence) (tone : Option Tone) (strobe : Option Bool)
    (seconds : Nat) : SiteStep s (testOutput vault cadence tone strobe seconds s).1 := by
  refine onVault_site (.refl s) fun v => ?_
  split
  · split
    · next hon => exact running_site hp hon (claimTest_step _ (.refl v s)).toVault
    · exact .refl s
  · exact .refl s

theorem releaseOuter_site {v : Vault} (hon : s.enabled v = true) : SiteStep s (releaseOuter v s).1 := by
  unfold releaseOuter
  split
  · exact .refl s
  · next houter =>
    split
    · exact .refl s
    · next hvault =>
      split
      · exact .refl s
      · refine running_site hp hon (recordOuterGrant_step (.refl v s) ?_ (.inr (not_not.1 hvault))).toVault
        rw [not_not.1 houter]
        exact OuterState.noConfusion

theorem releaseVault_site {v : Vault} (hon : s.enabled v = true) (numbers : List Nat) :
    SiteStep s (releaseVault v numbers s).1 := by
  unfold releaseVault
  (repeat' split)
  · exact .refl s
  · exact .refl s
  · exact .refl s
  · exact running_site hp hon (recordGrant_step _ (.refl v s)).toVault

theorem releaseDoor_site (vault : Nat) (door : Option Door) (entering : Option (List Nat)) :
    SiteStep s (releaseDoor vault door entering s).1 := by
  refine onVault_site (.refl s) fun v => ?_
  cases door with
  | none => exact .refl s
  | some which =>
    dsimp only
    split
    · exact .refl s
    · split
      · exact .refl s
      · next hon =>
        rw [Bool.not_eq_true', Bool.not_eq_false] at hon
        split
        · exact .refl s
        · cases which with
          | outer => exact releaseOuter_site hp hon
          | vault => exact releaseVault_site hp hon _

omit hp in
theorem secureVault_step {v : Vault} {s₀ : State} (h : DoorStep v s₀ s) : DoorStep v s₀ (secureVault v s) := by
  unfold secureVault
  have hput := putDoor_step h (d := { s.door v with vaultGrant := (s.door v).vaultGrant.bind securedGrant }) rfl
  dsimp only
  split
  · exact .ite hput (startExtend_step hput)
  · exact .ite hput (startExtend_step hput)
  · exact .ite (startRetract_step hput) (startExtend_step hput)
  all_goals exact hput

theorem secureDoor_site (vault : Nat) (door : Option Door) : SiteStep s (secureDoor vault door s).1 := by
  refine onDoor_site (.refl s) fun v which hon => ?_
  dsimp only
  split
  · exact .refl s
  · cases which with
    | outer => exact running_site hp hon (withdrawOuter_step (.refl v s)).toVault
    | vault => exact running_site hp hon (secureVault_step (.refl v s)).toVault

theorem holdDoor_site (vault : Nat) (door : Option Door) (seconds : Nat) : SiteStep s (holdDoor vault door seconds s).1 := by
  refine onDoor_site (.refl s) fun v which hon => ?_
  split
  · exact .refl s
  · exact running_site hp hon ((DoorStep.refl v s).withDoor (by cases which <;> rfl)).toVault

omit hp in
theorem addOccupant_step (v : Vault) (number : Nat) (link : Option Nat) (s : State) :
    VaultStep v s (addOccupant v number link s) :=
  reporting_step (f := fun s => settleRegister v [number]
      (addOccupants v [{ number := number, duress := false, link := link }] s.cal.instant s))
    (settleRegister_step _ (addOccupants_step _ _ (.refl v s))).toVault

omit hp in
theorem dropOccupant_step (v : Vault) (number : Nat) (s : State) : VaultStep v s (dropOccupant v number s) :=
  reporting_step (f := fun s => settleRegister v [] (removeOccupant v s number))
    (settleRegister_step _ (removeOccupant_step number (.refl v s))).toVault

theorem addOccupantRequest_site (vault number : Nat) (link : Option Nat) :
    SiteStep s (addOccupantRequest vault number link s).1 := by
  refine onVault_site (.refl s) fun v => ?_
  split
  · exact .refl s
  · split
    · exact .refl s
    · next hon =>
      rw [Bool.not_eq_true', Bool.not_eq_false] at hon
      (repeat' split)
      · exact .refl s
      · exact .refl s
      · exact .refl s
      · exact running_site hp hon (addOccupant_step v number link s)

omit hp in
/-- A number is removed from the list that holds it, so from that of a vault that acts. -/
theorem removeOccupantRequest_site (number : Nat) : SiteStep s (removeOccupantRequest number s).1 := by
  unfold removeOccupantRequest
  split
  · exact .refl s
  · split
    · exact .refl s
    · next v hv =>
      refine (SiteStep.refl s).acting (dropOccupant_step v number s) fun hs => ?_
      refine (((State.restSound_iff s).1 hs).1 v).resolve_right fun hrest => ?_
      obtain ⟨-, -, -, -, hocc, -⟩ := (s.atRest_iff v).1 hrest
      have hin := List.find?_some hv
      simp [hocc] at hin

theorem confirmOccupancy_site (vault : Nat) : SiteStep s (confirmOccupancy vault s).1 := by
  refine onEnabled_site (.refl s) fun v hon => ?_
  split
  · exact .refl s
  · exact running_site hp hon (reporting_step (setCertain_step true (.refl v s)).toVault)

omit hp in
theorem globalHold_site (value : Option Bool) : SiteStep s (globalHold value s).1 := by
  cases value with
  | none => exact .refl s
  | some b => exact recheckAllHolds_site ((SiteStep.refl s).of_blocks rfl)

theorem resetSuppression_site (vault : Nat) : SiteStep s (resetSuppression vault s).1 := by
  refine onEnabled_site (.refl s) fun v hon => ?_
  have hmove := running_site hp hon (moveTo_step { s.sequencer v with state := .quiet } (.refl v s))
  have hreset := running_site hp hon (resetDischarged_step (.refl v s))
  have hdetect : SiteStep s (if !s.detecting v && s.countsNormal v .manualRelease then
      sequencerAnswer v (moveTo v { s.sequencer v with state := .quiet } s) else refuse .state s).1 := by
    split
    · exact hmove
    · exact .refl s
  cases hq : (s.sequencer v).state <;> dsimp only
  case quiet | releasing | verifying | isolated => exact .refl s
  case alert | inhibited | countdown | held | awaitClosure => exact hdetect
  case discharged =>
    (repeat' split)
    · exact .refl s
    · exact .refl s
    · exact hreset

omit hp in
/-- The withdrawal of a door's claim at the acknowledgment (R138). -/
theorem doorAcknowledged_site (key : AlarmKey) {s₀ u : State} (h : SiteStep s₀ u) : SiteStep s₀ (doorAcknowledged key u) := by
  unfold doorAcknowledged
  split
  · next v d _ _ _ =>
    exact h.still (claimForced_step d false (.refl v u)).toVault fun hrest => claim_atRest hrest (by cases d <;> rfl)
  · next v d _ _ _ =>
    exact h.still (claimHeld_step d false (.refl v u)).toVault fun hrest => claim_atRest hrest (by cases d <;> rfl)
  · exact h

omit hp in
theorem acknowledgeRecord_site (r : AlarmRecord) : SiteStep s (acknowledgeRecord r s) := by
  unfold acknowledgeRecord
  split
  · refine SiteStep.of_blocks (s := doorAcknowledged r.key _) (doorAcknowledged_site r.key ?_) rfl
    exact (SiteStep.refl s).of_blocks rfl
  · exact .refl s
  · exact (SiteStep.refl s).of_blocks rfl

omit hp in
theorem onAlarm_site {n : Nat} {f : AlarmRecord → Service} (hf : ∀ r, SiteStep s (f r s).1) : SiteStep s (onAlarm n f s).1 := by
  unfold onAlarm
  split
  · exact .refl s
  · split
    · exact .refl s
    · exact hf _

theorem clearAlarm_site (id : Nat) : SiteStep s (clearAlarm id s).1 := by
  refine onAlarm_site fun r => ?_
  have hend := (SiteStep.refl s).of_blocks (endCondition_blocks r.key s)
  split
  · exact .refl s
  · split
    · exact .refl s
    · exact .ite (latchEnds_site (fun _ => State.configured_running hp) hend) hend

theorem writeSite_site (w : SiteWrite) : SiteStep s (writeSite w s).1 := by
  unfold writeSite
  split
  · exact .refl s
  · (repeat' split)
    · exact .refl s
    · exact .refl s
    · exact (applySite_site _ (fun _ => State.configured_running hp) (SiteStep.refl s)).of_blocks (placeConfig_blocks _)

theorem writeVault_site (v : Vault) (w : VaultWrite) : SiteStep s (writeVault v w s).1 := by
  unfold writeVault
  split
  · exact .refl s
  · (repeat' split)
    · exact .refl s
    · exact .refl s
    · exact .refl s
    · exact (applyVault_site _ (fun _ => State.configured_running hp) (SiteStep.refl s)).of_blocks (placeConfig_blocks _)

theorem writeParams_siteStep (group : GroupWrite) : SiteStep s (writeParams group s).1 := by
  cases group with
  | site w => exact writeSite_site hp w
  | vault n w => exact onVault_site (.refl s) fun v => writeVault_site hp v w
  | other => exact .refl s

theorem owner_site {c : Instr} {f : Service} (hc : ownerOf c = some f) : SiteStep s (f s).1 := by
  have hblocks {t : State} (h : t.blocks = s.blocks) : SiteStep s t := (SiteStep.refl s).of_blocks h
  cases c <;> cases hc
  case lookupCredential k => exact hblocks (lookupCredential_blocks k s)
  case readSlot n => exact hblocks (readSlot_blocks n s)
  case writeCredential w => exact hblocks (writeCredential_blocks w s)
  case grantVaults k x => exact hblocks (changeVaults_blocks k _ s)
  case revokeVaults k x => exact hblocks (changeVaults_blocks k _ s)
  case suspend k => exact hblocks (suspend_blocks k s)
  case reinstate k => exact hblocks (reinstate_blocks k s)
  case retire k => exact hblocks (retire_blocks k s)
  case purge n => exact hblocks (purge_blocks n s)
  case findFreeSlot => exact hblocks (findFreeSlot_blocks s)
  case setCommissioningLock => exact hblocks (setCommissioningLock_blocks s)
  case eraseAll => exact eraseAll_site hp
  case setTime d m x => exact setTime_site d m x
  case writeHolidays d => exact hblocks (writeHolidays_blocks d s)
  case writeSchedule n w => exact hblocks (writeSchedule_blocks n w s)
  case readSchedule n => exact hblocks (readSchedule_blocks n s)
  case testOutput v k t b x => exact testOutput_site hp v k t b x
  case getLineStatus x => exact hblocks (getLineStatus_blocks x s)
  case getReaderStatus x => exact hblocks (getReaderStatus_blocks x s)
  case setSiteMode m => exact setSiteMode_site m
  case releaseDoor v d e => exact releaseDoor_site hp v d e
  case secureDoor v d => exact secureDoor_site hp v d
  case holdDoor v d x => exact holdDoor_site hp v d x
  case getDoorStatus v => exact hblocks (onVault_blocks fun _ => rfl)
  case listOccupants v => exact hblocks (onVault_blocks fun _ => rfl)
  case addOccupant v k l => exact addOccupantRequest_site hp v k l
  case removeOccupant k => exact removeOccupantRequest_site k
  case confirmOccupancy v => exact confirmOccupancy_site hp v
  case globalHold b => exact globalHold_site b
  case setSuppressionParams v p => exact hblocks (setSuppressionParams_blocks v p s)
  case readSuppressionParams v => exact hblocks (onVault_blocks fun _ => rfl)
  case resetSuppression v => exact resetSuppression_site hp v
  case getSuppressionStatus v => exact hblocks (onVault_blocks fun _ => rfl)
  case ackAlarm id => exact onAlarm_site fun r => acknowledgeRecord_site r
  case clearAlarm id => exact clearAlarm_site hp id
  case listAlarms n x => exact hblocks (listAlarms_blocks n x s)
  case readAlarm id => exact hblocks (onAlarm_blocks fun _ => rfl)
  case writeParams g => exact writeParams_siteStep hp g
  case readParams x => exact hblocks (readParams_blocks x s)
  all_goals exact hblocks rfl

end

end Sys2Proof.Machine

namespace Sys2Proof.Machine

/-! ### Every command -/

/-- A host request is handed with its own code to its owner (R204). -/
theorem exec_of_owner {c : Instr} {f : Service} (h : ownerOf c = some f) :
    ∃ code, requestCode c = some code ∧ exec c = hostRequest code f := by
  cases c <;> cases h <;> exact ⟨_, rfl, rfl⟩

/-- The requests answered while the scan runs touch the link alone (R204, R206, R210). -/
theorem duringScan_blocks {c : Instr} {f : Service} {code : Nat} (hc : ownerOf c = some f) (hcode : requestCode c = some code)
    (hd : duringScan code = true) (s : State) : (f s).1.blocks = s.blocks := by
  have hcodes : code = 41 ∨ code = 43 ∨ code = 47 := by simpa [duringScan, or_assoc] using hd
  cases c <;> cases hc <;> cases hcode
  case getAttention | getSiteStatus | getResetCause => rfl
  all_goals exact absurd hcodes (by decide)

theorem acceptRequest_site {c : Instr} {f : Service} {code : Nat} (hc : ownerOf c = some f) (hcode : requestCode c = some code)
    (s : State) : SiteStep s (acceptRequest code f s) := by
  refine (settle_site s).trans ?_
  unfold acceptRequest
  generalize settle s = u
  dsimp only
  split
  · exact .refl u
  · have hanswer : SiteStep u (answerRequest code f u).1 := by
      unfold answerRequest
      split
      · next h =>
        by_cases hp : u.phase = .running
        · exact owner_site hp hc
        · exact (SiteStep.refl u).of_blocks (duringScan_blocks hc hcode (h.resolve_left hp) u)
      · exact .refl u
    exact hanswer.of_blocks rfl

theorem requestOfBody_code {code : Nat} {body : List Byte} {i : Instr} (h : requestOfBody code body = some i) :
    requestCode i = some code := by
  unfold requestOfBody at h
  split at h
  · next j hj =>
    split at h
    · cases h
      unfold fieldlessRequest at hj
      (repeat' split at hj) <;> cases hj <;> subst_vars <;> rfl
    · cases h
  · exact of_decide_eq_true (Option.filter_eq_some_iff.1 h).2

theorem frameRequest_code {frame : List Byte} {code : Nat} {i : Instr} (h : frameRequest frame = .ok (code, i)) :
    requestCode i = some code := by
  unfold frameRequest at h
  dsimp only at h
  (repeat' split at h) <;> cases h
  next hb => exact requestOfBody_code hb

theorem completeProcessing_site (s : State) : SiteStep s (completeProcessing s) := by
  have h := SiteStep.refl s
  unfold completeProcessing
  split
  · split
    · exact h.of_blocks rfl
    · next code i hf =>
      split
      · exact h
      · next f ho => exact acceptRequest_site ho (frameRequest_code hf) s
  · exact h

/-- What the begin of a reset leaves: the laws of the vaults hold of it. -/
structure State.Sound (s : State) : Prop where
  whole : ∀ v, s.wholeAt v
  rest : s.restSound = true
  claimed : ∀ v, s.claimedAt v

theorem clearVolatile_sound (s : State) : (clearVolatile s).Sound := by
  have hrest (v : Vault) : (clearVolatile s).atRest v = true := by
    refine (State.atRest_iff _ v).2 ⟨?_, ?_, ?_, ?_, ?_, ?_, fun p => ?_⟩
    case refine_7 => cases v <;> cases p <;> rfl
    all_goals cases v <;> rfl
  refine ⟨fun v => State.wholeAt_of_atRest (hrest v), (State.restSound_iff _).2 ⟨fun v => .inr (hrest v), fun a ha => ?_,
    .inr ⟨rfl, rfl, rfl⟩, fun _ => rfl⟩, fun v _ => ?_⟩
  · cases ha
  · cases v <;> rfl

/-- A step of the part, or the begin of a reset. -/
def SiteOrReset (s t : State) : Prop := SiteStep s t ∨ t.Sound

theorem SiteOrReset.after {s₀ s t : State} (h : SiteStep s₀ s) : SiteOrReset s t → SiteOrReset s₀ t
  | .inl h' => .inl (h.trans h')
  | .inr h' => .inr h'

theorem beginReset_site (kind : ResetKind) (s : State) : SiteOrReset s (beginReset kind s) := by
  unfold beginReset
  split
  · exact .inl ((SiteStep.refl s).of_blocks rfl)
  · obtain ⟨hwhole, hrest, hclaimed⟩ := clearVolatile_sound (tearAttempt s)
    exact .inr ⟨hwhole, hrest, hclaimed⟩

theorem endReset_site (good : Bool) (s : State) : SiteStep s (endReset good s) := by
  unfold endReset
  split
  · next hp =>
    have hoff : s.configured = false := by rw [State.configured, hp]
    refine ⟨fun hc => Bool.noConfusion (hoff.symm.trans hc), id, fun hs => ?_, fun _ => id⟩
    obtain ⟨hall, hcount, hline, hphase⟩ := (State.restSound_iff s).1 hs
    have hrest (v : Vault) : s.atRest v = true := by
      have := hall v
      rw [State.acts, hoff, Bool.false_and] at this
      exact this.resolve_left Bool.false_ne_true
    have hlines := hline.resolve_left (by simp [hoff])
    refine (State.restSound_iff _).2 ⟨fun v => .inr (hrest v), fun a ha => ?_, .inr hlines, fun h => Phase.noConfusion h⟩
    have hact := hcount a ha
    rw [State.acts, hoff, Bool.false_and] at hact
    exact Bool.noConfusion hact
  · exact .refl s

theorem plain_site {c : Instr} {f : State → State} (hc : plainEffect c = some f) (s : State) : SiteOrReset s (f s) := by
  have h := SiteStep.refl s
  cases c <;> cases hc
  case requestTransaction rest =>
    unfold requestTransaction
    split
    · exact beginReset_site .restart s
    · exact .inl (h.of_blocks rfl)
  case responseTransaction clocked =>
    unfold responseTransaction
    dsimp only
    split
    · refine SiteOrReset.after ?_ (beginReset_site .restart _)
      exact h.of_blocks rfl
    · exact .inl (h.of_blocks rfl)
  case ignoredTransaction first clocked => exact .inl (.ite h (h.of_blocks rfl))
  case completionOfProcessing => exact .inl (completeProcessing_site s)
  case configurationRead => exact .inl (readConfiguration_site s)
  case scanTargetRead => exact .inl (readNext_site s)
  case writeLow => exact .inl (h.of_blocks (writeLow_blocks s))
  case supplyGood => exact .inl (h.of_blocks (supplyReturned_blocks s))
  case attemptCompletion outcome => exact .inl (h.of_blocks (attemptCompleted_blocks outcome s))
  case tickEvent readings => exact .inl (tickOnce_siteStep readings s)
  case referenceLost => exact .inl (h.of_blocks (referenceGap_blocks s))
  case referenceReturned => exact .inl (h.of_blocks (referenceGood_blocks s))
  case pollTransactionStart =>
    exact .inl (inLinePhase_site (by decide) fun _ hconf => beginTransaction_site hconf h)
  case replyWindowOpen => exact .inl (inLinePhase_site (by decide) fun _ hconf => linePhase_site _ hconf)
  case readerReplyBegun => exact .inl (inLinePhase_site (by decide) fun _ hconf => linePhase_site _ hconf)
  case replyWindowExpiry => exact .inl (inLinePhase_site (by decide) fun _ hconf => transactionMissed_site hconf)
  case readerReplyComplete bytes =>
    exact .inl (inLinePhase_site (by decide) fun _ hconf => transactionReplied_site bytes hconf)

theorem exec_site {c : Instr} {s t : State} (h : exec c s = .next t) : SiteOrReset s t := by
  have hsettle := settle_site s
  rcases form c with ⟨_, f, ho, -⟩ | ⟨d, f, -, he, ht⟩ | ⟨f, hp, he⟩ | ⟨kind, -, he⟩ | ⟨good, he⟩
  · obtain ⟨code, hcode, he⟩ := exec_of_owner ho
    rw [he] at h
    cases h
    exact .inl (acceptRequest_site ho hcode s)
  · rw [he] at h
    cases h
    split
    · exact .inl (.refl s)
    · rcases ht s with e | e <;> rw [e]
      · exact .inl (takeDue_site d s)
      · exact .inl (.refl s)
  · rw [he] at h
    cases h
    split
    · exact .inl hsettle
    · exact .after hsettle (plain_site hp _)
  · rw [he] at h
    cases h
    exact .after hsettle (beginReset_site kind _)
  · rw [he] at h
    cases h
    exact .inl (hsettle.trans (endReset_site good _))

theorem step_site {s t : State} (h : step s = .next t) : SiteOrReset s t := by
  unfold step at h
  split at h
  · cases h
    exact .inl (.refl s)
  · refine SiteOrReset.after ?_ (exec_site h)
    exact (SiteStep.refl s).of_blocks rfl

/-- Settles O12: every command is a step of the part, which keeps the rest of the idle vaults, or begins a reset, which
leaves every vault at rest. -/
theorem everyStepKeepsIdleVaultsAtRest : Obligations.EveryStepKeepsIdleVaultsAtRest := by
  unfold Obligations.EveryStepKeepsIdleVaultsAtRest
  intro s t hs h
  rcases step_site h with h' | h'
  · exact h'.rest hs
  · exact h'.rest

/-- Settles O10, as O12: a step of the part keeps the laws of the doors of every vault and, where the idle vaults rest, the
claims of the SSQs. -/
theorem everyStepKeepsTheInterlock : Obligations.EveryStepKeepsTheInterlock := by
  unfold Obligations.EveryStepKeepsTheInterlock
  refine ⟨fun s t hs h => ?_, fun s t hrest hs h => ?_⟩
  · rw [State.interlocked_iff] at hs ⊢
    rcases step_site h with h' | h'
    · exact h'.whole hs
    · exact h'.whole
  · rw [State.claimsSound_iff hrest] at hs
    have ht := everyStepKeepsIdleVaultsAtRest s t hrest h
    rw [State.claimsSound_iff ht]
    rcases step_site h with h' | h'
    · exact h'.claimed hrest hs
    · exact h'.claimed

end Sys2Proof.Machine

namespace Sys2Proof.Machine

/-! ## The claims of a vault and its sounder (O28) -/

/-- The winning kind of the claims other than TEST (R76). -/
def ClaimSet.urgent (c : ClaimSet) : Option ClaimKind :=
  [ClaimKind.evacuate, .discharge, .preDischarge, .alert, .doorForced, .doorHeld, .chirp].find? c.holds

/-- A source other than the TEST claim holds a claim. -/
def ClaimSet.others (c : ClaimSet) : Bool :=
  decide (c.ssq ≠ none) || c.siteEvacuate || c.outerForced || c.vaultForced || c.outerHeld || c.vaultHeld || c.chirp

/-- TEST wins where it is claimed and no other kind is (R76). -/
theorem ClaimSet.winning_eq (c : ClaimSet) : c.winning = c.urgent.or (c.test.map fun _ => .test) := by
  have hsplit : claimOrder = [ClaimKind.evacuate, .discharge, .preDischarge, .alert, .doorForced, .doorHeld, .chirp] ++ [.test] :=
    rfl
  rw [winning, hsplit, List.find?_append, urgent]
  cases h : c.test <;> simp [List.find?_cons, holds, h]

theorem ClaimSet.urgent_ne_test (c : ClaimSet) : c.urgent ≠ some .test := by
  intro h
  simpa using List.mem_of_find?_eq_some h

@[simp] theorem ClaimSet.urgent_withTest (c : ClaimSet) (t : Option TestClaim) (p : Nat) :
    ({ c with test := t, position := p } : ClaimSet).urgent = c.urgent := rfl

/-- Where the SSQ's claim is one that a state gives, a kind other than TEST wins exactly where another source claims. -/
theorem ClaimSet.urgent_eq_none_iff {c : ClaimSet} {q : SsqState} (h : c.ssq = stateClaim q) :
    c.urgent = none ↔ c.others = false := by
  have hssq : c.ssq = none ↔ c.ssq ≠ some .evacuate ∧ c.ssq ≠ some .discharge ∧ c.ssq ≠ some .preDischarge
      ∧ c.ssq ≠ some .alert := by
    rw [h]
    cases q <;> simp [stateClaim]
  simp only [urgent, others, List.find?_eq_none, List.forall_mem_cons, List.not_mem_nil, false_imp_iff, implies_true, and_true,
    holds, Bool.or_eq_false_iff, decide_eq_false_iff_not, not_not, hssq,
    Bool.not_eq_true]
  tauto

section
variable {c : ClaimSet} {q : SsqState} (h : c.ssq = stateClaim q)
include h

/-- Where another source claims, the TEST claim has no say in which kind wins. -/
theorem ClaimSet.winning_of_others (ho : c.others = true) (t : Option TestClaim) (p : Nat) :
    ({ c with test := t, position := p } : ClaimSet).winning = c.winning ∧ c.winning ≠ some .test := by
  cases hu : c.urgent with
  | none => exact Bool.noConfusion (ho.symm.trans ((urgent_eq_none_iff h).1 hu))
  | some k =>
    rw [winning_eq, winning_eq, urgent_withTest, hu]
    exact ⟨rfl, fun he => c.urgent_ne_test (hu.trans he)⟩

/-- Where no other source claims, TEST wins while it is claimed. -/
theorem ClaimSet.winning_of_alone (ho : c.others = false) (t : Option TestClaim) (p : Nat) :
    ({ c with test := t, position := p } : ClaimSet).winning = t.map fun _ => .test := by
  rw [winning_eq, urgent_withTest, (urgent_eq_none_iff h).2 ho, Option.none_or]

end

theorem claim_enabled {v : Vault} {s : State} (h : s.enabled v = true) (f : ClaimSet → ClaimSet) :
    claim v f s = s.withClaimSet v ((s.claimSet v).changed (f (s.claimSet v))) := if_pos h

theorem State.withClaimSet_twice (s : State) (v : Vault) (c d : ClaimSet) :
    (s.withClaimSet v c).withClaimSet v d = s.withClaimSet v d :=
  congrArg (fun x => { s with claims := x }) (PerVault.set_set s.claims v c d)

/-- The TEST claim placed at an enabled vault: it restarts the cadence where TEST then wins (R76, R78). -/
theorem claimTest_eq {s : State} {v : Vault} (hon : s.enabled v = true)
    (hq : (s.claimSet v).ssq = stateClaim (s.sequencer v).state) (t : TestClaim) :
    claimTest v t s = s.withClaimSet v { s.claimSet v with
        test := some t, position := if (s.claimSet v).others then (s.claimSet v).position else 0 }
      ∧ decide (((claimTest v t s).claimSet v).winning = some .test) = !(s.claimSet v).others := by
  generalize hc : s.claimSet v = c at *
  have hchanged : c.changed { c with test := some t }
      = { c with test := some t, position := if ({ c with test := some t } : ClaimSet).winning = c.winning
          then c.position else 0 } := by
    unfold ClaimSet.changed
    split <;> rfl
  have heq : claimTest v t s = s.withClaimSet v { c with test := some t, position := if c.others then c.position else 0 } := by
    unfold claimTest
    dsimp only
    rw [claim_enabled hon, hc, hchanged, State.withClaimSet_claimSet, State.withClaimSet_twice]
    cases ho : c.others with
    | true =>
      obtain ⟨hsame, htest⟩ := ClaimSet.winning_of_others hq ho (some t) c.position
      obtain ⟨hsame', -⟩ := ClaimSet.winning_of_others hq ho (some t)
        (if ({ c with test := some t } : ClaimSet).winning = c.winning then c.position else 0)
      rw [if_neg (hsame' ▸ htest), if_pos hsame]
      rfl
    | false => exact if_pos (ClaimSet.winning_of_alone hq ho (some t) _)
  refine ⟨heq, ?_⟩
  rw [heq, State.withClaimSet_claimSet]
  cases ho : c.others with
  | true =>
    obtain ⟨hsame, htest⟩ := ClaimSet.winning_of_others hq ho (some t) (if true = true then c.position else 0)
    rw [hsame]
    simpa using htest
  | false => rw [ClaimSet.winning_of_alone hq ho]; rfl

theorem testOutput_num {s : State} {v : Vault} (k : Cadence) (t : Tone) (b : Bool) (seconds : Nat) :
    testOutput v.num (some k) (some t) (some b) seconds s =
      if s.enabled v then
        let s' := claimTest v { cadence := k, tone := t, strobe := b, remaining := clamp 1 10 seconds * 100 } s
        ok (.test (clamp 1 10 seconds) (decide ((s'.claimSet v).winning = some .test))) s'
      else refuse .state s := by
  rw [testOutput, onVault_num]

/-- The TEST claim withdrawn at an enabled vault (R78). -/
theorem endTest_eq {s : State} {v : Vault} (hon : s.enabled v = true) :
    endTest v s = s.withClaimSet v { s.claimSet v with
      test := none
      position := if ({ s.claimSet v with test := none } : ClaimSet).winning = (s.claimSet v).winning
        then (s.claimSet v).position else 0 } := by
  rw [endTest, claim_enabled hon, ClaimSet.changed]
  split <;> rfl

/-- The winning kind, by the order of R76. -/
theorem ClaimSet.winning_chain (c : ClaimSet) : c.winning =
    if c.ssq = some .evacuate ∨ c.siteEvacuate = true then some .evacuate
    else if c.ssq = some .discharge then some .discharge
    else if c.ssq = some .preDischarge then some .preDischarge
    else if c.ssq = some .alert then some .alert
    else if c.outerForced = true ∨ c.vaultForced = true then some .doorForced
    else if c.outerHeld = true ∨ c.vaultHeld = true then some .doorHeld
    else if c.chirp = true then some .chirp
    else c.test.map fun _ => .test := by
  have step (k : ClaimKind) (l : List ClaimKind) (p : Prop) [Decidable p] (hp : c.holds k = true ↔ p) :
      (k :: l).find? c.holds = if p then some k else l.find? c.holds := by
    rw [List.find?_cons]
    by_cases h : p
    · rw [if_pos h, hp.2 h]
    · rw [if_neg h, Bool.eq_false_iff.2 (mt hp.1 h)]
  rw [winning_eq, urgent, step _ _ (c.ssq = some .evacuate ∨ c.siteEvacuate = true) (by simp [holds]),
    step _ _ (c.ssq = some .discharge) (by simp [holds]), step _ _ (c.ssq = some .preDischarge) (by simp [holds]),
    step _ _ (c.ssq = some .alert) (by simp [holds]),
    step _ _ (c.outerForced = true ∨ c.vaultForced = true) (by simp [holds]),
    step _ _ (c.outerHeld = true ∨ c.vaultHeld = true) (by simp [holds]), step _ _ (c.chirp = true) (by simp [holds])]
  simp only [apply_ite (fun o : Option ClaimKind => o.or (c.test.map fun _ => ClaimKind.test)), Option.some_or, List.find?_nil,
    Option.none_or]

/-- The winning kind drives SOUNDER and STROBE (R76, R77). -/
theorem State.vaultOutputs_drive {s : State} {v : Vault} {k : Cadence} {t : Tone} {b : Bool}
    (h : (s.claimSet v).drive = some (k, t, b)) :
    (s.vaultOutputs v).sounder = (if cadenceOn k (s.claimSet v).position then some t else none)
      ∧ (s.vaultOutputs v).strobe = b := by
  simp only [State.vaultOutputs, h, and_self]

theorem State.vaultOutputs_silent {s : State} {v : Vault} (h : (s.claimSet v).drive = none) :
    (s.vaultOutputs v).sounder = none ∧ (s.vaultOutputs v).strobe = false := by
  simp only [State.vaultOutputs, h, and_self]

theorem ClaimSet.drive_of_none {c : ClaimSet} (h : c.winning = none) : c.drive = none := by
  rw [drive, h]

/-- A vault whose blocks do not act holds no claim (R75). -/
theorem State.noClaims_of_idle {s : State} {v : Vault} (hs : s.restSound = true) (ha : s.acts v = false) :
    s.claimSet v = noClaims := by
  have hrest := ((State.restSound_iff s).1 hs).1 v
  rw [ha] at hrest
  obtain ⟨-, -, -, hclaims, -⟩ := (s.atRest_iff v).1 (hrest.resolve_left Bool.false_ne_true)
  exact hclaims

/-- Where the TEST claim's time reaches 0 it stands (R78). -/
theorem State.test_of_due {s : State} {v : Vault} (h : s.stillDue (.testClaim v) = true) :
    ∃ t, (s.claimSet v).test = some t := by
  cases ht : (s.claimSet v).test with
  | some t => exact ⟨t, rfl⟩
  | none => simp [State.stillDue, ht, lastTick] at h

/-- The cadence of a claim set whose TEST claim ends: it restarts where TEST won (R76). -/
theorem ClaimSet.position_of_testEnd {c : ClaimSet} {q : SsqState} {t : TestClaim} (h : c.ssq = stateClaim q)
    (ht : c.test = some t) : (if ({ c with test := none } : ClaimSet).winning = c.winning then c.position else 0)
      = if c.others then c.position else 0 := by
  cases ho : c.others with
  | true => exact if_pos (winning_of_others h ho none c.position).1
  | false =>
    have hold : c.winning = some .test := by
      rw [winning_eq, (urgent_eq_none_iff h).2 ho, ht]
      rfl
    refine if_neg fun he => ?_
    rw [hold] at he
    exact absurd ((winning_of_alone h ho none c.position).symm.trans he) (by simp)

theorem cadenceOn_temporal (p : Nat) : cadenceOn .temporal p
    = decide (p < 50 ∨ (100 ≤ p ∧ p < 150) ∨ (200 ≤ p ∧ p < 250)) := by
  simp [cadenceOn, Bool.or_assoc]

/-- Settles O28: the winning kind is told by the other sources' kinds and the TEST claim. -/
theorem testClaimsBeginAndEnd : Obligations.TestClaimsBeginAndEnd := by
  unfold Obligations.TestClaimsBeginAndEnd
  refine ⟨fun s v k t b seconds hs hon hq => ?_, fun s v k t b seconds hs hoff => ?_, fun s v hd hon => ?_, fun s v => ?_⟩
  · obtain ⟨heq, hwins⟩ := claimTest_eq hon hq
      { cadence := k, tone := t, strobe := b, remaining := clamp 1 10 seconds * 100 }
    have hf : testOutput v.num (some k) (some t) (some b) seconds s = _ := (testOutput_num k t b seconds).trans (if_pos hon)
    have htag : (testOutput v.num (some k) (some t) (some b) seconds s).1.link.tag = s.link.tag := by
      rw [hf]
      dsimp only [ok]
      rw [heq]
      rfl
    refine (hostRequest_answered 20 _ hs htag).trans ?_
    rw [hf]
    dsimp only [ok]
    rw [hwins, heq]
    rfl
  · exact hostRequest_refuse hs ((testOutput_num k t b seconds).trans (if_neg (Bool.eq_false_iff.1 hoff)))
  · refine ⟨_, (event_comes hd).trans (congrArg Host.Outcome.next (endTest_eq hon)), ?_, fun hq => ?_⟩
    · split
      · exact .inr rfl
      · exact .inl rfl
    · obtain ⟨t, ht⟩ := State.test_of_due hd.2.2
      exact ClaimSet.position_of_testEnd hq ht
  · dsimp only
    rw [← ClaimSet.winning_chain]
    refine ⟨rfl, fun hw => State.vaultOutputs_silent (ClaimSet.drive_of_none hw), fun hw => ?_, fun hw => ?_, fun hw => ?_,
      fun hw => ?_, fun hw => ?_, fun hw => ?_, fun hw => ?_, fun hw x hx => ?_, fun hs ha => ?_⟩
    · rw [← cadenceOn_temporal]
      exact State.vaultOutputs_drive (by rw [ClaimSet.drive, hw])
    · exact State.vaultOutputs_drive (by rw [ClaimSet.drive, hw])
    · exact State.vaultOutputs_drive (by rw [ClaimSet.drive, hw])
    · exact State.vaultOutputs_drive (by rw [ClaimSet.drive, hw])
    · exact State.vaultOutputs_drive (by rw [ClaimSet.drive, hw])
    · exact State.vaultOutputs_drive (by rw [ClaimSet.drive, hw])
    · exact State.vaultOutputs_drive (by rw [ClaimSet.drive, hw])
    · obtain ⟨hsounder, hstrobe⟩ := State.vaultOutputs_drive (s := s) (v := v) (k := x.cadence) (t := x.tone) (b := x.strobe)
        (by rw [ClaimSet.drive, hw, hx]; rfl)
      refine ⟨hsounder.trans ?_, hstrobe⟩
      cases x.cadence with
      | temporal => rw [cadenceOn_temporal]
      | continuous | fast | slow | chirp => rfl
    · refine State.vaultOutputs_silent ?_
      rw [State.noClaims_of_idle hs ha]
      rfl

end Sys2Proof.Machine

namespace Sys2Proof.Machine

/-! ## The line and reader status and the outputs (O29) -/

/-- The verdicts in the order of the R91 table. -/
def verdictOrder : List Verdict :=
  [.granted, .grantedPair, .exitReleased, .exitUnlisted, .checkedIn, .waitSecond, .pinRequired, .starting, .escortNeeded,
    .doorBusy, .interlock, .storeBusy, .full, .pairLapsed, .notInside, .unknown, .retired, .suspended, .lockedOut,
    .lockdown, .expired, .notPermitted, .clock, .outOfHours, .pinWrong, .passback, .suppression]

/-- A verdict is reported by its place in the R91 table, from 1 (R215). -/
theorem verdictReport_eq (x : Verdict) (k : Option Nat) :
    verdictReport x k = { code := BitVec.ofNat 8 (verdictOrder.idxOf x + 1), number := k } := by
  cases x <;> rfl

/-- The number of a reader's address finds that reader (R80). -/
theorem allReaders_find (a : ReaderAddress) : (allReaders.find? fun b => decide (b.number = a.number)) = some a := by
  obtain ⟨v, p⟩ := a
  cases v <;> cases p <;> rfl

theorem ReaderAddress.number_lt (a : ReaderAddress) : a.number < 24 := by
  obtain ⟨v, p⟩ := a
  cases v <;> cases p <;> decide

theorem allReaders_find_none {n : Nat} (h : 24 ≤ n) : (allReaders.find? fun b => decide (b.number = n)) = none := by
  refine List.find?_eq_none.2 fun b _ hb => ?_
  have hn : b.number = n := of_decide_eq_true hb
  exact absurd b.number_lt (by omega)

theorem State.fire_iff (s : State) : s.fire = true ↔
    ∃ v, s.enabled v = true ∧ (s.sequencer v).state ≠ .quiet ∧ (s.sequencer v).state ≠ .isolated := by
  simp [State.fire, List.any_eq_true, Vault.mem_all, and_assoc]

theorem stateLamp_iff (q : SsqState) : stateLamp q = true ↔ q ≠ .quiet ∧ q ≠ .alert ∧ q ≠ .inhibited ∧ q ≠ .isolated := by
  cases q <;> decide

/-- The outputs of a vault follow its door states and its SSQ's state (R74, R123, R162). -/
theorem State.vaultOutputs_iff (s : State) (v : Vault) :
    ((s.vaultOutputs v).outerLock = true ↔ (s.door v).outer = .unlocked ∨ (s.door v).outer = .emergencyUnlocked)
      ∧ ((s.vaultOutputs v).boltRetract = true ↔
          (s.door v).vault = .retracting ∨ ((s.door v).vault = .emergencyReleased ∧ (s.door v).travel ≠ none))
      ∧ ((s.vaultOutputs v).boltExtend = true ↔ (s.door v).vault = .extending)
      ∧ ((s.vaultOutputs v).release = true ↔ (s.sequencer v).state = .releasing)
      ∧ ((s.vaultOutputs v).zoneLamp = true ↔ (s.sequencer v).state ≠ .quiet ∧ (s.sequencer v).state ≠ .alert
          ∧ (s.sequencer v).state ≠ .inhibited ∧ (s.sequencer v).state ≠ .isolated) := by
  simp [State.vaultOutputs, stateLamp_iff, Option.isSome_iff_ne_none]

/-- GET-READER-STATUS as the records stand, each verdict by its place in the R91 table (R94, R215). -/
theorem State.readerReport_eq (s : State) (a : ReaderAddress) :
    let coded (x : Verdict) (k : Option Nat) : VerdictReport :=
      { code := BitVec.ofNat 8 (verdictOrder.idxOf x + 1), number := k }
    let r := s.reader a
    s.readerReport a =
      { inRound := s.enabled a.vault, status := r.status, misses := r.misses, presentation := r.presentation
        waiting := r.waiting.map fun i => coded i.verdict i.number
        inFlight := r.inFlight.map fun i => coded i.verdict i.number
        lastVerdict := r.lastVerdict.map fun l => (coded l.verdict l.number, l.time) } := by
  simp only [State.readerReport, verdictReport_eq]

/-- Settles O29: the reports are read off the records, and each output off the state that drives it. -/
theorem linesReadersAndOutputs : Obligations.LinesReadersAndOutputs := by
  unfold Obligations.LinesReadersAndOutputs
  refine ⟨fun s hs => ?_, fun s => ⟨s.vaultOutputs_iff, s.fire_iff, ?_, ?_⟩⟩
  · have hreport (a : ReaderAddress) := s.readerReport_eq a
    simp only [verdictOrder] at hreport
    simp only [← hreport]
    refine ⟨fun v => ?_, ?_, fun n hn => ?_, ?_, fun a => ?_, ?_, fun n hn => ?_, ?_⟩
    · exact hostRequest_ok hs (congrFun (onVault_num v vaultLineStatus) s)
    · exact hostRequest_ok hs rfl
    · exact hostRequest_refuse hs (onVault_bad hn _ s)
    · exact hostRequest_refuse hs rfl
    · refine hostRequest_ok hs ?_
      simp only [getReaderStatus, allReaders_find]
    · exact hostRequest_ok hs rfl
    · refine hostRequest_refuse hs ?_
      simp only [getReaderStatus, allReaders_find_none hn]
    · exact hostRequest_refuse hs rfl
  · simp [State.guardOut, Atu.guardActive]
  · simp [State.monitorOut, Atu.monitorActive]

end Sys2Proof.Machine

namespace Sys2Proof.Machine

/-! ## The events of the outer door (O51) -/

/-- The qualified change of a vault line that waits, taken into its record (R63). -/
def State.lineTaken (s : State) (v : Vault) (l : Line) (new : Reading) : State :=
  (s.without (.line v l)).withLineRecord v l
    { s.lineRecord v l with qualified := some new, candidate := none, run := 0, start := none }

/-- The qualified change of a line that is not supervised goes to the line's users (R63, R65). -/
theorem takeLine_unsupervised {s : State} {v : Vault} {l : Line} {new : Reading} (h : s.changes v l new)
    (hl : supervised l = false) : takeLine v l (s.without (.line v l)) =
      deliverLine v l (s.lineRecord v l).qualified new ((s.lineRecord v l).start.getD s.cal.instant) (s.lineTaken v l new) := by
  have hcand : ((s.without (.line v l)).lineRecord v l).candidate = some new := h.2
  have hq : ((s.without (.line v l)).lineRecord v l).changed
      = { s.lineRecord v l with qualified := some new, candidate := none, run := 0, start := none } := by
    rw [Qualification.changed, hcand]
    rfl
  unfold takeLine
  simp only [hcand, hl, hq, Bool.false_eq_true, if_false]
  rfl

theorem PerLine.get_set_of_ne {α : Type} (p : PerLine α) {l k : Line} (a : α) (h : l ≠ k) : (p.set l a).get k = p.get k := by
  cases l <;> cases k <;> first | rfl | exact absurd rfl h

/-- What leaves the lines of the state in which a change is taken leaves the line qualified and the others as they were. -/
theorem State.lineQualified_of_lines {s t : State} {v : Vault} {l : Line} {new : Reading}
    (h : t.lines = (s.lineTaken v l new).lines) : s.lineQualified t v l new := by
  have hrec (k : Line) : t.lineRecord v k = (s.lineTaken v l new).lineRecord v k := by rw [State.lineRecord, h]; rfl
  refine ⟨(hrec l).trans (State.withLineRecord_lineRecord _ v l _), fun k hk => (hrec k).trans ?_⟩
  simp [State.lineTaken, State.lineRecord, State.withLineRecord, State.withLines, PerLine.get_set_of_ne _ _ hk.symm,
    State.without]

@[simp] theorem State.lineTaken_door (s : State) (v w : Vault) (l : Line) (new : Reading) :
    (s.lineTaken v l new).door w = s.door w := rfl

/-- A door record replaced leaves the register, the sequencers, the pairs and the readers. -/
theorem Redoored.doorsAlone {v : Vault} {d : DoorRecord} {s t : State} (h : Redoored v d s t) : s.doorsAlone t := by
  obtain ⟨hpairs, -, -, hocc, hssq, -⟩ := h.others
  have hreaders : t.readers = s.readers := (congrArg (fun u : State => u.readers) h :)
  exact ⟨hocc, hssq, hpairs, hreaders⟩

theorem Redoored.lines_eq {v : Vault} {d : DoorRecord} {s t : State} (h : Redoored v d s t) : t.lines = s.lines := by
  obtain ⟨-, -, hlines, -⟩ := h.others
  exact hlines

/-! ### What the operations leave of the door record -/

section
variable {v : Vault} {s : State}

theorem withDoor_redoored (v : Vault) (d : DoorRecord) (s : State) : Redoored v d s (s.withDoor v d) := rfl

theorem setOuter_redoored {o : OuterState} (h : o ≠ .locked) : Redoored v { s.door v with outer := o } s (setOuter v o s) := by
  unfold setOuter
  rw [if_neg h]
  exact Redoored.putDoor v _ s

theorem setOuter_locked_redoored :
    Redoored v { s.door v with outer := .locked, outerForcedStands := false } s (setOuter v .locked s) := by
  unfold setOuter
  rw [if_pos rfl]
  have hput := Redoored.putDoor v { s.door v with outer := .locked } s
  have hend : Redoored v _ _ _ := endForced_sansReports v .outer (putDoor v { s.door v with outer := .locked } s)
  rw [hput.door] at hend
  exact hput.trans hend

theorem raise_sansReports (key : AlarmKey) (s : State) : (raise key s).1.sansReports = s.sansReports := by
  unfold raise
  dsimp only
  (repeat' split) <;> rfl

theorem raiseForced_redoored (which : Door) :
    Redoored v ((s.door v).setForced which true) s (raiseForced v which s) := by
  unfold raiseForced
  dsimp only
  split
  · exact (claim_sansReports v _ _).trans (raise_sansReports _ _)
  · exact raise_sansReports _ _

theorem raiseHeld_redoored (which : Door) : Redoored v ((s.door v).setHeld which true) s (raiseHeld v which s) := by
  unfold raiseHeld
  dsimp only
  split
  · exact (claim_sansReports v _ _).trans (raise_sansReports _ _)
  · exact raise_sansReports _ _

theorem claim_conditionStands (v : Vault) (f : ClaimSet → ClaimSet) (key : AlarmKey) (s : State) :
    (claim v f s).conditionStands key = s.conditionStands key := by
  unfold claim
  split <;> rfl

/-- With a place in the alarm table a raised DOOR-FORCED stands (R138, R192). -/
theorem raiseForced_stands (which : Door) (ha : s.atu.lawful = true) (hroom : s.alarmRoom) :
    (raiseForced v which s).conditionStands (doorKey .doorForced v (.door which)) = true := by
  have h := raised_stands (s := s.withDoor v ((s.door v).setForced which true)) ha hroom.lt (doorKey .doorForced v (.door which))
  unfold raiseForced
  dsimp only
  split
  · exact (claim_conditionStands v _ _ _).trans h
  · exact h

theorem raiseHeld_stands (which : Door) (ha : s.atu.lawful = true) (hroom : s.alarmRoom) :
    (raiseHeld v which s).conditionStands (doorKey .doorHeld v (.door which)) = true := by
  have h := raised_stands (s := s.withDoor v ((s.door v).setHeld which true)) ha hroom.lt (doorKey .doorHeld v (.door which))
  unfold raiseHeld
  dsimp only
  split
  · exact (claim_conditionStands v _ _ _).trans h
  · exact h

end

/-! ### The outer door's own operations -/

section
variable {v : Vault} {s : State}

theorem outerOpened_other (h : (s.door v).outer = .opened ∨ (s.door v).outer = .emergencyUnlocked) (first : Bool) :
    outerOpened v first s = s := by
  unfold outerOpened
  rcases h with h | h <;> rw [h]

/-- The outer door opens from LOCKED (R125). -/
theorem outerOpened_locked (h : (s.door v).outer = .locked) :
    Redoored v { s.door v with outer := .opened, outerHeld := some (s.heldTicks v) } s (outerOpened v true s)
      ∧ Redoored v { s.door v with outer := .opened, outerHeld := some (s.heldTicks v), outerForcedStands := true } s
          (outerOpened v false s)
      ∧ (s.atu.lawful = true → s.alarmRoom →
          (outerOpened v false s).conditionStands (doorKey .doorForced v (.door .outer)) = true) := by
  have hset := (withDoor_redoored v { s.door v with outerHeld := some (s.heldTicks v) } s).trans
    (setOuter_redoored (o := .opened) OuterState.noConfusion)
  rw [State.withDoor_door] at hset
  have hatu : (setOuter v .opened (s.withDoor v { s.door v with outerHeld := some (s.heldTicks v) })).atu = s.atu := by
    rw [setOuter, if_neg OuterState.noConfusion, putDoor_eq]
    rfl
  have hforced := hset.trans (raiseForced_redoored .outer)
  rw [hset.door] at hforced
  unfold outerOpened
  rw [h]
  refine ⟨hset, hforced, fun ha hroom => raiseForced_stands .outer (hatu ▸ ha) ?_⟩
  rw [State.alarmRoom, hatu]
  exact hroom

/-- The outer door opens from UNLOCKED, and its grant ends (R125). -/
theorem outerOpened_unlocked (h : (s.door v).outer = .unlocked) (first : Bool) :
    Redoored v { s.door v with outer := .opened, outerGrant := none, outerHeld := some (s.heldTicks v) } s
      (outerOpened v first s) := by
  have hput := Redoored.putDoor v { s.door v with outerGrant := none, outerHeld := some (s.heldTicks v) } s
  have hset := hput.trans (setOuter_redoored (o := .opened) OuterState.noConfusion)
  rw [hput.door] at hset
  unfold outerOpened
  rw [h]
  exact hset

theorem outerClosed_other (h : (s.door v).outer ≠ .opened) : outerClosed v s = s := by
  unfold outerClosed
  split
  · next ho => exact absurd ho h
  all_goals rfl

/-- The outer door closes (R125): its held timer ends with the DOOR-HELD and DOOR-FORCED conditions (R133, R138). -/
theorem outerClosed_opened (h : (s.door v).outer = .opened) :
    Redoored v { s.door v with outer := .locked, outerHeld := none, outerHeldStands := false, outerForcedStands := false } s
      (outerClosed v s) := by
  have hdoor := withDoor_redoored v { s.door v with outerHeld := none } s
  have hend : Redoored v _ _ _ := endHeld_sansReports v .outer (s.withDoor v { s.door v with outerHeld := none })
  have hheld := hdoor.trans hend
  rw [hdoor.door] at hheld
  have hset := hheld.trans setOuter_locked_redoored
  rw [hheld.door] at hset
  unfold outerClosed
  rw [h]
  exact hset

theorem outerOpened_redoors (first : Bool) : ∃ d, Redoored v d s (outerOpened v first s) := by
  cases h : (s.door v).outer with
  | locked =>
    obtain ⟨hfirst, hforced, -⟩ := outerOpened_locked h
    cases first with
    | true => exact ⟨_, hfirst⟩
    | false => exact ⟨_, hforced⟩
  | unlocked => exact ⟨_, outerOpened_unlocked h first⟩
  | opened => exact ⟨s.door v, by rw [outerOpened_other (.inl h) first]; exact .refl⟩
  | emergencyUnlocked => exact ⟨s.door v, by rw [outerOpened_other (.inr h) first]; exact .refl⟩

theorem outerClosed_redoors : ∃ d, Redoored v d s (outerClosed v s) := by
  by_cases h : (s.door v).outer = .opened
  · exact ⟨_, outerClosed_opened h⟩
  · exact ⟨s.door v, by rw [outerClosed_other h]; exact .refl⟩

/-- A press of OUTER-EGRESS unlocks a locked or unlocked outer door (R125). -/
theorem outerEgressPress_redoored : Redoored v
    (if (s.door v).outer = .locked ∨ (s.door v).outer = .unlocked then
      { s.door v with outer := .unlocked, outerGrant := some { origin := .egress, lapse := s.outerTicks v } } else s.door v)
    s (outerEgressPress v s) := by
  have hput := Redoored.putDoor v { s.door v with outerGrant := some { origin := .egress, lapse := s.outerTicks v } } s
  have hset := hput.trans (setOuter_redoored (o := .unlocked) OuterState.noConfusion)
  rw [hput.door] at hset
  unfold outerEgressPress
  cases h : (s.door v).outer with
  | locked => rwa [if_pos (.inl rfl)]
  | unlocked => rwa [if_pos (.inr rfl)]
  | opened => rw [if_neg (by simp)]; exact Redoored.refl
  | emergencyUnlocked => rw [if_neg (by simp)]; exact Redoored.refl

/-- The grant of the outer door lapses (R125). -/
theorem outerLapsed_redoored : Redoored v
    (if (s.door v).outer = .unlocked then { s.door v with outer := .locked, outerGrant := none, outerForcedStands := false }
      else { s.door v with outerGrant := none }) s (outerLapsed v s) := by
  have hput := Redoored.putDoor v { s.door v with outerGrant := none } s
  have hset := hput.trans setOuter_locked_redoored
  rw [hput.door] at hset
  unfold outerLapsed
  dsimp only
  rw [hput.door]
  split
  · exact hset
  · exact hput

/-- A held timer ends (R133, R138). -/
theorem heldExpired_redoored (which : Door) :
    Redoored v (((s.door v).setHeldTimer which none).setHeld which true) s (heldExpired v which s) := by
  have hdoor := withDoor_redoored v ((s.door v).setHeldTimer which none) s
  have h := hdoor.trans (raiseHeld_redoored which)
  rwa [hdoor.door] at h

end

/-- The contact of the outer door changes (R125, R133, R138). -/
theorem outerContact_takes {s : State} {v : Vault} {new : Reading} (h : s.changes v .outerContact new) :
    exec (.outerContact v) s = .next
      (if new = .active then outerOpened v (s.lineRecord v .outerContact).qualified.isNone (s.lineTaken v .outerContact new)
        else if (s.lineRecord v .outerContact).qualified = some .active then outerClosed v (s.lineTaken v .outerContact new)
        else s.lineTaken v .outerContact new) := by
  refine (event_comes h.1).trans (congrArg Host.Outcome.next ((takeLine_unsupervised h rfl).trans ?_))
  simp only [deliverLine, decide_eq_true_eq]

theorem outerEgress_takes {s : State} {v : Vault} {new : Reading} (h : s.changes v .outerEgress new) :
    exec (.outerEgress v) s = .next
      (if new = .active then outerEgressPress v (s.lineTaken v .outerEgress new) else s.lineTaken v .outerEgress new) := by
  refine (event_comes h.1).trans (congrArg Host.Outcome.next ((takeLine_unsupervised h rfl).trans ?_))
  simp only [deliverLine, decide_eq_true_eq]

/-- Settles O51: each event leaves the door record that its operation gives, and nothing else of the vault's records. -/
theorem outerDoorEvents : Obligations.OuterDoorEvents := by
  unfold Obligations.OuterDoorEvents
  intro s v ha
  dsimp only
  refine ⟨fun new h => ?_, fun new h => ?_, fun h => ?_, fun which h => ?_⟩
  · refine ⟨_, outerContact_takes h, ?_⟩
    by_cases hn : new = .active
    · simp only [hn, if_true, not_true, false_imp_iff, true_imp_iff, ne_eq, true_and]
      obtain ⟨d, hd⟩ := outerOpened_redoors (v := v) (s := s.lineTaken v .outerContact .active)
        (s.lineRecord v .outerContact).qualified.isNone
      refine ⟨State.lineQualified_of_lines hd.lines_eq, hd.doorsAlone, fun ho hq => ?_, fun ho hq => ?_, fun ho => ?_,
        fun ho => ?_⟩
      · obtain ⟨hfirst, -, -⟩ := outerOpened_locked (s := s.lineTaken v .outerContact .active) ho
        rw [hq]
        exact hfirst.door
      · obtain ⟨-, hforced, hstands⟩ := outerOpened_locked (s := s.lineTaken v .outerContact .active) ho
        rw [Option.isNone_eq_false_iff.2 (Option.isSome_iff_ne_none.2 hq)]
        exact ⟨hforced.door, hstands ha⟩
      · exact (outerOpened_unlocked (s := s.lineTaken v .outerContact .active) ho _).door
      · rw [outerOpened_other (s := s.lineTaken v .outerContact .active) (.inr ho)]
        rfl
    · simp only [hn, if_false, not_false_iff, false_imp_iff, true_imp_iff, ne_eq, true_and]
      split
      · next hq =>
        obtain ⟨d, hd⟩ := outerClosed_redoors (v := v) (s := s.lineTaken v .outerContact new)
        refine ⟨State.lineQualified_of_lines hd.lines_eq, hd.doorsAlone, fun _ ho => ?_, fun ho => ?_⟩
        · exact (outerClosed_opened (s := s.lineTaken v .outerContact new) ho).door
        · rw [outerClosed_other (s := s.lineTaken v .outerContact new) (by rw [State.lineTaken_door, ho]; decide)]
          rfl
      · next hq =>
        exact ⟨State.lineQualified_of_lines rfl, ⟨rfl, rfl, rfl, rfl⟩, fun he => absurd he hq, fun _ => rfl⟩
  · refine ⟨_, outerEgress_takes h, ?_⟩
    by_cases hn : new = .active
    · have hr := outerEgressPress_redoored (v := v) (s := s.lineTaken v .outerEgress new)
      rw [if_pos hn]
      refine ⟨State.lineQualified_of_lines hr.lines_eq, hr.doorsAlone, hr.door.trans ?_⟩
      simp only [hn, true_and]
      rfl
    · rw [if_neg hn, if_neg fun hc => hn hc.1]
      exact ⟨State.lineQualified_of_lines rfl, ⟨rfl, rfl, rfl, rfl⟩, rfl⟩
  · have hr := outerLapsed_redoored (v := v) (s := s.without (.outerGrant v))
    refine ⟨_, event_comes h, hr.doorsAlone, hr.lines_eq, fun ho => hr.door.trans (if_pos ho), fun ho => hr.door.trans (if_neg ho)⟩
  · have hr := heldExpired_redoored (v := v) (s := s.without (.held v which)) which
    refine ⟨_, event_comes h, hr.doorsAlone, hr.lines_eq, ?_, fun hroom => ?_⟩
    · cases which <;> exact hr.door
    · exact raiseHeld_stands which ha hroom

end Sys2Proof.Machine

namespace Sys2Proof.Machine

/-! ## People, pairs and escalations (O56) -/

/-- A raise into a table with a place leaves a record of its key that has not ended, and a new one as R189 sets it. -/
theorem raised_recorded {s : State} (hlt : s.atu.table.length < 48) (key : AlarmKey) :
    ∃ r ∈ (raised key s).atu.table, r.key = key ∧ r.state ≠ .clearedUnack
      ∧ ((∀ x ∈ s.atu.table, x.key ≠ key) → r.state = .raised ∧ r.level = initialLevel key.kind
          ∧ r.escalation = escalationFor s.cfg.site key.kind (initialLevel key.kind)) := by
  unfold raised raise
  split
  · next r hf =>
    have hr : r ∈ s.atu.table := List.mem_of_find?_eq_some hf
    have hk : r.key = key := by simpa using List.find?_some hf
    have hm : r.again s.cfg.site ∈ updateKey key (fun _ => r.again s.cfg.site) s.atu.table :=
      List.mem_map.2 ⟨r, hr, if_pos hk⟩
    refine ⟨r.again s.cfg.site, ?_, (r.again_key _).trans hk, r.again_state _, fun hn => absurd hk (hn r hr)⟩
    dsimp only
    split <;> exact hm
  · rw [if_pos hlt]
    refine ⟨_, List.mem_append_right _ (List.mem_singleton.2 rfl), rfl, ?_, fun _ => ⟨rfl, rfl, rfl⟩⟩
    exact AlarmState.noConfusion

/-- The end of a condition adds no record but the site EVACUATION record that is owed (R193, R199). -/
theorem endCondition_table (key : AlarmKey) (s : State) :
    (endCondition key s).atu.table.length ≤ s.atu.table.length
      ∧ ∀ x ∈ (endCondition key s).atu.table, (∃ y ∈ s.atu.table, y.key = x.key) ∨ x.key = siteEvacuationKey := by
  unfold endCondition
  split
  · exact ⟨le_rfl, fun x hx => .inl ⟨x, hx, rfl⟩⟩
  · next r hf =>
    have hr : r ∈ s.atu.table := List.mem_of_find?_eq_some hf
    split
    · refine ⟨(List.length_map _).le, fun x hx => ?_⟩
      obtain ⟨y, hy, rfl⟩ := List.mem_map.1 (show x ∈ updateKey key AlarmRecord.cleared s.atu.table from hx)
      refine .inl ⟨y, hy, ?_⟩
      split <;> rfl
    · have hlen : (dropId r.id s.atu.table).length + 1 = s.atu.table.length := List.length_eraseP_add_one hr (by simp)
      have hmem {x : AlarmRecord} (hx : x ∈ dropId r.id s.atu.table) : x ∈ s.atu.table := List.mem_of_mem_eraseP hx
      unfold retireRecord
      dsimp only
      split
      · refine ⟨?_, fun x hx => ?_⟩
        · exact (List.length_append.trans hlen).le
        · rcases List.mem_append.1 hx with hx | hx
          · exact .inl ⟨x, hmem hx, rfl⟩
          · rw [List.mem_singleton.1 hx]
            exact .inr rfl
      · exact ⟨(Nat.le_succ _).trans hlen.le, fun x hx => .inl ⟨x, hmem hx, rfl⟩⟩
    · exact ⟨le_rfl, fun x hx => .inl ⟨x, hx, rfl⟩⟩

/-- The qualified change of a supervised line: LINE-FAULT is raised or ended first, and the line's users take the change. -/
theorem takeLine_supervised {s : State} {v : Vault} {l : Line} {new : Reading} (h : s.changes v l new)
    (hl : supervised l = true) : ∃ time, takeLine v l (s.without (.line v l)) =
      deliverLine v l (s.lineRecord v l).qualified new time (lineFault (.vaultLine v l) new (s.lineTaken v l new)) := by
  have hcand : ((s.without (.line v l)).lineRecord v l).candidate = some new := h.2
  have hq : ((s.without (.line v l)).lineRecord v l).changed
      = { s.lineRecord v l with qualified := some new, candidate := none, run := 0, start := none } := by
    rw [Qualification.changed, hcand]
    rfl
  unfold takeLine
  simp only [hcand, hl, hq, if_true]
  exact ⟨_, rfl⟩

/-- A raise or an end of a condition changes the alarm table and the link alone. -/
def State.sameButAlarms (s t : State) : Prop := t = { s with atu := t.atu, link := t.link }

theorem raised_sameButAlarms (key : AlarmKey) (s : State) : s.sameButAlarms (raised key s) := raised_eq key s

theorem lineFault_sameButAlarms (id : LineIdentity) (new : Reading) (s : State) : s.sameButAlarms (lineFault id new s) := by
  cases new
  case opened | shorted => exact raised_eq _ s
  case normal | active => exact endCondition_eq _ s

theorem State.sameButAlarms.trans {s t u : State} (h : s.sameButAlarms t) (h' : t.sameButAlarms u) : s.sameButAlarms u := by
  unfold State.sameButAlarms at *
  rw [h', h]

section
variable {s : State} {v : Vault} {e : Occupant}

theorem State.enabled_of_blocks {s t : State} (h : t.blocks = s.blocks) : t.enabled = s.enabled := congrArg (fun x => x.2.2.1) h

theorem ClaimSet.changed_chirp (c : ClaimSet) (b : Bool) : (c.changed { c with chirp := b }).chirp = b := by
  unfold ClaimSet.changed
  split <;> rfl

theorem claimChirp_chirp (hon : s.enabled v = true) (b : Bool) : ((claimChirp v b s).claimSet v).chirp = b := by
  rw [claimChirp, claim_enabled hon, State.withClaimSet_claimSet, ClaimSet.changed_chirp]

theorem claim_same (v : Vault) (f : ClaimSet → ClaimSet) (s : State) :
    claim v f s = { s with claims := (claim v f s).claims } := by
  unfold claim
  split <;> rfl

/-- A check-in of the one occupant, under lone-worker timing, restarts it (R152). -/
theorem checkIn_single (hocc : (s.occupancy v).entries = [e]) {n : Nat} (hn : e.checkIn = some n) (hon : s.enabled v = true) :
    (checkIn v none s).occupancy v =
        { s.occupancy v with entries := [{ e with checkIn := some (s.loneTicks v), overdue := false }] }
      ∧ ((checkIn v none s).claimSet v).chirp = false
      ∧ (checkIn v none s).lines = s.lines ∧ (checkIn v none s).doors = s.doors ∧ (checkIn v none s).ssq = s.ssq := by
  generalize hu : (if e.overdue then endCondition (loneWorkerKey v e.number) s else s) = u
  have hsame : s.sameButAlarms u := by
    rw [← hu]
    split
    · exact endCondition_eq _ s
    · rfl
  have heq : checkIn v none s = claimChirp v false
      (u.withOccupancy v { s.occupancy v with entries := [{ e with checkIn := some (s.loneTicks v), overdue := false }] }) := by
    unfold checkIn
    simp [hocc, hn, hu]
  have hen : u.enabled v = true := by
    rw [hsame]
    exact hon
  have hclaims := claimChirp_chirp (s := u.withOccupancy v
    { s.occupancy v with entries := [{ e with checkIn := some (s.loneTicks v), overdue := false }] }) hen false
  rw [heq]
  refine ⟨?_, hclaims, ?_, ?_, ?_⟩
  all_goals rw [claimChirp, claim_same]
  · exact State.withOccupancy_occupancy _ v _
  all_goals
    rw [hsame]
    rfl

theorem checkIn_none (h : ∀ e ∈ (s.occupancy v).entries, e.checkIn = none) : checkIn v none s = s := by
  have hfind : (s.occupancy v).entries.find? (fun e => e.checkIn.isSome) = none :=
    List.find?_eq_none.2 fun e he => by simp [h e he]
  unfold checkIn
  dsimp only
  rw [hfind]

/-- The one occupant's time reaches 6,000 ticks (R151). -/
theorem chirp_single (hocc : (s.occupancy v).entries = [e]) (hdue : s.stillDue (.chirp v) = true) (hon : s.enabled v = true) :
    (chirp v s).occupancy v = { s.occupancy v with entries := [{ e with checkIn := some 6000 }] }
      ∧ ((chirp v s).claimSet v).chirp = true ∧ (chirp v s).atu = s.atu ∧ (chirp v s).doors = s.doors
      ∧ (chirp v s).ssq = s.ssq := by
  have hrem : e.checkIn = some 6001 := by
    have := of_decide_eq_true hdue
    cases hc : e.checkIn <;> simp_all [VaultOccupancy.remaining]
  have heq : chirp v s = claimChirp v true (s.withOccupancy v { s.occupancy v with entries := [{ e with checkIn := some 6000 }] }) := by
    simp [chirp, hocc, Occupant.chirped, hrem]
  rw [heq]
  refine ⟨?_, claimChirp_chirp (s := s.withOccupancy v _) hon true, ?_, ?_, ?_⟩
  all_goals rw [claimChirp, claim_same]
  · exact State.withOccupancy_occupancy _ v _
  all_goals rfl

/-- The one occupant's time reaches 0 (R151). -/
theorem loneExpired_single (hocc : (s.occupancy v).entries = [e]) (hdue : s.stillDue (.loneWorker v) = true) :
    (loneExpired v s).occupancy v =
        { s.occupancy v with entries := [{ e with checkIn := some (s.loneTicks v), overdue := true }] }
      ∧ (s.atu.lawful = true → s.alarmRoom → (loneExpired v s).conditionStands (loneWorkerKey v e.number) = true)
      ∧ (loneExpired v s).doors = s.doors ∧ (loneExpired v s).ssq = s.ssq := by
  have hrem : e.checkIn = some 1 := by
    simp only [State.stillDue, lastTick, decide_eq_true_eq] at hdue
    cases hc : e.checkIn <;> simp_all [VaultOccupancy.remaining]
  generalize hu : s.withOccupancy v
    { s.occupancy v with entries := [{ e with checkIn := some (s.loneTicks v), overdue := true }] } = u
  have heq : loneExpired v s = raised (loneWorkerKey v e.number) u := by
    rw [← hu]
    simp [loneExpired, hocc, hrem]
  have hatu : u.atu = s.atu := by
    rw [← hu]
    rfl
  rw [heq]
  refine ⟨?_, fun ha hroom => raised_stands (hatu ▸ ha) (by rw [hatu]; exact hroom.lt) _, ?_, ?_⟩
  all_goals rw [raised_eq, ← hu]
  · exact State.withOccupancy_occupancy _ v _
  all_goals rfl

end

/-- The records that a duress button leaves alone, and the line it leaves qualified. -/
theorem State.sameButAlarms.line {s t : State} {v : Vault} {l : Line} {new : Reading}
    (h : (s.lineTaken v l new).sameButAlarms t) :
    s.lineQualified t v l new ∧ t.claims = s.claims ∧ t.doors = s.doors ∧ t.occ = s.occ ∧ t.ssq = s.ssq := by
  refine ⟨State.lineQualified_of_lines (by rw [h]), ?_⟩
  rw [h]
  exact ⟨rfl, rfl, rfl, rfl⟩

/-- The lines of the duress buttons. -/
def duressLine (vestibule : Bool) : Line := if vestibule then .duressVestibule else .duressVault

/-- A duress button raises DURESS-BUTTON after its LINE-FAULT is judged (R61, R67). -/
theorem duressButton_takes {s : State} {v : Vault} {vestibule : Bool} {new : Reading}
    (h : s.changes v (duressLine vestibule) new) :
    let u := lineFault (.vaultLine v (duressLine vestibule)) new (s.lineTaken v (duressLine vestibule) new)
    exec (.duressButton v vestibule) s = .next (if new = .active then raised (duressButtonKey v (duressLine vestibule)) u else u) := by
  obtain ⟨time, ht⟩ := takeLine_supervised h (by cases vestibule <;> rfl)
  refine (event_comes h.1).trans (congrArg Host.Outcome.next (ht.trans ?_))
  cases vestibule <;> simp only [duressLine, deliverLine, decide_eq_true_eq] <;> rfl

/-- DURESS-BUTTON is raised at level 3 (R189), whatever the LINE-FAULT before it ended. -/
theorem duressButton_recorded {s u : State} {v : Vault} {l : Line} {fault : AlarmKey} (hu : u.atu = s.atu)
    (hroom : s.alarmRoom) :
    ∃ r ∈ (raised (duressButtonKey v l) (endCondition fault u)).atu.table, r.key = duressButtonKey v l
      ∧ r.state ≠ .clearedUnack
      ∧ ((∀ x ∈ s.atu.table, x.key ≠ r.key) → r.state = .raised ∧ r.level = 3 ∧ r.escalation = none) := by
  obtain ⟨hlen, hmem⟩ := endCondition_table fault u
  rw [hu] at hlen hmem
  obtain ⟨r, hr, hk, hs, hnew⟩ := raised_recorded (hlen.trans_lt hroom.lt) (duressButtonKey v l)
  refine ⟨r, hr, hk, hs, fun hn => hnew fun x hx hxk => ?_⟩
  rcases hmem x hx with ⟨y, hy, hyk⟩ | hsite
  · exact hn y hy (hyk.trans (hxk.trans hk.symm))
  · exact absurd (hxk.symm.trans hsite) (by simp [duressButtonKey, keyOf, siteEvacuationKey])

/-- A verdict handed to a reader of an enabled vault (R90). -/
theorem handVerdict_enabled {a : ReaderAddress} {s : State} (hon : s.enabled a.vault = true) (x : Verdict) (k : Option Nat) :
    (handVerdict a x k s).reader a = { s.reader a with
        lastVerdict := some { verdict := x, number := k, time := s.stamp }
        waiting := if (s.reader a).status = .silent then (s.reader a).waiting else some { verdict := x, number := k } }
      ∧ (handVerdict a x k s).link.waiting.verdict = true
      ∧ handVerdict a x k s = { s with readers := (handVerdict a x k s).readers, link := (handVerdict a x k s).link } := by
  rw [handVerdict, if_pos hon]
  refine ⟨?_, rfl, rfl⟩
  have hset (r : ReaderRecord) : (s.withReader a r).reader a = r := by
    simp [State.reader, State.withReader, State.withReaders]
  exact hset _

/-- The pending pair of an enabled vault is dropped, and its inner reader is given PAIR-LAPSED (R110). -/
theorem lapsePair_enabled {s : State} {v : Vault} {p : PendingPair} (hp : s.pair v = some p) (hon : s.enabled v = true) :
    (lapsePair v s).pair v = none
      ∧ ((lapsePair v s).reader ⟨v, .inner⟩).lastVerdict
          = some { verdict := .pairLapsed, number := some p.first, time := s.stamp }
      ∧ ((s.reader ⟨v, .inner⟩).status ≠ .silent →
          ((lapsePair v s).reader ⟨v, .inner⟩).waiting = some { verdict := .pairLapsed, number := some p.first })
      ∧ (lapsePair v s).link.waiting.verdict = true
      ∧ lapsePair v s = { s with
          pairs := (lapsePair v s).pairs, readers := (lapsePair v s).readers, link := (lapsePair v s).link } := by
  have heq : lapsePair v s = handVerdict ⟨v, .inner⟩ .pairLapsed (some p.first) (s.withPair v none) := by
    rw [lapsePair, hp]
  obtain ⟨hreader, hcause, hsame⟩ := handVerdict_enabled (a := ⟨v, .inner⟩) (s := s.withPair v none) hon .pairLapsed
    (some p.first)
  rw [heq]
  refine ⟨?_, ?_, fun hs => ?_, hcause, ?_⟩
  · rw [hsame]
    exact PerVault.get_set_self _ v _
  · rw [hreader]
    rfl
  · rw [hreader]
    exact if_neg hs
  · rw [← heq]
    exact lapsePair_eq v s

theorem State.eq_of_without {s t : State} {d : Due}
    (h : t = { s.without d with pairs := t.pairs, readers := t.readers, link := t.link }) :
    t = { s with pairs := t.pairs, readers := t.readers, link := t.link, due := t.due } := by
  have hdue : t.due = s.due.erase d := congrArg State.due h
  rw [hdue]
  exact h

/-- Settles O56: each event is told by the one operation that it runs. -/
theorem peopleAndAlarmEvents : Obligations.PeopleAndAlarmEvents := by
  unfold Obligations.PeopleAndAlarmEvents
  refine ⟨fun s v vestibule new ha h => ?_, fun s v e ha hocc hon => ⟨fun n h hn => ?_, fun new hnew h => ?_, fun h => ?_,
    fun h => ?_⟩, fun s v p h hp hon => ?_, fun s r ha hr h => ?_⟩
  · have hfault := lineFault_sameButAlarms (.vaultLine v (duressLine vestibule)) new
      (s.lineTaken v (duressLine vestibule) new)
    refine ⟨_, duressButton_takes h, ?_⟩
    by_cases hn : new = .active
    · subst hn
      obtain ⟨hline, hrest⟩ := (hfault.trans (raised_sameButAlarms (duressButtonKey v (duressLine vestibule)) _)).line
      rw [if_pos rfl]
      refine ⟨hline, fun _ hroom => ?_, fun hbad => by simp at hbad, hrest⟩
      exact duressButton_recorded rfl hroom
    · obtain ⟨hline, hrest⟩ := hfault.line
      rw [if_neg hn]
      refine ⟨hline, fun he => absurd he hn, fun hbad hroom => ?_, hrest⟩
      have hstands := raised_stands (s := s.lineTaken v (duressLine vestibule) new) ha hroom.lt
        (lineFaultKey (.vaultLine v (duressLine vestibule)))
      rcases hbad with rfl | rfl
      · exact hstands
      · exact hstands
  · have ht := takeLine_unsupervised h rfl
    obtain ⟨hoccupancy, hchirp, hlines, hdoors, hssq⟩ :=
      checkIn_single (s := s.lineTaken v .checkIn .active) hocc hn hon
    exact ⟨_, (event_comes h.1).trans (congrArg Host.Outcome.next ht), State.lineQualified_of_lines hlines, hoccupancy, hchirp,
      hdoors, hssq⟩
  · have ht := takeLine_unsupervised h rfl
    have hsame : deliverLine v .checkIn (s.lineRecord v .checkIn).qualified new
        ((s.lineRecord v .checkIn).start.getD s.cal.instant) (s.lineTaken v .checkIn new) = s.lineTaken v .checkIn new := by
      by_cases hn : new = .active
      · have hnone := hnew.resolve_left fun hne => hne hn
        subst hn
        refine checkIn_none fun x hx => ?_
        have hx' : x ∈ [e] := hocc ▸ hx
        rw [List.mem_singleton.1 hx', hnone]
      · simp [deliverLine, hn]
    exact ⟨_, (event_comes h.1).trans (congrArg Host.Outcome.next (ht.trans hsame)), State.lineQualified_of_lines rfl, rfl, rfl,
      rfl, rfl⟩
  · have hdue : (s.without (.chirp v)).stillDue (.chirp v) = true := h.2.2
    exact ⟨_, event_comes h, chirp_single hocc hdue hon⟩
  · have hdue : (s.without (.loneWorker v)).stillDue (.loneWorker v) = true := h.2.2
    obtain ⟨hoccupancy, hstands, hdoors, hssq⟩ := loneExpired_single (s := s.without (.loneWorker v)) hocc hdue
    exact ⟨_, event_comes h, hoccupancy, hstands ha, hdoors, hssq⟩
  · obtain ⟨hpair, hlast, hwaiting, hcause, hsame⟩ := lapsePair_enabled (s := s.without (.pairWindow v)) hp hon
    exact ⟨_, event_comes h, hpair, hlast, hwaiting, hcause, State.eq_of_without hsame⟩
  · refine ⟨_, event_comes h, rfl, rfl, rfl⟩

end Sys2Proof.Machine

namespace Sys2Proof.Machine

/-! ## The evacuation combination completes (O57) -/

/-! ### The site EVACUATION record through the ends of other conditions -/

/-- The site EVACUATION record stands: there is one, and none of its key is CLEARED-UNACK (R193, R199). -/
structure Atu.SiteStands (a : Atu) : Prop where
  ids : (a.table.map AlarmRecord.id).Nodup
  length_le : a.table.length ≤ 48
  held : ∃ r ∈ a.table, r.key = siteEvacuationKey
  stands : ∀ r ∈ a.table, r.key = siteEvacuationKey → r.state ≠ .clearedUnack

theorem Atu.SiteStands.conditionStands {s : State} (h : s.atu.SiteStands) : s.conditionStands siteEvacuationKey = true := by
  obtain ⟨r, hr, hk⟩ := h.held
  unfold State.conditionStands
  cases hf : s.atu.find siteEvacuationKey with
  | none => exact absurd hk ((s.atu.find_eq_none_iff _).1 hf r hr)
  | some x => exact decide_eq_true (h.stands x (List.mem_of_find?_eq_some hf) (by simpa using List.find?_some hf))

theorem Atu.SiteStands.of_lawful {s : State} (h : s.atu.lawful = true) (hs : s.conditionStands siteEvacuationKey = true) :
    s.atu.SiteStands := by
  obtain ⟨hlen, hkeys, hids⟩ := s.atu.lawful_iff.1 h
  obtain ⟨r, hr, hk, hstate⟩ := (State.conditionStands_iff h _).1 hs
  refine ⟨hids, hlen, ⟨r, hr, hk⟩, fun x hx hxk => ?_⟩
  rwa [List.inj_on_of_nodup_map hkeys hx hr (hxk.trans hk.symm)]

/-- The record of another key taken out leaves the site EVACUATION record, also where an owed one takes the place (R199). -/
theorem Atu.SiteStands.retire {a : Atu} (h : a.SiteStands) {r : AlarmRecord} (hr : r ∈ a.table)
    (hk : r.key ≠ siteEvacuationKey) (g : SiteGroup) (now : Stamp) :
    ({ a with table := dropId r.id a.table } : Atu).SiteStands
      ∧ (Atu.add { a with table := dropId r.id a.table } g now siteEvacuationKey).SiteStands := by
  have hsub : (dropId r.id a.table).Sublist a.table := List.eraseP_sublist
  have hlen : (dropId r.id a.table).length + 1 = a.table.length := List.length_eraseP_add_one hr (by simp)
  have hlt : (dropId r.id a.table).length < 48 := by have := h.length_le; omega
  obtain ⟨x, hx, hxk⟩ := h.held
  have hxr : x.id ≠ r.id := fun e => hk ((List.inj_on_of_nodup_map h.ids hx hr e) ▸ hxk)
  have hdrop : x ∈ dropId r.id a.table := by
    rw [dropId_eq_filter h.ids]
    exact List.mem_filter.2 ⟨hx, by simpa using hxr⟩
  have hids : ((dropId r.id a.table).map AlarmRecord.id).Nodup := h.ids.sublist (hsub.map _)
  refine ⟨⟨hids, hlt.le, ⟨x, hdrop, hxk⟩, fun y hy => h.stands y (hsub.subset hy)⟩, ?_, ?_,
    ⟨x, List.mem_append_left _ hdrop, hxk⟩, fun y hy hyk => ?_⟩
  · simp only [Atu.add, List.map_append, List.map_cons, List.map_nil]
    refine List.nodup_append.2 ⟨hids, List.nodup_singleton _, fun i hi j hj => ?_⟩
    obtain ⟨y, hy, rfl⟩ := List.mem_map.1 hi
    rw [List.mem_singleton.1 hj]
    exact freeId_not_mem hlt a.counter y hy
  · simpa [Atu.add] using hlt
  · rcases List.mem_append.1 hy with hy | hy
    · exact h.stands y (hsub.subset hy) hyk
    · rw [List.mem_singleton.1 hy]
      exact AlarmState.noConfusion

/-- The end of another condition leaves the site EVACUATION record standing. -/
theorem endCondition_siteStands {key : AlarmKey} (hk : key ≠ siteEvacuationKey) {s : State} (h : s.atu.SiteStands) :
    (endCondition key s).atu.SiteStands := by
  unfold endCondition
  split
  · exact h
  · next r hf =>
    have hr : r ∈ s.atu.table := List.mem_of_find?_eq_some hf
    have hrk : r.key = key := by simpa using List.find?_some hf
    split
    · obtain ⟨x, hx, hxk⟩ := h.held
      have hother {y : AlarmRecord} (hy : y.key = siteEvacuationKey) : ¬ y.key = key := fun e => hk (e.symm.trans hy)
      refine ⟨?_, (List.length_map _).trans_le h.length_le,
        ⟨x, List.mem_map.2 ⟨x, hx, if_neg (hother hxk)⟩, hxk⟩, fun y hy hyk => ?_⟩
      · have hids : (updateKey key AlarmRecord.cleared s.atu.table).map AlarmRecord.id = s.atu.table.map AlarmRecord.id := by
          rw [updateKey, List.map_map]
          refine List.map_congr_left fun y _ => ?_
          dsimp only [Function.comp]
          split <;> rfl
        exact hids.symm ▸ h.ids
      · obtain ⟨z, hz, rfl⟩ := List.mem_map.1 (show y ∈ updateKey key AlarmRecord.cleared s.atu.table from hy)
        split at hyk
        · next hzk => exact absurd hyk (hother (y := AlarmRecord.cleared z) hyk hzk).elim
        · next hzk => rw [if_neg hzk]; exact h.stands z hz hyk
    · obtain ⟨hdrop, hadd⟩ := h.retire hr (hrk.trans_ne hk) s.cfg.site s.stamp
      unfold retireRecord
      dsimp only
      split
      · exact hadd
      · exact hdrop
    · exact h

theorem endCondition_latch (key : AlarmKey) (s : State) : (endCondition key s).atu.latch = s.atu.latch := by
  unfold endCondition retireRecord
  dsimp only
  (repeat' split) <;> rfl

/-! ### What an emergency release does to the alarm table -/

/-- An emergency release reaches the alarm table by the ends of DOOR-HELD alone (R136). -/
theorem emergencyStart_atu {P : Atu → Prop}
    (hP : ∀ (v : Vault) (d : Door) (u : State), P u.atu → P (endCondition (doorKey .doorHeld v (.door d)) u).atu)
    (v : Vault) {s : State} (h : P s.atu) : P (emergencyStart v s).atu := by
  have hput (d : DoorRecord) (u : State) : (putDoor v d u).atu = u.atu := by rw [putDoor_eq]; rfl
  have hheld (d : Door) (u : State) (hu : P u.atu) : P (endHeld v d u).atu := by
    unfold endHeld
    split
    · refine hP v d _ ?_
      rwa [claimHeld, claim_same]
    · exact hu
  obtain ⟨a, ha⟩ : ∃ a, a = setOuter v .emergencyUnlocked
      (putDoor v { s.door v with outerGrant := none, emergency := true } s) := ⟨_, rfl⟩
  have hopen : a = putDoor v { s.door v with outerGrant := none, emergency := true, outer := .emergencyUnlocked }
      (putDoor v { s.door v with outerGrant := none, emergency := true } s) := by
    rw [ha, setOuter, putDoor_door]
    exact if_neg OuterState.noConfusion
  have hfree : ((a.withDoor v (a.door v).still).door v).outerGrant = none := by
    rw [State.withDoor_door, hopen, putDoor_door]
    rfl
  have hstart : (startEmergencyDrive v (setVaultState v .emergencyReleased (a.withDoor v (a.door v).still))).atu = s.atu := by
    rw [setVaultState_released hfree]
    refine (hput _ (a.withDoor v (a.door v).still)).trans ?_
    rw [State.withDoor_atu, hopen, hput, hput]
  unfold emergencyStart
  rw [← ha]
  refine hheld _ _ (hheld _ _ ?_)
  rwa [State.withDoor_atu, hput, hstart]

/-! ### The latch at one vault -/

/-- The latch has come to stand at a vault whose door record was `d`: the claim is placed, and the doors are released unless
the emergency condition stood before (R136, R199). -/
structure LatchedAt (v : Vault) (d : DoorRecord) (t : State) : Prop where
  claimed : t.siteClaims v = true
  emergency : (t.door v).emergency = true
  kept : d.emergency = true → t.door v = d
  released : d.emergency = false → (t.door v).vault = .emergencyReleased ∧ (t.door v).outer = .emergencyUnlocked

theorem claim_siteClaims_of_ne {v w : Vault} (hw : w ≠ v) (f : ClaimSet → ClaimSet) (s : State) :
    (claim v f s).siteClaims w = s.siteClaims w := by
  unfold claim State.siteClaims State.claimSet State.withClaimSet
  split
  · rw [PerVault.get_set_of_ne _ _ (Ne.symm hw)]
  · rfl

theorem latchVault_latchedAt {v : Vault} {s : State} (hon : s.enabled v = true) : LatchedAt v (s.door v) (latchVault v s) := by
  have hclaims := claimSiteEvacuate_siteClaims hon
  have hsame : (claimSiteEvacuate v true s).door v = s.door v := by rw [claimSiteEvacuate, claim_same]; rfl
  unfold latchVault
  rw [if_pos hon]
  dsimp only
  split
  · next he =>
    exact ⟨hclaims, he, fun _ => hsame, fun hn => absurd ((hsame ▸ hn).symm.trans he) Bool.noConfusion⟩
  · next he =>
    obtain ⟨f, hf, hreleased⟩ := emergencyStart_becomes v (claimSiteEvacuate v true s)
    rw [← hf.redoored.door] at hreleased
    exact ⟨(congrFun hf.claims v).trans hclaims, hreleased.emergency, fun hy => absurd (hsame ▸ hy) he,
      fun _ => ⟨hreleased.vault, hreleased.outer⟩⟩

/-- The latch at a vault leaves the doors and the claim of every other. -/
theorem latchVault_other {v w : Vault} (hw : w ≠ v) (s : State) :
    (latchVault v s).door w = s.door w ∧ (latchVault v s).siteClaims w = s.siteClaims w := by
  have hclaim : (claimSiteEvacuate v true s).door w = s.door w := by rw [claimSiteEvacuate, claim_same]; rfl
  have hclaims := claim_siteClaims_of_ne hw (fun c => { c with siteEvacuate := true }) s
  unfold latchVault
  split
  · dsimp only
    split
    · exact ⟨hclaim, hclaims⟩
    · obtain ⟨f, hf, -⟩ := emergencyStart_becomes v (claimSiteEvacuate v true s)
      obtain ⟨-, -, -, -, -, hdoor⟩ := hf.redoored.others
      exact ⟨(hdoor w hw).trans hclaim, (congrFun hf.claims w).trans hclaims⟩
  · exact ⟨rfl, rfl⟩

theorem latchVault_atu {P : Atu → Prop}
    (hP : ∀ (v : Vault) (d : Door) (u : State), P u.atu → P (endCondition (doorKey .doorHeld v (.door d)) u).atu)
    (v : Vault) {s : State} (h : P s.atu) : P (latchVault v s).atu := by
  have hclaim : (claimSiteEvacuate v true s).atu = s.atu := by rw [claimSiteEvacuate, claim_same]
  unfold latchVault
  split
  · dsimp only
    split
    · exact hclaim.symm ▸ h
    · exact emergencyStart_atu hP v (hclaim.symm ▸ h)
  · exact h

/-! ### The latch at every vault -/

/-- A step of the latch at one vault, in a run over them all from `s`: no enabled flag changes, and each vault has the doors it
had or is latched. -/
def Latching (s u : State) : Prop := u.enabled = s.enabled ∧ ∀ w, u.door w = s.door w ∨ LatchedAt w (s.door w) u

theorem latchVault_keeps {s u : State} {v w : Vault} (h : LatchedAt w (s.door w) u) : LatchedAt w (s.door w) (latchVault v u) := by
  by_cases hw : w = v
  · subst hw
    cases hon : u.enabled w with
    | false => rwa [latchVault_idle hon]
    | true =>
      have hown := latchVault_latchedAt hon
      have hdoor : (latchVault w u).door w = u.door w := hown.kept h.emergency
      exact ⟨hown.claimed, hown.emergency, fun he => hdoor.trans (h.kept he), hdoor ▸ h.released⟩
  · obtain ⟨hd, hc⟩ := latchVault_other hw u
    exact ⟨hc.trans h.claimed, hd ▸ h.emergency, hd ▸ h.kept, hd ▸ h.released⟩

theorem latchVault_brings {s u : State} {v : Vault} (h : Latching s u) (hon : s.enabled v = true) :
    LatchedAt v (s.door v) (latchVault v u) := by
  obtain ⟨henabled, hdoors⟩ := h
  rcases hdoors v with hd | hd
  · exact hd ▸ latchVault_latchedAt (henabled ▸ hon)
  · exact latchVault_keeps hd

theorem latchVault_latching {s u : State} (v : Vault) (h : Latching s u) : Latching s (latchVault v u) := by
  have henabled : (latchVault v u).enabled = u.enabled :=
    (congrArg (fun x : State => x.enabled) (latchVault_sansDoors v u) :)
  refine ⟨henabled.trans h.1, fun w => ?_⟩
  rcases h.2 w with hd | hd
  · by_cases hw : w = v
    · subst hw
      cases hon : u.enabled w with
      | false => exact .inl ((congrArg (fun x : State => x.door w) (latchVault_idle hon)).trans hd)
      | true => exact .inr (latchVault_brings h (h.1 ▸ hon))
    · exact .inl ((latchVault_other hw u).1.trans hd)
  · exact .inr (latchVault_keeps hd)

theorem eachVault_latched {s : State} {w : Vault} (hon : s.enabled w = true) :
    LatchedAt w (s.door w) (eachVault latchVault s) :=
  eachVault_brings (P := fun v u => s.enabled v = true → LatchedAt v (s.door v) u) (Q := Latching s) latchVault
    (fun v _ h => latchVault_latching v h) (fun _ _ h hv => latchVault_brings h hv)
    (fun _ _ _ h hv => latchVault_keeps (h hv)) ⟨rfl, fun _ => .inl rfl⟩ w hon

/-! ### The completion -/

/-- The alarm table once the latch is set and the site EVACUATION record raised, or marked as owed (R199). -/
def State.latched (s : State) : State :=
  let (u, a) := raise siteEvacuationKey (s.withAtu { s.atu with latch := true })
  if a = .notStored then u.withAtu { u.atu with owed := true } else u

theorem evacuationCompleted_of_latch {s : State} (h : s.atu.latch = true) :
    evacuationCompleted s = raised siteEvacuationKey s := if_pos h

theorem evacuationCompleted_latches {s : State} (h : s.atu.latch = false) :
    evacuationCompleted s = eachVault latchVault s.latched := if_neg (Bool.eq_false_iff.1 h)

theorem State.latched_same (s : State) : s.sameButAlarms s.latched := by
  have h : s.sameButAlarms (raise siteEvacuationKey (s.withAtu { s.atu with latch := true })).1 :=
    raised_sameButAlarms siteEvacuationKey (s.withAtu { s.atu with latch := true })
  unfold State.latched
  dsimp only
  split
  · exact congrArg (fun u : State => u.withAtu _) h
  · exact h

theorem State.latched_latch (s : State) : s.latched.atu.latch = true := by
  unfold State.latched
  dsimp only
  split <;> exact raise_latch siteEvacuationKey (s.withAtu { s.atu with latch := true })

theorem State.latched_siteStands {s : State} (h : s.atu.lawful = true) (hlt : s.atu.table.length < 48) :
    s.latched.atu.SiteStands := by
  have hl : (s.withAtu { s.atu with latch := true }).atu.lawful = true := h
  unfold State.latched
  dsimp only
  rw [if_neg (raise_stored (s := s.withAtu { s.atu with latch := true }) hlt siteEvacuationKey)]
  exact Atu.SiteStands.of_lawful (raise_atu_lawful hl siteEvacuationKey) (raised_stands hl hlt siteEvacuationKey)

theorem evacuationCompleted_latch (s : State) : (evacuationCompleted s).atu.latch = true := by
  cases h : s.atu.latch with
  | true => rw [evacuationCompleted_of_latch h, raised_latch, h]
  | false =>
    rw [evacuationCompleted_latches h]
    exact eachVault_keeps (P := fun u => u.atu.latch = true) _
      (fun v u => latchVault_atu (P := fun a => a.latch = true) (fun _ _ x hx => (endCondition_latch _ x).trans hx) v) s.latched_latch

theorem evacuationCompleted_stands {s : State} (h : s.atu.lawful = true) (hlt : s.atu.table.length < 48) :
    (evacuationCompleted s).conditionStands siteEvacuationKey = true := by
  cases hl : s.atu.latch with
  | true => rw [evacuationCompleted_of_latch hl, raised_stands h hlt]
  | false =>
    rw [evacuationCompleted_latches hl]
    exact (eachVault_keeps (P := fun u => u.atu.SiteStands) _
      (fun v u => latchVault_atu (fun _ _ x => endCondition_siteStands (doorKey_ne_site _ _ _)) v)
      (State.latched_siteStands h hlt)).conditionStands

/-- The doors and the claim of an enabled vault at a completion that sets the latch (R136, R199). -/
theorem evacuationCompleted_latchedAt {s : State} (h : s.atu.latch = false) {v : Vault} (hon : s.enabled v = true) :
    LatchedAt v (s.door v) (evacuationCompleted s) := by
  rw [evacuationCompleted_latches h]
  have hsame := s.latched_same
  have he : s.latched.enabled v = true := (congrArg (fun u : State => u.enabled v) hsame :).trans hon
  have hd : s.latched.door v = s.door v := (congrArg (fun u : State => u.door v) hsame :)
  exact hd ▸ eachVault_latched he

/-- The combination completes (R72, R73, R136, R199). -/
theorem exec_evacuationCombinationCompletion {s : State} (ha : s.atu.lawful = true) (h : s.comes .evacuation) :
    ∃ t, exec .evacuationCombinationCompletion s = .next t ∧ t.atu.latch = true ∧ t.lqu.completed = true
      ∧ (s.alarmRoom → t.conditionStands (keyOf .evacuation none none) = true)
      ∧ (s.atu.latch = false → ∀ v, s.enabled v = true →
          (t.claimSet v).siteEvacuate = true ∧ (t.door v).emergency = true
            ∧ ((s.door v).emergency = false → (t.door v).vault = .emergencyReleased
                ∧ (t.door v).outer = .emergencyUnlocked ∧ (t.vaultOutputs v).outerLock = true))
      ∧ (s.atu.latch = true → t.doors = s.doors ∧ t.claims = s.claims)
      ∧ t.occ = s.occ ∧ t.ssq = s.ssq ∧ t.nva = s.nva ∧ t.cfg = s.cfg ∧ t.lines = s.lines ∧ t.cal = s.cal := by
  obtain ⟨u, hu⟩ : ∃ u, u = (s.without .evacuation).withLqu { s.lqu with count := s.lqu.count + 1, completed := true } := ⟨_, rfl⟩
  have hframe := congrArg (fun x : State => (x.lqu, x.occ, x.ssq, x.nva, x.cfg, x.lines, x.cal)) (evacuationCompleted_sansDoors u)
  obtain ⟨hlqu, hocc, hssq, hnva, hcfg, hlines, hcal⟩ : (evacuationCompleted u).lqu = u.lqu ∧ (evacuationCompleted u).occ = u.occ
      ∧ (evacuationCompleted u).ssq = u.ssq ∧ (evacuationCompleted u).nva = u.nva ∧ (evacuationCompleted u).cfg = u.cfg
      ∧ (evacuationCompleted u).lines = u.lines ∧ (evacuationCompleted u).cal = u.cal := by
    simp only [Prod.mk.injEq] at hframe
    exact hframe
  have hatu : u.atu = s.atu := by rw [hu]; rfl
  refine ⟨evacuationCompleted u, by rw [hu]; exact event_comes h, evacuationCompleted_latch u, ?_, fun hroom => ?_,
    fun hl v hon => ?_, fun hl => ?_, ?_⟩
  · rw [hlqu, hu]; rfl
  · exact evacuationCompleted_stands (s := u) (hatu ▸ ha) (hatu ▸ hroom.lt)
  · have hat : LatchedAt v (s.door v) (evacuationCompleted u) := by
      have hd : u.door v = s.door v := by rw [hu]; rfl
      exact hd ▸ evacuationCompleted_latchedAt (hatu ▸ hl) (by rw [hu]; exact hon)
    refine ⟨hat.claimed, hat.emergency, fun hn => ?_⟩
    obtain ⟨hvault, houter⟩ := hat.released hn
    exact ⟨hvault, houter, (State.vaultOutputs_iff _ v).1.2 (.inr houter)⟩
  · rw [evacuationCompleted_of_latch (hatu ▸ hl), raised_eq, hu]
    exact ⟨rfl, rfl⟩
  · rw [hocc, hssq, hnva, hcfg, hlines, hcal, hu]
    exact ⟨rfl, rfl, rfl, rfl, rfl, rfl⟩

/-! ## A release circuit changes (O57) -/

/-- The qualified change of a release circuit (R68). -/
theorem exec_releaseCircuitChange {s : State} {v : Vault} {new : Circuit} (ha : s.atu.lawful = true) (ho : s.atu.owed = false)
    (h : s.comes (.release v)) (hcand : (s.lines.get v).release.candidate = some new) :
    ∃ t, exec (.releaseCircuitChange v) s = .next t
      ∧ (t.lines.get v).release
        = { (s.lines.get v).release with qualified := some new, candidate := none, run := 0, start := none }
      ∧ (new = .broken → s.alarmRoom →
          t.conditionStands (keyOf .lineFault (some v) (some (.line (.release v)))) = true)
      ∧ (new = .intact → t.conditionStands (keyOf .lineFault (some v) (some (.line (.release v)))) = false)
      ∧ t.ssq = s.ssq ∧ t.doors = s.doors ∧ t.occ = s.occ ∧ t.claims = s.claims := by
  obtain ⟨u, hu⟩ : ∃ u, u = (s.without (.release v)).withRelease v
      { (s.lines.get v).release with qualified := some new, candidate := none, run := 0, start := none } := ⟨_, rfl⟩
  obtain ⟨t, ht⟩ : ∃ t, t = (match new with
    | .broken => raised (lineFaultKey (.release v)) u
    | .intact => endCondition (lineFaultKey (.release v)) u) := ⟨_, rfl⟩
  have htake : takeRelease v (s.without (.release v)) = t := by
    have hc : ((s.without (.release v)).lines.get v).release.candidate = some new := hcand
    unfold takeRelease
    simp only [hc, Qualification.changed]
    rw [ht, hu]
    rfl
  have hatu : u.atu = s.atu := by rw [hu]; rfl
  have hsame : u.sameButAlarms t := by
    rw [ht]
    cases new
    · exact endCondition_eq _ u
    · exact raised_eq _ u
  refine ⟨t, (event_comes h).trans (congrArg _ htake), ?_, fun hn hroom => ?_, fun hn => ?_, ?_⟩
  · rw [hsame, hu]
    simp
  · subst hn
    rw [ht]
    exact raised_stands (hatu ▸ ha) (hatu ▸ hroom.lt) _
  · subst hn
    rw [ht]
    exact endCondition_ends (hatu ▸ ha) (hatu ▸ ho) _
  · rw [hsame, hu]
    exact ⟨rfl, rfl, rfl, rfl⟩

end Sys2Proof.Machine

namespace Sys2Proof.Machine

/-! ## A site line changes (O57) -/

/-! ### What a change of the HOLD-ALL source does to a sequencer -/

/-- A sequencer whose countdown resumes or expires, with VAULT-CONTACT as `closed` says (R171, R172). -/
def SsqRecord.resumed (q : SsqRecord) (closed : Bool) : SsqRecord :=
  if 0 < q.resumeTicks then { q with state := .countdown, remaining := some q.resumeTicks }.settled
  else if closed then
    { q with state := .releasing, pulse := some (q.committed.pulse * 10), dischargeSeen := some false }.settled
  else { q with state := .awaitClosure, remaining := some 0 }.settled

/-- A sequencer whose hold sources are judged again, with HOLD-ALL and VAULT-CONTACT as the flags say (R167). -/
def SsqRecord.rechecked (q : SsqRecord) (holdAll closed : Bool) : SsqRecord :=
  match q.state with
  | .countdown | .awaitClosure => if q.holding holdAll then (q.hold holdAll).settled else q
  | .held => if q.holding holdAll then q.hold holdAll else q.resumed closed
  | .quiet | .alert | .inhibited | .releasing | .verifying | .discharged | .isolated => q

/-- One state is the other with the sequencer of a vault replaced, but for the claims and the link. -/
def Resequenced (v : Vault) (q : SsqRecord) (s t : State) : Prop :=
  t = { s with ssq := s.ssq.set v q, claims := t.claims, link := t.link }

theorem Resequenced.refl (v : Vault) (s : State) : Resequenced v (s.sequencer v) s s := by
  rw [Resequenced, State.sequencer, PerVault.set_get]

/-- A change from a state that counts to one that lights ZONE-LAMP concerns the SSQ and its claim alone (R162). -/
theorem enter_resequenced {v : Vault} {q : SsqRecord} {s : State} (hold : countingState (s.sequencer v).state = true)
    (hnew : stateLamp q.state = true) : Resequenced v q.settled s (enter v q s) := by
  have hstate : (s.sequencer v).state ≠ .quiet ∧ (s.sequencer v).state ≠ .isolated ∧ (s.sequencer v).state ≠ .inhibited := by
    refine ⟨?_, ?_, ?_⟩ <;> (intro e; rw [e] at hold; cases hold)
  obtain ⟨hq, hi, hn⟩ := hstate
  obtain ⟨hq', -, hn', hi'⟩ := (stateLamp_iff _).1 hnew
  have henter : enter v q s = causeSuppression (claimSsq v (stateClaim q.state) (s.withSequencer v q.settled)) := by
    simp [enter, changeState, neighboursAtChange, alertsAtChange, inhibitedAtChange, hq, hi, hn, hq', hi', hn']
  rw [henter, claimSsq, claim_same]
  rfl

theorem expireCountdown_resequenced {v : Vault} {s : State} (h : countingState (s.sequencer v).state = true)
    (hr : ¬ 0 < (s.sequencer v).resumeTicks) :
    Resequenced v ((s.sequencer v).resumed (s.countsNormal v .vaultContact)) s (expireCountdown v s) := by
  unfold expireCountdown SsqRecord.resumed
  rw [if_neg hr]
  split
  · exact enter_resequenced h rfl
  · exact enter_resequenced h rfl

theorem resumeCountdown_resequenced {v : Vault} {s : State} (h : countingState (s.sequencer v).state = true) :
    Resequenced v ((s.sequencer v).resumed (s.countsNormal v .vaultContact)) s (resumeCountdown v s) := by
  unfold resumeCountdown
  dsimp only
  split
  · next hr =>
    rw [SsqRecord.resumed, if_pos hr]
    exact enter_resequenced h rfl
  · next hr => exact expireCountdown_resequenced h hr

theorem recheckHolds_resequenced (v : Vault) (s : State) :
    Resequenced v ((s.sequencer v).rechecked s.holdAllStands (s.countsNormal v .vaultContact)) s (recheckHolds v s) := by
  unfold recheckHolds SsqRecord.rechecked
  dsimp only
  cases h : (s.sequencer v).state
  case countdown | awaitClosure =>
    dsimp only
    split
    · exact enter_resequenced (by rw [h]; rfl) rfl
    · exact Resequenced.refl v s
  case held =>
    dsimp only
    split
    · rfl
    · exact resumeCountdown_resequenced (by rw [h]; rfl)
  all_goals exact Resequenced.refl v s

/-- HOLD-ALL begins: a countdown goes to HELD with R as it stands (R167, R171). -/
theorem SsqRecord.rechecked_held {q : SsqRecord} (h : q.state = .countdown ∨ q.state = .awaitClosure) (closed : Bool) :
    (q.rechecked true closed).state = .held ∧ (q.rechecked true closed).holdHoldAll = true
      ∧ (q.rechecked true closed).remaining = q.remaining := by
  have hr : q.rechecked true closed = (q.hold true).settled := by
    unfold SsqRecord.rechecked
    rcases h with h | h <;> simp [h, SsqRecord.holding]
  rw [hr]
  exact ⟨rfl, rfl, rfl⟩

/-- HOLD-ALL ends with no other source: the countdown resumes or expires (R171). -/
theorem SsqRecord.rechecked_freed {q : SsqRecord} (h : q.state = .held) (he : q.egress = .none) (ha : q.abortElapsed = none)
    (closed : Bool) : q.rechecked false closed = q.resumed closed := by
  unfold SsqRecord.rechecked
  simp [h, SsqRecord.holding, SsqRecord.egressStands, he, ha]

/-- HOLD-ALL ends while another source stands: it leaves the hold set (R167). -/
theorem SsqRecord.rechecked_stays {q : SsqRecord} (h : q.state = .held) (hs : q.egress ≠ .none ∨ q.abortElapsed ≠ none)
    (closed : Bool) : q.rechecked false closed = q.hold false := by
  have hh : q.holding false = true := by
    simpa [SsqRecord.holding, SsqRecord.egressStands, Option.isSome_iff_ne_none] using hs
  unfold SsqRecord.rechecked
  simp only [h, hh, if_true]

/-- A sequencer resumed as R171 and R172 say is what the obligation asks of the vault. -/
theorem State.resumes_of_resumed {s t : State} {v : Vault}
    (h : t.sequencer v = (s.sequencer v).resumed (s.countsNormal v .vaultContact)) : s.resumes t v := by
  have hcounts (hr : 0 < (s.sequencer v).resumeTicks) : t.sequencer v =
      { s.sequencer v with state := .countdown, remaining := some (s.sequencer v).resumeTicks }.settled := h.trans (if_pos hr)
  have hexpires (hr : (s.sequencer v).resumeTicks = 0) := h.trans (if_neg (Nat.not_lt.2 hr.le))
  refine ⟨fun hr => ?_, fun hr hn => ?_, fun hr hn => ?_⟩
  · rw [hcounts hr]
    exact ⟨rfl, rfl⟩
  · rw [(hexpires hr).trans (if_pos hn)]
    exact ⟨rfl, rfl⟩
  · rw [(hexpires hr).trans (if_neg (Bool.eq_false_iff.1 hn))]
    exact ⟨rfl, rfl⟩

/-! ### The HOLD-ALL source judged again at every vault -/

theorem foldl_part_of_not_mem {β : Type} (part : State → β) (f : Vault → State → State) {w : Vault}
    (h : ∀ v s, v ≠ w → part (f v s) = part s) {l : List Vault} (hw : w ∉ l) (s : State) :
    part (l.foldl (fun s v => f v s) s) = part s := by
  induction l generalizing s with
  | nil => rfl
  | cons v l ih =>
    obtain ⟨hv, hl⟩ := List.ne_and_not_mem_of_not_mem_cons hw
    exact (ih hl (f v s)).trans (h v s hv.symm)

/-- What the changes at the other vaults leave as it is becomes, over every vault, what the change at the one makes of it. -/
theorem eachVault_at {β : Type} (part : State → β) (f : Vault → State → State) {w : Vault}
    (h : ∀ v s, v ≠ w → part (f v s) = part s) (s : State) :
    ∃ u, part u = part s ∧ part (eachVault f s) = part (f w u) := by
  obtain ⟨l, r, hall⟩ := List.append_of_mem (Vault.mem_all w)
  have hnodup := Vault.nodup_all
  rw [hall, List.nodup_middle, List.nodup_cons, List.mem_append, not_or] at hnodup
  obtain ⟨⟨hl, hr⟩, -⟩ := hnodup
  refine ⟨l.foldl (fun s v => f v s) s, foldl_part_of_not_mem part f h hl s, ?_⟩
  rw [eachVault, hall, List.foldl_append]
  exact foldl_part_of_not_mem part f h hr _

/-- One state is the other with the sequencers replaced, but for the claims and the link. -/
def State.sameButSsq (s t : State) : Prop := t = { s with ssq := t.ssq, claims := t.claims, link := t.link }

theorem Resequenced.sameButSsq {v : Vault} {q : SsqRecord} {s t : State} (h : Resequenced v q s t) : s.sameButSsq t := by
  unfold State.sameButSsq
  rw [h]

theorem recheckAllHolds_same (s : State) : s.sameButSsq (recheckAllHolds s) :=
  eachVault_keeps (P := s.sameButSsq) _ (fun v u h => by
    have hu := (recheckHolds_resequenced v u).sameButSsq
    unfold State.sameButSsq at *
    rw [hu, h]) rfl

/-- What the hold sources judged again at a vault go by (R167, R171, R172). -/
def State.holdView (s : State) (v : Vault) : SsqRecord × Bool × Bool :=
  (s.sequencer v, s.holdAllStands, s.countsNormal v .vaultContact)

/-- The hold sources judged again at a vault leave what every other goes by. -/
theorem recheckHolds_holdView {v w : Vault} (hw : w ≠ v) (s : State) : (recheckHolds w s).holdView v = s.holdView v := by
  have h := recheckHolds_resequenced w s
  have hseq : (recheckHolds w s).sequencer v = s.sequencer v := by
    rw [h, State.sequencer, PerVault.get_set_of_ne _ _ hw]
    rfl
  have hrest : ((recheckHolds w s).holdAllStands, (recheckHolds w s).countsNormal v .vaultContact)
      = (s.holdAllStands, s.countsNormal v .vaultContact) := by rw [h]; rfl
  exact congrArg₂ Prod.mk hseq hrest

theorem recheckAllHolds_sequencer (v : Vault) (s : State) : (recheckAllHolds s).sequencer v =
    (s.sequencer v).rechecked s.holdAllStands (s.countsNormal v .vaultContact) := by
  obtain ⟨u, hu, hat⟩ := eachVault_at (State.holdView · v) recheckHolds (fun w u hw => recheckHolds_holdView hw u) s
  obtain ⟨hq, hh, hc⟩ : u.sequencer v = s.sequencer v ∧ u.holdAllStands = s.holdAllStands
      ∧ u.countsNormal v .vaultContact = s.countsNormal v .vaultContact := by
    simpa only [State.holdView, Prod.mk.injEq] using hu
  have hv : (recheckHolds v u).sequencer v = (u.sequencer v).rechecked u.holdAllStands (u.countsNormal v .vaultContact) := by
    rw [recheckHolds_resequenced v u, State.sequencer, PerVault.get_set_self]
  rw [hq, hh, hc] at hv
  exact (congrArg Prod.fst hat).trans hv

/-! ### The site inputs judged again -/

theorem SiteLine.mem_all (i : SiteLine) : i ∈ SiteLine.all := by cases i <;> decide

theorem Lqu.holdAllInput_iff (l : Lqu) (roles : PerSite Role) : l.holdAllInput roles = true ↔
    ∃ j, roles.get j = .holdAll ∧ (l.site.get j).qualified = some .active := by
  simp [Lqu.holdAllInput, Lqu.active, List.any_eq_true, SiteLine.mem_all]

/-- The combination, where some line is a member (R72). -/
theorem Lqu.combination_iff {roles : PerSite Role} {i : SiteLine} (hi : roles.get i = .evacuateMember) (l : Lqu) :
    l.combination roles = true ↔ ∀ j, roles.get j = .evacuateMember → (l.site.get j).qualified = some .active := by
  have hany : (SiteLine.all.any fun j => decide (roles.get j = .evacuateMember)) = true :=
    List.any_eq_true.2 ⟨i, SiteLine.mem_all i, decide_eq_true hi⟩
  rw [Lqu.combination, hany, Bool.true_and, List.all_eq_true]
  simp [Lqu.active, SiteLine.mem_all, imp_iff_not_or]

/-- The HOLD-ALL input judged again: the LQU takes it (R71). -/
theorem judgeHoldAll_same (s : State) :
    ({ s with lqu := { s.lqu with holdAll := s.lqu.holdAllInput s.cfg.site.roles } } : State).sameButSsq (judgeHoldAll s) := by
  unfold judgeHoldAll
  dsimp only
  split
  · next h =>
    rw [h]
    rfl
  · exact recheckAllHolds_same _

/-- A change of the HOLD-ALL input reaches every sequencer (R71, R171). -/
theorem judgeHoldAll_sequencer {s : State} (h : s.lqu.holdAllInput s.cfg.site.roles ≠ s.lqu.holdAll) (v : Vault) :
    (judgeHoldAll s).sequencer v = (s.sequencer v).rechecked
      (s.globalHold || s.lqu.holdAllInput s.cfg.site.roles) (s.countsNormal v .vaultContact) := by
  unfold judgeHoldAll
  dsimp only
  rw [if_neg h]
  exact recheckAllHolds_sequencer v _

/-- The combination judged again: nothing but the LQU changes, and the count starts again where the combination changes
(R72). -/
theorem judgeCombination_judged (s : State) : ∃ l, judgeCombination s = { s with lqu := l }
    ∧ l.stands = s.lqu.combination s.cfg.site.roles ∧ l.site = s.lqu.site ∧ l.holdAll = s.lqu.holdAll
    ∧ (l.stands ≠ s.lqu.stands → l.count = 0 ∧ l.completed = false)
    ∧ (l.stands = s.lqu.stands → l.count = s.lqu.count ∧ l.completed = s.lqu.completed) := by
  unfold judgeCombination
  dsimp only
  split
  · next h => exact ⟨s.lqu, rfl, h.symm, rfl, rfl, fun hn => absurd rfl hn, fun _ => ⟨rfl, rfl⟩⟩
  · next h => exact ⟨_, rfl, rfl, rfl, rfl, fun _ => ⟨rfl, rfl⟩, fun he => absurd he h⟩

/-! ### The change -/

/-- A line's record qualified in its new state (R63). -/
def Qualification.taken (q : Qualification Reading) (new : Reading) : Qualification Reading :=
  { q with qualified := some new, candidate := none, run := 0, start := none }

/-- The state once a site line is qualified in its new state (R63). -/
def State.siteLineTaken (s : State) (i : SiteLine) (new : Reading) : State :=
  (s.without (.siteLine i)).withLqu { s.lqu with site := s.lqu.site.set i ((s.lqu.site.get i).taken new) }

/-- The state once LINE-FAULT has been raised or ended for a site line in use (R67). -/
def State.siteLineJudged (s : State) (i : SiteLine) (new : Reading) : State :=
  lineFault (.siteLine i) new (s.siteLineTaken i new)

section
variable {s : State} {i : SiteLine} {new : Reading}

theorem takeSiteLine_role (hcand : (s.lqu.site.get i).candidate = some new) :
    (s.cfg.site.roles.get i = .none → takeSiteLine i (s.without (.siteLine i)) = s.siteLineTaken i new)
      ∧ (s.cfg.site.roles.get i = .holdAll →
          takeSiteLine i (s.without (.siteLine i)) = judgeHoldAll (s.siteLineJudged i new))
      ∧ (s.cfg.site.roles.get i = .evacuateMember →
          takeSiteLine i (s.without (.siteLine i)) = judgeCombination (s.siteLineJudged i new)) := by
  have hc : ((s.without (.siteLine i)).lqu.site.get i).candidate = some new := hcand
  have hq : ((s.without (.siteLine i)).lqu.site.get i).changed = (s.lqu.site.get i).taken new := by
    rw [Qualification.changed, hc]
    rfl
  have hcfg : (s.without (.siteLine i)).cfg = s.cfg := rfl
  refine ⟨fun hr => ?_, fun hr => ?_, fun hr => ?_⟩ <;>
    (unfold takeSiteLine; simp only [hc, hq, State.withLqu_cfg, hcfg, hr]; rfl)

theorem State.siteLineJudged_same (s : State) (i : SiteLine) (new : Reading) :
    (s.siteLineTaken i new).sameButAlarms (s.siteLineJudged i new) := lineFault_sameButAlarms _ _ _

theorem State.siteLineJudged_stands (ha : s.atu.lawful = true) (hroom : s.alarmRoom) (hnew : new = .opened ∨ new = .shorted) :
    (s.siteLineJudged i new).conditionStands (lineFaultKey (.siteLine i)) = true := by
  have h : (raised (lineFaultKey (.siteLine i)) (s.siteLineTaken i new)).conditionStands (lineFaultKey (.siteLine i)) = true :=
    raised_stands (s := s.siteLineTaken i new) ha hroom.lt _
  rcases hnew with rfl | rfl <;> exact h

/-- What a site line's change leaves as it is, whatever its role. -/
structure SiteLineKept (s t : State) (i : SiteLine) (new : Reading) : Prop where
  site : t.lqu.site = s.lqu.site.set i ((s.lqu.site.get i).taken new)
  frame : t.occ = s.occ ∧ t.nva = s.nva ∧ t.cfg = s.cfg ∧ t.doors = s.doors ∧ t.lines = s.lines

theorem SiteLineKept.line {t : State} (h : SiteLineKept s t i new) : t.lqu.site.get i = (s.lqu.site.get i).taken new
    ∧ ∀ j, j ≠ i → t.lqu.site.get j = s.lqu.site.get j := by
  simp only [h.site, PerSite.get_set, if_true, true_and]
  exact fun j hj => if_neg hj.symm

theorem siteLineTaken_kept : SiteLineKept s (s.siteLineTaken i new) i new := ⟨rfl, rfl, rfl, rfl, rfl, rfl⟩

theorem judgeHoldAll_kept : SiteLineKept s (judgeHoldAll (s.siteLineJudged i new)) i new := by
  rw [judgeHoldAll_same, State.siteLineJudged_same]
  exact ⟨rfl, rfl, rfl, rfl, rfl, rfl⟩

theorem judgeCombination_kept : SiteLineKept s (judgeCombination (s.siteLineJudged i new)) i new := by
  obtain ⟨l, hl, -, hsite, -⟩ := judgeCombination_judged (s.siteLineJudged i new)
  rw [hl]
  rw [State.siteLineJudged_same] at hsite ⊢
  exact ⟨hsite, rfl, rfl, rfl, rfl, rfl⟩

/-- A HOLD-ALL line's change gives the site input, and a change of the input reaches every sequencer (R71, R171). -/
theorem judgeHoldAll_siteLine {t : State} (ht : t = judgeHoldAll (s.siteLineJudged i new)) :
    t.atu = (s.siteLineJudged i new).atu ∧ t.lqu.holdAll = t.lqu.holdAllInput s.cfg.site.roles
      ∧ t.lqu.stands = s.lqu.stands
      ∧ (t.lqu.holdAll ≠ s.lqu.holdAll → ∀ v, t.sequencer v =
          (s.sequencer v).rechecked (s.globalHold || t.lqu.holdAll) (s.countsNormal v .vaultContact)) := by
  obtain ⟨u, hu⟩ : ∃ u, u = s.siteLineJudged i new := ⟨_, rfl⟩
  have hsame : u = _ := hu.trans (s.siteLineJudged_same i new)
  have hlqu : u.lqu = (s.siteLineTaken i new).lqu := (congrArg (fun x : State => x.lqu) hsame :)
  have hread : (u.cfg, u.ssq, u.globalHold, u.lines) = (s.cfg, s.ssq, s.globalHold, s.lines) :=
    (congrArg (fun x : State => (x.cfg, x.ssq, x.globalHold, x.lines)) hsame :)
  obtain ⟨hcfg, hssq, hglobal, hlines⟩ : u.cfg = s.cfg ∧ u.ssq = s.ssq ∧ u.globalHold = s.globalHold ∧ u.lines = s.lines := by
    simpa only [Prod.mk.injEq] using hread
  rw [← hu] at ht ⊢
  have hjudged := judgeHoldAll_same u
  rw [← ht] at hjudged
  have hl : t.lqu = { u.lqu with holdAll := u.lqu.holdAllInput u.cfg.site.roles } :=
    (congrArg (fun x : State => x.lqu) hjudged :)
  refine ⟨(congrArg (fun x : State => x.atu) hjudged :), ?_, ?_, fun hne v => ?_⟩
  · rw [hl, hcfg]
    rfl
  · rw [hl, hlqu]
    rfl
  · have hne' : u.lqu.holdAllInput u.cfg.site.roles ≠ u.lqu.holdAll := by
      rw [hl] at hne
      exact fun e => hne (e.trans (by rw [hlqu]; rfl))
    have hseq := judgeHoldAll_sequencer hne' v
    rw [← ht] at hseq
    rw [hseq, hl]
    simp only [State.sequencer, State.countsNormal, State.lineRecord, hssq, hglobal, hlines]

/-- An evacuation member's change gives the combination, whose change starts its count again (R72). -/
theorem judgeCombination_siteLine {t : State} (ht : t = judgeCombination (s.siteLineJudged i new)) :
    t.atu = (s.siteLineJudged i new).atu ∧ t.lqu.stands = t.lqu.combination s.cfg.site.roles
      ∧ t.lqu.holdAll = s.lqu.holdAll ∧ t.ssq = s.ssq
      ∧ (t.lqu.stands ≠ s.lqu.stands → t.lqu.count = 0 ∧ t.lqu.completed = false)
      ∧ (t.lqu.stands = s.lqu.stands → t.lqu.count = s.lqu.count ∧ t.lqu.completed = s.lqu.completed) := by
  obtain ⟨l, hl, hstands, hsite, hhold, hchanged, hsame⟩ := judgeCombination_judged (s.siteLineJudged i new)
  have hlqu : (s.siteLineJudged i new).lqu = (s.siteLineTaken i new).lqu :=
    (congrArg (fun x : State => x.lqu) (s.siteLineJudged_same i new) :)
  have hcfg : (s.siteLineJudged i new).cfg = s.cfg := (congrArg (fun x : State => x.cfg) (s.siteLineJudged_same i new) :)
  have hssq : (s.siteLineJudged i new).ssq = s.ssq := (congrArg (fun x : State => x.ssq) (s.siteLineJudged_same i new) :)
  obtain ⟨hcomb, -⟩ := Lqu.judged_congr hsite s.cfg.site.roles
  rw [hlqu] at hhold hchanged hsame
  rw [hcfg] at hstands
  rw [ht, hl]
  exact ⟨rfl, hstands.trans hcomb.symm, hhold, hssq, hchanged, hsame⟩

/-- The qualified change of a site line, whatever its role (R67, R70 to R72). -/
theorem takeSiteLine_kept (hcand : (s.lqu.site.get i).candidate = some new) :
    SiteLineKept s (takeSiteLine i (s.without (.siteLine i))) i new
      ∧ (s.cfg.site.roles.get i ≠ .none →
          (takeSiteLine i (s.without (.siteLine i))).atu = (s.siteLineJudged i new).atu) := by
  obtain ⟨hnone, hhold, hmember⟩ := takeSiteLine_role hcand
  cases hr : s.cfg.site.roles.get i with
  | none =>
    rw [hnone hr]
    exact ⟨siteLineTaken_kept, fun hn => absurd rfl hn⟩
  | holdAll =>
    rw [hhold hr]
    exact ⟨judgeHoldAll_kept, fun _ => (judgeHoldAll_siteLine rfl).1⟩
  | evacuateMember =>
    rw [hmember hr]
    exact ⟨judgeCombination_kept, fun _ => (judgeCombination_siteLine rfl).1⟩

end

/-- HOLD-ALL begins and ends at the vaults (R71, R171). -/
theorem State.holdAll_changes {s t : State} (h : t.lqu.holdAll ≠ s.lqu.holdAll → ∀ v, t.sequencer v =
      (s.sequencer v).rechecked (s.globalHold || t.lqu.holdAll) (s.countsNormal v .vaultContact)) :
    (t.lqu.holdAll = true → s.lqu.holdAll = false → ∀ v,
        (s.sequencer v).state = .countdown ∨ (s.sequencer v).state = .awaitClosure →
        (t.sequencer v).state = .held ∧ (t.sequencer v).holdHoldAll = true
          ∧ (t.sequencer v).remaining = (s.sequencer v).remaining)
      ∧ (t.lqu.holdAll = false → s.lqu.holdAll = true → s.globalHold = false → ∀ v, (s.sequencer v).state = .held →
          ((s.sequencer v).egress = .none → (s.sequencer v).abortElapsed = none → s.resumes t v)
            ∧ ((s.sequencer v).egress ≠ .none ∨ (s.sequencer v).abortElapsed ≠ none →
                (t.sequencer v).state = .held ∧ (t.sequencer v).holdHoldAll = false
                  ∧ (t.sequencer v).remaining = (s.sequencer v).remaining)) := by
  refine ⟨fun hon hoff v hq => ?_, fun hoff hon hg v hq => ?_⟩
  · have hv := h (by rw [hon, hoff]; exact Bool.noConfusion) v
    rw [hon, Bool.or_true] at hv
    rw [hv]
    exact SsqRecord.rechecked_held hq _
  · have hv := h (by rw [hon, hoff]; exact Bool.noConfusion) v
    rw [hg, hoff, Bool.or_false] at hv
    refine ⟨fun he ha => State.resumes_of_resumed (hv.trans (SsqRecord.rechecked_freed hq he ha _)), fun hs => ?_⟩
    rw [hv, SsqRecord.rechecked_stays hq hs]
    exact ⟨rfl, rfl, rfl⟩

/-- Settles O57: each role's effect from what its judgment does, the release circuit, and the completion that reaches every
vault. -/
theorem siteLinesAndEvacuation : Obligations.SiteLinesAndEvacuation := by
  unfold Obligations.SiteLinesAndEvacuation
  refine ⟨fun s i new ha h hcand => ?_, fun s v new => exec_releaseCircuitChange, fun s => exec_evacuationCombinationCompletion⟩
  obtain ⟨hkept, hatu⟩ := takeSiteLine_kept hcand
  obtain ⟨hnone, hhold, hmember⟩ := takeSiteLine_role hcand
  refine ⟨takeSiteLine i (s.without (.siteLine i)), event_comes h, hkept.line.1, hkept.line.2, fun hr => ?_, fun hr => ?_,
    fun hr => ?_, fun hr hnew hroom => ?_, hkept.frame⟩
  · rw [hnone hr]
    exact ⟨rfl, rfl, rfl⟩
  · obtain ⟨-, hinput, hstands, hseq⟩ := judgeHoldAll_siteLine (hhold hr)
    exact ⟨hinput ▸ Lqu.holdAllInput_iff _ _, hstands, State.holdAll_changes hseq⟩
  · obtain ⟨-, hstands, hrest⟩ := judgeCombination_siteLine (hmember hr)
    exact ⟨hstands ▸ Lqu.combination_iff hr _, hrest⟩
  · have hs := State.siteLineJudged_stands ha hroom hnew (i := i)
    unfold State.conditionStands at hs ⊢
    rw [hatu hr]
    exact hs

end Sys2Proof.Machine
